-- ==== Sys2Proof/Word.lean ====
section
/-!
DEFINITION. The two word types of the TW-24: a byte on a serial line, and a set of services (R192).
-/
namespace Sys2Proof

/-- One byte of a serial line or of a payload. -/
abbrev Byte := BitVec 8

/-- A set of services: service n is bit n (R192, "Sets of services"). -/
abbrev ServiceSet := BitVec 16

end Sys2Proof
end

