-- ==== Sys2Proof/Syntax.lean ====
section
/-!
DEFINITION. The commands of the TW-24, one constructor per row of spec/opcode_table.json, and the data they carry.
-/
namespace Sys2Proof

/-- The two serial link ports: S faces the site computer, F the field hub. -/
inductive PortId
  | s
  | f
  deriving DecidableEq, Repr

/-- The 22 cause kinds of Table 8-3 (R162), in the order of their numbers. -/
inductive CauseKind
  | estopLine
  | estopNode
  | patternF
  | patternS
  | manual
  | encoderSilent
  | encoderGap
  | nodeSilent
  | trackFault
  | crush
  | entryCrush
  | overlength
  | noRoller
  | exitMissing
  | brushBind
  | driveFault
  | driveNoStart
  | driveNoStop
  | stopUnconfirmed
  | drift
  | overfill
  | urgentOverflow
  deriving DecidableEq, Repr

/-- The detail of a raising: four fields, each present or absent (R162). -/
structure CauseDetail where
  node : Option Nat
  station : Option Nat
  car : Option Nat
  arg : Option Nat
  deriving DecidableEq, Repr

/-- A frame with its escapes removed (Table 10-1). LEN is the payload's length; HCHK and the CRC of a complete
frame follow from these fields (R5, R7). -/
structure Frame where
  dest : Byte
  src : Byte
  kind : Byte
  seq : Byte
  payload : List Byte
  deriving DecidableEq, Repr

/-- The states a DRIVE_STATE reports (Table 10-3). -/
inductive DriveReport
  | running
  | stopped
  | fault
  deriving DecidableEq, Repr

/-- The states an ACT_STATE reports, FAULT apart, which is a command of its own (Table 10-3, R149). -/
inductive ActReport
  | engaged
  | retracted
  | parked
  deriving DecidableEq, Repr

/-- The commands of the block: one constructor per row of spec/opcode_table.json.
Frames handed over by the Node Table carry the operands of Table 2-7; management requests carry the SEQ of the
request frame and the argument bytes after the request code (Table 10-5). -/
inductive Instr
  /-- POWER_ON_RESET (R29): `estop` is the level of the ESTOP line as the reset ends (R178). -/
  | powerOnReset (estop : Bool)
  /-- LINE_RESET (R2): RESET has been held asserted for one tick. -/
  | lineReset
  /-- LINE_RESET_END (R2): RESET is first seen deasserted; `estop` as for power-on (R178). -/
  | lineResetEnd (estop : Bool)
  /-- TICK (R1). -/
  | tick
  /-- RECEIVE_BYTE (R3). -/
  | receiveByte (p : PortId) (b : Byte)
  /-- TRANSMIT_END (R17). -/
  | transmitEnd (p : PortId)
  /-- NODE_FRAME_TAKE (R33): the Node Table takes the head frame of a port's inbound queue. -/
  | nodeFrameTake (p : PortId)
  /-- STEP (R125). `early` picks an order R129 leaves open: `some i` if the Halt block takes the i-th cause this
  step raises before Stations takes the step's crossings, `none` if it takes none of them before. -/
  | step (src : Nat) (delta : Byte) (early : Option Nat)
  /-- ENTRY_EYE_BLOCKED (R110). -/
  | entryEyeBlocked (src : Nat)
  /-- ENTRY_EYE_CLEAR (R130). -/
  | entryEyeClear (src : Nat)
  /-- MERGE_EYE_BLOCKED (R97). -/
  | mergeEyeBlocked (lane : Nat)
  /-- MERGE_EYE_CLEAR (R98). -/
  | mergeEyeClear (lane : Nat)
  /-- CHECK_EYE_EDGE (R133, R134). -/
  | checkEyeEdge (src : Nat) (blocked : Bool)
  /-- EXIT_EYE_BLOCKED (R136). -/
  | exitEyeBlocked (src : Nat)
  /-- EXIT_EYE_CLEAR (R137). -/
  | exitEyeClear (src : Nat)
  /-- WHEEL_SWITCH_EDGE (R131). -/
  | wheelSwitchEdge (src : Nat) (blocked : Bool)
  /-- GATE_STATE (R106): `isOpen` for a report OPEN, clear for CLOSED. -/
  | gateState (lane : Nat) (isOpen : Bool)
  /-- QUOTE (R53); a member id of 0 stands for none. -/
  | quote (lane : Nat) (plan : Nat) (addons : ServiceSet) (member : Nat)
  /-- PAID (R58); `tender` is the code as the kiosk gave it. -/
  | paid (lane : Nat) (token : Nat) (tender : Nat)
  /-- CANCEL (R60). -/
  | cancel (lane : Nat) (token : Nat)
  /-- ACT_STATE (R149). -/
  | actState (station : Nat) (report : ActReport)
  /-- ACT_STATE_FAULT (R154). -/
  | actStateFault (station : Nat)
  /-- CURRENT (R150), in 0.1 A. -/
  | current (station : Nat) (value : Nat)
  /-- DRIVE_STATE as Tracking takes it (R118). -/
  | driveState (src : Nat) (report : DriveReport) (level : Nat) (roller : Bool)
  /-- HALT_DRIVE_CONFIRM: the same DRIVE_STATE as the Halt block takes it (R169). -/
  | haltDriveConfirm (src : Nat) (report : DriveReport)
  /-- STOP_ACTIVE (R164). -/
  | stopActive (src : Nat)
  /-- STOP_RELEASED (R164). -/
  | stopReleased (src : Nat)
  /-- ESTOP_LINE_ASSERTED (R164). -/
  | estopLineAsserted
  /-- ESTOP_LINE_DEASSERTED (R164). -/
  | estopLineDeasserted
  /-- MEMBER_DATA (R79), its fields as the frame gives them. -/
  | memberData (id : Nat) (known : Nat) (tier : Nat) (limit : Nat) (uses : Nat)
  /-- SITE_FIELD_FRAME (R25). -/
  | siteFieldFrame (frame : Frame)
  /-- READ_ENTRY (R181). -/
  | readEntry (seq : Byte) (args : List Byte)
  /-- WRITE_ENTRY naming an unknown or read-only table (R182). -/
  | writeEntry (seq : Byte) (args : List Byte)
  /-- WRITE_ENTRY of the NODE table (R32). -/
  | writeNodeEntry (seq : Byte) (args : List Byte)
  /-- WRITE_ENTRY of the STATION table (R143). -/
  | writeStationEntry (seq : Byte) (args : List Byte)
  /-- WRITE_ENTRY of the PARAM table (R183). -/
  | writeParamEntry (seq : Byte) (args : List Byte)
  /-- WRITE_ENTRY of the PLAN table (R48). -/
  | writePlanEntry (seq : Byte) (args : List Byte)
  /-- WRITE_ENTRY of the SERVICE table (R47). -/
  | writeServiceEntry (seq : Byte) (args : List Byte)
  /-- ARM (R175). -/
  | arm (seq : Byte) (args : List Byte)
  /-- DISARM (R176). -/
  | disarm (seq : Byte) (args : List Byte)
  /-- RELEASE (R172). -/
  | release (seq : Byte) (args : List Byte)
  /-- FORCE_HALT (R174). -/
  | forceHalt (seq : Byte) (args : List Byte)
  /-- CLEAR_CAUSE (R171). -/
  | clearCause (seq : Byte) (args : List Byte)
  /-- LANE_OPEN (R51). -/
  | laneOpen (seq : Byte) (args : List Byte)
  /-- LANE_CLOSE (R68). -/
  | laneClose (seq : Byte) (args : List Byte)
  /-- CANCEL_ORDER (R67). -/
  | cancelOrder (seq : Byte) (args : List Byte)
  /-- STATION_SERVICE (R156). -/
  | stationService (seq : Byte) (args : List Byte)
  /-- REMOVE_CAR (R139). -/
  | removeCar (seq : Byte) (args : List Byte)
  /-- MEMBER_LOAD (R90). -/
  | memberLoad (seq : Byte) (args : List Byte)
  /-- MEMBER_PIN (R91). -/
  | memberPin (seq : Byte) (args : List Byte)
  /-- MEMBER_UNPIN (R91). -/
  | memberUnpin (seq : Byte) (args : List Byte)
  /-- DAY_RESET (R92). -/
  | dayReset (seq : Byte) (args : List Byte)
  /-- MEMBER_FLUSH (R93). -/
  | memberFlush (seq : Byte) (args : List Byte)
  /-- PORT_RESET (R28). -/
  | portReset (seq : Byte) (args : List Byte)
  /-- TAKE_NOTICE (R188). -/
  | takeNotice (seq : Byte) (args : List Byte)
  /-- SET_NOTICE_MASK (R189). -/
  | setNoticeMask (seq : Byte) (args : List Byte)
  /-- MGMT_UNKNOWN_REQUEST (R180). -/
  | mgmtUnknownRequest (seq : Byte) (code : Byte)
  /-- QUOTE_LIFE_EXPIRY (R57). -/
  | quoteLifeExpiry (lane : Nat)
  /-- FETCH_TIMER_EXPIRY (R83). -/
  | fetchTimerExpiry (entry : Nat)
  /-- ADMIT_WINDOW_EXPIRY (R107). -/
  | admitWindowExpiry
  /-- START_WAIT_EXPIRY (R119). -/
  | startWaitExpiry
  /-- STOP_WAIT_EXPIRY (R119). -/
  | stopWaitExpiry
  /-- IDLE_TIMER_EXPIRY (R122). -/
  | idleTimerExpiry
  /-- BROADCAST_TIMER_EXPIRY (R168). -/
  | broadcastTimerExpiry
  /-- HALT_WAIT_EXPIRY (R170). -/
  | haltWaitExpiry
  /-- HOLD_TIMER_EXPIRY (R173). -/
  | holdTimerExpiry
  /-- NODE_SILENT (R41). -/
  | nodeSilent (addr : Nat)
  /-- START_REQUEST (R117): Tracking takes the start request handed to it. -/
  | startRequest
  /-- RAISE_CAUSE (R165): the Halt block takes a cause a block has raised. -/
  | raiseCause (kind : CauseKind) (detail : CauseDetail)
  deriving DecidableEq, Repr

end Sys2Proof
end

