-- ==== Sys2Proof/Config.lean ====
section
/-!
DEFINITION. What the part fixes: line bytes, queue sizes, frame kinds, table sizes, and the Parameter Table's names,
ranges and defaults. The spec leaves no value free, so there is no free value here.
-/
namespace Sys2Proof.Config

/-- The delimiter byte (section 1.1). -/
def delimiter : Byte := 0xC7
/-- The escape byte (section 1.1). -/
def escape : Byte := 0xCB
/-- The halt byte (section 1.1). -/
def haltByte : Byte := 0xE5
/-- Halt bytes in a row that make the halt pattern (R9). -/
def haltRun : Nat := 6
/-- Longest payload (R5). -/
def maxLen : Nat := 48
/-- Places of an inbound queue (R12). -/
def inboundSize : Nat := 32
/-- Frames an inbound queue holds before normal-class frames are dropped (R12). -/
def inboundNormal : Nat := 24
/-- Places of an urgent outbound queue (R22). -/
def urgentSize : Nat := 16
/-- Places of a normal outbound queue (R21). -/
def normalSize : Nat := 32

/-- Orders a lane may hold, its open quote counted (R62). -/
def laneSize : Nat := 6
/-- Places of the Car List (R123). -/
def carListSize : Nat := 16
/-- Most records PINNED at once (R73). -/
def pinLimit : Nat := 8
/-- Highest travel of the tunnel (introduction, "Travel"). -/
def maxTravel : Nat := 4095

/-- The hub's address (Table 0-2). -/
def hubAddr : Nat := 62
/-- The broadcast address (Table 0-2). -/
def broadcastAddr : Nat := 63

/-- The generator of the frame CRC (R7). -/
def crcPoly : BitVec 16 := 0x8BB7

/-- The parameters of Table 9-4, in index order. -/
inductive Param
  | entryGap
  | collisionGap
  | maxCarLen
  | rollerLimit
  | exitPos
  | trackTol
  | slipLimit
  | driftLimit
  | admitWindow
  | quoteLife
  | fetchWait
  | startWait
  | stopWait
  | haltWait
  | bcastEvery
  | holdTicks
  | idleTicks
  | pauseAt
  | resumeAt
  deriving DecidableEq, Repr

/-- One row of Table 9-4: lowest and highest value, and the default. -/
structure ParamRow where
  low : Nat
  high : Nat
  default : Nat
  deriving DecidableEq, Repr

/-- Table 9-4 by index. -/
def paramTable : List ParamRow :=
  [⟨8, 255, 60⟩, ⟨1, 63, 12⟩, ⟨40, 511, 260⟩, ⟨10, 255, 80⟩, ⟨100, 4095, 2400⟩, ⟨0, 31, 4⟩, ⟨1, 127, 24⟩,
   ⟨1, 255, 10⟩, ⟨1, 255, 80⟩, ⟨1, 255, 200⟩, ⟨1, 255, 30⟩, ⟨1, 255, 30⟩, ⟨1, 255, 20⟩, ⟨1, 255, 15⟩,
   ⟨1, 255, 5⟩, ⟨1, 255, 50⟩, ⟨1, 255, 150⟩, ⟨2, 24, 16⟩, ⟨0, 23, 8⟩]

/-- The index of a parameter in the PARAM table (Table 9-4). -/
def Param.index : Param → Nat
  | .entryGap => 0
  | .collisionGap => 1
  | .maxCarLen => 2
  | .rollerLimit => 3
  | .exitPos => 4
  | .trackTol => 5
  | .slipLimit => 6
  | .driftLimit => 7
  | .admitWindow => 8
  | .quoteLife => 9
  | .fetchWait => 10
  | .startWait => 11
  | .stopWait => 12
  | .haltWait => 13
  | .bcastEvery => 14
  | .holdTicks => 15
  | .idleTicks => 16
  | .pauseAt => 17
  | .resumeAt => 18

/-- Every parameter at its default (R191). -/
def paramDefaults : List Nat := paramTable.map (·.default)

/-- Frame kind codes (Table 10-2). -/
def kStep : Byte := 0x10
def kEdge : Byte := 0x11
def kCurrent : Byte := 0x12
def kActState : Byte := 0x13
def kDriveState : Byte := 0x14
def kStop : Byte := 0x15
def kGateState : Byte := 0x16
def kAlive : Byte := 0x17
def kQuote : Byte := 0x20
def kPaid : Byte := 0x21
def kCancel : Byte := 0x22
def kQuoteReply : Byte := 0x28
def kOrderReply : Byte := 0x29
def kStationCmd : Byte := 0x30
def kDriveCmd : Byte := 0x31
def kGateCmd : Byte := 0x32
def kHaltBcast : Byte := 0x33
def kWarn : Byte := 0x34
def kPause : Byte := 0x38
def kResume : Byte := 0x39
def kMgmt : Byte := 0x40
def kMgmtReply : Byte := 0x41
def kReport : Byte := 0x42
def kMemberFetch : Byte := 0x48
def kMemberData : Byte := 0x49
def kMemberStore : Byte := 0x4A
def kDisplay : Byte := 0x50

end Sys2Proof.Config
end

