-- ==== Sys2Proof/Machine/State.lean ====
section
/-!
DEFINITION. The state of the TW-24 as plain data, block by block (Table 0-1), and the state right after a power-on
reset.
-/
namespace Sys2Proof.Machine

/-- Why the block could stop with a fault. The spec names no event that stops it, so there is no reason. -/
inductive Fault
  deriving DecidableEq, Repr

/-- Why a command could be refused. -/
inductive Refusal
  /-- Raised by `exec` for a command that has no meaning yet; safe: nothing can be proved of such a command. -/
  | notModelled (mnemonic : String)
  deriving DecidableEq, Repr

/-- A timer (R1): `none` while stopped, else the ticks left. `some 0` is a timer that has reached zero and whose
expiry is not yet taken. -/
abbrev Timer := Option Nat

/-! ## Link Ports (Table 1-1) -/

/-- The receiver states of R3. -/
inductive RxState
  | hunt
  | collect
  | escape
  deriving DecidableEq, Repr

/-- A complete frame in an inbound queue with the class it took when it was offered (R11). -/
structure InFrame where
  frame : Frame
  safety : Bool
  deriving DecidableEq, Repr

/-- A frame in an outbound queue: the part's own, whose SRC, SEQ, HCHK and CRC are set as it is sent, or a
forwarded one, sent as it arrived (R16). -/
structure OutFrame where
  own : Bool
  frame : Frame
  deriving DecidableEq, Repr

/-- The frame on the line, complete, and whether a delimiter of its own opened it (R16). -/
structure Sending where
  frame : Frame
  opens : Bool
  deriving DecidableEq, Repr

/-- One link port (Table 1-1). `rxErrors` holds the six counts of Table 1-4 in its order. `lastDelim` says that the
last byte sent was a frame's closing delimiter (R16). `paused` is used by Port F alone (R14), `blocked` by Port S
alone (R25). -/
structure Port where
  rx : RxState
  coll : List Byte
  haltRun : Nat
  inq : List InFrame
  urgent : List OutFrame
  normal : List OutFrame
  line : Option Sending
  lastDelim : Bool
  paused : Bool
  rxErrors : List Nat
  overflow : Nat
  drop : Nat
  blocked : Nat
  outSeq : Nat
  deriving DecidableEq, Repr

/-! ## Node Table (Table 2-1) -/

/-- The roles of Table 2-1, in its order. -/
inductive Role
  | none
  | site
  | self
  | hub
  | encoder
  | entryEye
  | checkEye
  | exitEye
  | wheelSwitch
  | mergeEye
  | gate
  | kiosk
  | station
  | drive
  | estop
  deriving DecidableEq, Repr

/-- The refusal causes of Table 2-4, in its order. -/
inductive NodeError
  | unknownSrc
  | wrongPort
  | badDest
  | kindRefused
  | payload
  | staleSeq
  deriving DecidableEq, Repr

/-- One node record. `silent` is the liveness (set: SILENT). `silenceDue` is the model's own: the silence count has
reached the watch period and NODE_SILENT has not been taken yet (R39, log 6). -/
structure NodeRecord where
  role : Role
  lane : Nat
  station : Nat
  position : Nat
  forward : Bool
  watch : Nat
  silence : Nat
  silent : Bool
  synced : Bool
  expected : Nat
  gaps : Nat
  errors : Nat
  lastError : Option NodeError
  silenceDue : Bool
  deriving DecidableEq, Repr

/-! ## Sales (Tables 3-1 to 3-8) -/

/-- Table 3-1. -/
structure ServiceEntry where
  addable : Bool
  price : Nat
  deriving DecidableEq, Repr

/-- The states of a plan (Table 3-2). -/
inductive PlanState
  | absent
  | isOpen
  | closed
  deriving DecidableEq, Repr

/-- Table 3-2; availability is derived (R49). -/
structure PlanEntry where
  state : PlanState
  base : ServiceSet
  addons : ServiceSet
  price : Nat
  tier : Nat
  cap : Nat
  deriving DecidableEq, Repr

/-- The states of a quote slot (Table 3-4). -/
inductive SlotState
  | empty
  | pending
  | offered
  deriving DecidableEq, Repr

/-- Table 3-4. -/
structure Slot where
  state : SlotState
  token : Nat
  plan : Nat
  addons : ServiceSet
  price : Nat
  member : Option Nat
  life : Timer
  deriving DecidableEq, Repr

/-- What Sales holds for one lane: the sales state, the queue of order records (head first), the quote slot and the
token counter. -/
structure LaneSales where
  isOpen : Bool
  queue : List Nat
  slot : Slot
  token : Nat
  deriving DecidableEq, Repr

/-- The states of an order record: those of Table 3-6, and free (R61). -/
inductive OrderState
  | free
  | queued
  | staged
  | granted
  | bound
  deriving DecidableEq, Repr

/-- Table 3-6. The tender is the code of Table 10-3. -/
structure Order where
  state : OrderState
  tag : Nat
  lane : Nat
  plan : Nat
  services : ServiceSet
  tier : Nat
  cap : Nat
  price : Nat
  tender : Nat
  member : Option Nat
  car : Option Nat
  degraded : Bool
  deriving DecidableEq, Repr

structure Sales where
  services : List ServiceEntry
  plans : List PlanEntry
  lanes : List LaneSales
  orders : List Order
  free : List Nat
  tag : Nat
  deriving DecidableEq, Repr

/-! ## Member Cache (Tables 4-1, 4-2) -/

inductive MemberState
  | free
  | cached
  | pinned
  deriving DecidableEq, Repr

/-- Table 4-1. -/
structure Member where
  state : MemberState
  id : Nat
  tier : Nat
  limit : Nat
  uses : Nat
  dirty : Bool
  refs : Nat
  deriving DecidableEq, Repr

/-- Table 4-2: `id` is absent in a FREE entry; `waiting` holds, per lane 0 to 2, the tier its quote needs. -/
structure Fetch where
  id : Option Nat
  waiting : List (Option Nat)
  timer : Timer
  deriving DecidableEq, Repr

/-- The cache: 32 records, the recency list (record numbers, front first) and the Fetch Table. -/
structure Members where
  records : List Member
  recency : List Nat
  fetches : List Fetch
  deriving DecidableEq, Repr

/-! ## Merge and Entry (Table 5-1) -/

inductive Gate
  | closed
  | opening
  | isOpen
  | closing
  deriving DecidableEq, Repr

/-- One lane merge record; `eye` is set while the merge eye is BLOCKED. -/
structure LaneMerge where
  eye : Bool
  gate : Gate
  unpaid : Bool
  deriving DecidableEq, Repr

/-- The granted lane and order tag. -/
structure Grant where
  lane : Nat
  tag : Nat
  deriving DecidableEq, Repr

/-- `entryBlocked` is the entry eye; `grant` is the grant state with its lane and tag (R96). -/
structure Merge where
  lanes : List LaneMerge
  entryBlocked : Bool
  grant : Option Grant
  admitTimer : Timer
  lastGranted : Nat
  deriving DecidableEq, Repr

/-! ## Conveyor and Tracking (Tables 6-1, 6-4) -/

inductive Conveyor
  | stopped
  | starting
  | moving
  | stopping
  deriving DecidableEq, Repr

inductive CarState
  | entering
  | riding
  | exiting
  deriving DecidableEq, Repr

inductive Roller
  | waiting
  | called
  | engaged
  deriving DecidableEq, Repr

/-- Table 6-4. A tender of 0 is none; a member id of `none` is absent. -/
structure Car where
  tag : Nat
  order : Option Nat
  lane : Option Nat
  plan : Option Nat
  cap : Option Nat
  services : ServiceSet
  price : Nat
  tender : Nat
  member : Option Nat
  state : CarState
  front : Nat
  length : Option Nat
  roller : Roller
  nextEye : Nat
  nearMiss : Nat
  done : ServiceSet
  unannounced : Bool
  degraded : Bool
  haltedDuring : Bool
  deriving DecidableEq, Repr

/-- Table 6-1; the speed level is derived (R121). `eyes` is the check-eye list as address and position. -/
structure Track where
  conveyor : Conveyor
  pendingStart : Bool
  commanded : Nat
  reported : Nat
  lastReport : Option DriveReport
  roller : Bool
  startWait : Timer
  stopWait : Timer
  idle : Timer
  drift : Nat
  exitBlocked : Bool
  eyes : List (Nat × Nat)
  cars : List Car
  carTag : Nat
  deriving DecidableEq, Repr

/-! ## Stations (Table 7-1) -/

inductive StationKind
  | touch
  | spray
  | air
  deriving DecidableEq, Repr

inductive Activity
  | idle
  | engaged
  | backoff
  | retracting
  deriving DecidableEq, Repr

/-- Table 7-1. -/
structure Station where
  kind : StationKind
  service : Nat
  position : Nat
  startOff : Int
  endOff : Int
  actuator : Option Nat
  preload : Nat
  limit : Nat
  bind : Nat
  backLen : Nat
  active : Nat
  inService : Bool
  activity : Activity
  car : Option Nat
  backoffs : Nat
  stepsLeft : Nat
  lastCurrent : Nat
  deriving DecidableEq, Repr

/-! ## Halt (Table 8-1) -/

inductive Mode
  | offline
  | armed
  | halting
  | halted
  | recovering
  deriving DecidableEq, Repr

/-- Table 8-1. `lastDetails` holds one place per cause kind, in number order from 1. -/
structure Halt where
  mode : Mode
  permit : Bool
  causes : List CauseKind
  lastDetails : List (Option CauseDetail)
  first : Option (CauseKind × CauseDetail)
  estopActive : List Nat
  estopLine : Bool
  awaitDrive : Bool
  awaitStations : List Nat
  bcast : Timer
  haltWait : Timer
  hold : Timer
  deriving DecidableEq, Repr

/-! ## Management (Tables 9-4 to 9-7) -/

/-- The notice classes of Table 9-5, in priority order. -/
inductive NoticeClass
  | halt
  | track
  | station
  | sales
  | member
  | node
  | link
  | reportLost
  deriving DecidableEq, Repr

/-- A notice detail record (Table 10-8); `place` is the station, lane or service. -/
structure NoticeDetail where
  reason : Nat
  node : Option Nat
  place : Option Nat
  tag : Option Nat
  arg : Option Nat
  deriving DecidableEq, Repr

/-- One notice class: pending flag, mask enable, raise count and detail record (R185, R187). -/
structure NoticeRecord where
  pending : Bool
  enabled : Bool
  count : Nat
  detail : NoticeDetail
  deriving DecidableEq, Repr

inductive ResetKind
  | power
  | line
  deriving DecidableEq, Repr

structure Mgmt where
  params : List Nat
  notices : List NoticeRecord
  attn : Bool
  lastReset : ResetKind
  deriving DecidableEq, Repr

/-- The whole machine: the nine blocks of Table 0-1, the model's own records of events on their way between blocks
(`handed`, `raised`, `startRequested`; logs 3 to 5), whether a line reset is held (R2), and the queue of commands. -/
structure State where
  portS : Port
  portF : Port
  nodes : List NodeRecord
  sales : Sales
  members : Members
  merge : Merge
  track : Track
  stations : List Station
  halt : Halt
  mgmt : Mgmt
  handed : List Instr
  raised : List (CauseKind × CauseDetail)
  startRequested : Bool
  inReset : Bool
  pending : List Instr
  deriving DecidableEq, Repr

/-! ## Reset values -/

/-- A port after a reset, its queues empty (R29, Table 1-9). -/
def Port.cleared : Port :=
  { rx := .hunt, coll := [], haltRun := 0, inq := [], urgent := [], normal := [], line := none, lastDelim := false,
    paused := false, rxErrors := List.replicate 6 0, overflow := 0, drop := 0, blocked := 0, outSeq := 0 }

/-- The RESUME that the Port F urgent queue receives after a reset (R29). -/
def resumeFrame : OutFrame :=
  { own := true, frame := { dest := 62, src := 1, kind := Config.kResume, seq := 0, payload := [] } }

/-- Port F as a reset leaves it: the transmitter was idle as the RESUME joined the urgent queue, so its transmission has
begun, with SEQ 0 (R29, R17, log 9). -/
def Port.resuming : Port :=
  { Port.cleared with line := some { frame := resumeFrame.frame, opens := true }, outSeq := 1 }

/-- A node record of the given role with every other field at its power-on value (R46). -/
def NodeRecord.blank (r : Role) : NodeRecord :=
  { role := r, lane := 0, station := 0, position := 0, forward := false, watch := 0, silence := 0, silent := false,
    synced := false, expected := 0, gaps := 0, errors := 0, lastError := none, silenceDue := false }

/-- The 64 records after power-on (R46). -/
def nodesPowerOn : List NodeRecord :=
  [.blank .site, .blank .self] ++ List.replicate 60 (.blank .none) ++ [.blank .hub, .blank .none]

/-- An EMPTY quote slot (R72); the fields that are not meaningful are 0 or absent (log 20). -/
def Slot.blank : Slot :=
  { state := .empty, token := 0, plan := 0, addons := 0, price := 0, member := none, life := none }

/-- A lane after a reset (R72). -/
def LaneSales.blank : LaneSales := { isOpen := false, queue := [], slot := .blank, token := 0 }

/-- A free order record (R61). -/
def Order.blank : Order :=
  { state := .free, tag := 0, lane := 0, plan := 0, services := 0, tier := 0, cap := 0, price := 0, tender := 0,
    member := none, car := none, degraded := false }

/-- A Service Table entry after power-on (R72). -/
def ServiceEntry.blank : ServiceEntry := { addable := false, price := 0 }

/-- A Plan Table entry after power-on (R72). -/
def PlanEntry.blank : PlanEntry := { state := .absent, base := 0, addons := 0, price := 0, tier := 0, cap := 1 }

/-- Sales after a reset, with the two configuration tables given (R72). -/
def Sales.fresh (services : List ServiceEntry) (plans : List PlanEntry) : Sales :=
  { services := services, plans := plans, lanes := List.replicate 3 .blank, orders := List.replicate 40 .blank,
    free := List.range 40, tag := 0 }

/-- A FREE member record (R73). -/
def Member.blank : Member := { state := .free, id := 0, tier := 0, limit := 0, uses := 0, dirty := false, refs := 0 }

/-- A FREE Fetch Table entry (R78). -/
def Fetch.blank : Fetch := { id := none, waiting := List.replicate 3 none, timer := none }

/-- The Member Cache after a reset (R95). -/
def Members.fresh : Members :=
  { records := List.replicate 32 .blank, recency := [], fetches := List.replicate 4 .blank }

/-- A lane merge record after a reset (R116). -/
def LaneMerge.blank : LaneMerge := { eye := false, gate := .closed, unpaid := false }

/-- Merge and Entry after a reset (R116). -/
def Merge.fresh : Merge :=
  { lanes := List.replicate 3 .blank, entryBlocked := false, grant := none, admitTimer := none, lastGranted := 2 }

/-- Conveyor and Tracking after a reset (R141). -/
def Track.fresh : Track :=
  { conveyor := .stopped, pendingStart := false, commanded := 2, reported := 0, lastReport := none, roller := false,
    startWait := none, stopWait := none, idle := none, drift := 0, exitBlocked := false, eyes := [], cars := [],
    carTag := 0 }

/-- A Station Table entry after power-on (R160). -/
def Station.blank : Station :=
  { kind := .touch, service := 0, position := 0, startOff := 0, endOff := 0, actuator := none, preload := 0,
    limit := 2000, bind := 3, backLen := 8, active := 0, inService := true, activity := .idle, car := none,
    backoffs := 0, stepsLeft := 0, lastCurrent := 0 }

/-- The Halt block after a reset, before the ESTOP line is taken (R178). -/
def Halt.fresh : Halt :=
  { mode := .offline, permit := false, causes := [], lastDetails := List.replicate 22 none, first := none,
    estopActive := [], estopLine := false, awaitDrive := false, awaitStations := [], bcast := none, haltWait := none,
    hold := none }

/-- An empty detail record (R191). -/
def NoticeDetail.empty : NoticeDetail := { reason := 0, node := none, place := none, tag := none, arg := none }

/-- A notice class after a reset (R191). -/
def NoticeRecord.blank : NoticeRecord := { pending := false, enabled := true, count := 0, detail := .empty }

/-- Management after a reset, with the Parameter Table given (R191). -/
def Mgmt.fresh (params : List Nat) (last : ResetKind) : Mgmt :=
  { params := params, notices := List.replicate 8 .blank, attn := false, lastReset := last }

/-- The machine right after a power-on reset, the ESTOP loop closed (R29, R46, R72, R95, R116, R141, R160, R178,
R191; logs 8, 9, 20). -/
def State.reset : State :=
  { portS := .cleared, portF := .resuming, nodes := nodesPowerOn,
    sales := .fresh (List.replicate 16 .blank) (List.replicate 12 .blank), members := .fresh, merge := .fresh,
    track := .fresh, stations := List.replicate 24 .blank, halt := .fresh,
    mgmt := .fresh Config.paramDefaults .power, handed := [], raised := [], startRequested := false, inReset := false,
    pending := [] }

end Sys2Proof.Machine
end

