-- ==== Sys2Proof/Machine/Ops.lean ====
section
/-!
DEFINITION. The named operations every block uses: reading and writing records, byte order, timers, notices, raising a
cause, the frame CRC, and offering frames to the outbound queues.
-/
namespace Sys2Proof.Machine

/-! ## Bytes (R192) -/

/-- A number as one byte. -/
def byte (n : Nat) : Byte := BitVec.ofNat 8 n

/-- A number as two bytes, most significant first. -/
def be16 (n : Nat) : List Byte := [byte (n / 256), byte n]

/-- A number as three bytes, most significant first. -/
def be24 (n : Nat) : List Byte := [byte (n / 65536), byte (n / 256), byte n]

/-- The number two bytes spell, most significant first. -/
def ofBe16 (a b : Byte) : Nat := a.toNat * 256 + b.toNat

/-- The number three bytes spell, most significant first. -/
def ofBe24 (a b c : Byte) : Nat := a.toNat * 65536 + b.toNat * 256 + c.toNat

/-- A flag as one byte (log 10). -/
def flag (b : Bool) : Byte := if b then 1 else 0

/-- A signed number as one byte in two's complement (R192). -/
def twos (i : Int) : Byte := BitVec.ofInt 8 i

/-- A count that stops at its maximum ("Saturating counts", introduction). -/
def sat (limit n : Nat) : Nat := min limit n

/-- The numbers of a list that stand below `n`, as the set of `n` bits of R192. -/
def bits (n : Nat) (l : List Nat) : Nat := (List.range n).foldl (fun acc i => if i ∈ l then acc + 2 ^ i else acc) 0

/-- A set of numbers below 64 as eight bytes (R192). -/
def be64Set (l : List Nat) : List Byte :=
  let v := bits 64 l
  (List.range 8).map fun i => byte (v / 256 ^ (7 - i))

/-- A set of numbers below 24 as three bytes (R192). -/
def be24Set (l : List Nat) : List Byte := be24 (bits 24 l)

/-- A set of services holds a service. -/
def hasService (set : ServiceSet) (n : Nat) : Bool := set.getLsbD n

/-- A set of services with one more. -/
def addService (set : ServiceSet) (n : Nat) : ServiceSet := set ||| BitVec.twoPow 16 n

/-- The services of a set, in number order. -/
def serviceList (set : ServiceSet) : List Nat := (List.range 16).filter (hasService set)

/-! ## Frames (R7, R16, Table 10-1) -/

/-- One shift of the CRC register (R7). -/
def crcShift (r : BitVec 16) : BitVec 16 := if r.msb then (r <<< 1) ^^^ Config.crcPoly else r <<< 1

/-- One byte taken into the CRC register (R7). -/
def crcByte (r : BitVec 16) (b : Byte) : BitVec 16 :=
  (List.range 8).foldl (fun r _ => crcShift r) (r ^^^ (b.zeroExtend 16 <<< 8))

/-- The CRC of a run of bytes (R7). -/
def crc (l : List Byte) : BitVec 16 := l.foldl crcByte 0xFFFF

/-- The first five header bytes (Table 10-1). -/
def Frame.head5 (f : Frame) : List Byte := [f.dest, f.src, f.kind, f.seq, byte f.payload.length]

/-- HCHK: the six header bytes sum to 0 modulo 256 (Table 10-1). -/
def headerCheck (head : List Byte) : Byte := 0 - head.foldl (· + ·) 0

/-- Header and payload, over which the CRC is taken (R7). -/
def Frame.body (f : Frame) : List Byte := Frame.head5 f ++ headerCheck (Frame.head5 f) :: f.payload

/-- A complete frame's content bytes: header, payload, CRC (section 1.1). -/
def Frame.content (f : Frame) : List Byte := Frame.body f ++ be16 (crc (Frame.body f)).toNat

/-- The escape pair of a content byte, or the byte itself (Table 1-2). -/
def escaped (b : Byte) : List Byte :=
  if b = Config.delimiter then [Config.escape, 0x31]
  else if b = Config.escape then [Config.escape, 0x32]
  else if b = Config.haltByte then [Config.escape, 0x33]
  else [b]

/-- The bytes a transmission puts on the line (R16). -/
def Sending.wire (t : Sending) : List Byte :=
  (if t.opens then [Config.delimiter] else []) ++ (Frame.content t.frame).flatMap escaped ++ [Config.delimiter]

/-- A frame of the part's own, to be completed as it is sent (R16). -/
def ownFrame (dest : Nat) (kind : Byte) (payload : List Byte) : OutFrame :=
  { own := true, frame := { dest := byte dest, src := 1, kind := kind, seq := 0, payload := payload } }

/-! ## Numbers of the named things (R192, R195) -/

/-- A cause kind's number (Table 8-3). -/
def causeNumber : CauseKind → Nat
  | .estopLine => 1
  | .estopNode => 2
  | .patternF => 3
  | .patternS => 4
  | .manual => 5
  | .encoderSilent => 6
  | .encoderGap => 7
  | .nodeSilent => 8
  | .trackFault => 9
  | .crush => 10
  | .entryCrush => 11
  | .overlength => 12
  | .noRoller => 13
  | .exitMissing => 14
  | .brushBind => 15
  | .driveFault => 16
  | .driveNoStart => 17
  | .driveNoStop => 18
  | .stopUnconfirmed => 19
  | .drift => 20
  | .overfill => 21
  | .urgentOverflow => 22

/-- The cause kinds in number order. -/
def causeKinds : List CauseKind :=
  [.estopLine, .estopNode, .patternF, .patternS, .manual, .encoderSilent, .encoderGap, .nodeSilent, .trackFault,
   .crush, .entryCrush, .overlength, .noRoller, .exitMissing, .brushBind, .driveFault, .driveNoStart, .driveNoStop,
   .stopUnconfirmed, .drift, .overfill, .urgentOverflow]

/-- The cause kind of a number, if it has one (R171). -/
def causeOfNumber (n : Nat) : Option CauseKind := if n = 0 then none else causeKinds[n - 1]?

/-- A mode's number in the order of Table 8-2. -/
def modeNumber : Mode → Nat
  | .offline => 1
  | .armed => 2
  | .halting => 3
  | .halted => 4
  | .recovering => 5

/-- A notice class's place, 0 to 7, in priority order (Table 9-5). -/
def classIndex : NoticeClass → Nat
  | .halt => 0
  | .track => 1
  | .station => 2
  | .sales => 3
  | .member => 4
  | .node => 5
  | .link => 6
  | .reportLost => 7

/-- A node-level refusal cause's number (Table 2-4). -/
def nodeErrorNumber : NodeError → Nat
  | .unknownSrc => 1
  | .wrongPort => 2
  | .badDest => 3
  | .kindRefused => 4
  | .payload => 5
  | .staleSeq => 6

/-- A port's number (Table 10-5, PORT_RESET). -/
def portNumber : PortId → Nat
  | .s => 0
  | .f => 1

/-! ## Reading and writing blocks and records -/

/-- The port of a name. -/
def State.port (s : State) : PortId → Port
  | .s => s.portS
  | .f => s.portF

/-- Replace one port. -/
def State.setPort (s : State) (p : PortId) (q : Port) : State :=
  match p with
  | .s => { s with portS := q }
  | .f => { s with portF := q }

def State.setNodes (s : State) (v : List NodeRecord) : State := { s with nodes := v }
def State.setSales (s : State) (v : Sales) : State := { s with sales := v }
def State.setMembers (s : State) (v : Members) : State := { s with members := v }
def State.setMerge (s : State) (v : Merge) : State := { s with merge := v }
def State.setTrack (s : State) (v : Track) : State := { s with track := v }
def State.setStations (s : State) (v : List Station) : State := { s with stations := v }
def State.setHalt (s : State) (v : Halt) : State := { s with halt := v }
def State.setMgmt (s : State) (v : Mgmt) : State := { s with mgmt := v }
def State.setHanded (s : State) (v : List Instr) : State := { s with handed := v }
def State.setRaised (s : State) (v : List (CauseKind × CauseDetail)) : State := { s with raised := v }
def State.setStartRequested (s : State) (v : Bool) : State := { s with startRequested := v }

/-- A node record by address (R30). -/
def State.node (s : State) (a : Nat) : NodeRecord := s.nodes.getD a (.blank .none)

/-- Replace a node record. -/
def State.setNode (s : State) (a : Nat) (r : NodeRecord) : State := s.setNodes (s.nodes.set a r)

/-- A lane's Sales record. -/
def State.lane (s : State) (l : Nat) : LaneSales := s.sales.lanes.getD l .blank

/-- Replace a lane's Sales record. -/
def State.setLane (s : State) (l : Nat) (v : LaneSales) : State :=
  s.setSales { s.sales with lanes := s.sales.lanes.set l v }

/-- An order record by its number. -/
def State.order (s : State) (r : Nat) : Order := s.sales.orders.getD r .blank

/-- Replace an order record. -/
def State.setOrder (s : State) (r : Nat) (v : Order) : State :=
  s.setSales { s.sales with orders := s.sales.orders.set r v }

/-- A plan by its number. -/
def State.plan (s : State) (n : Nat) : PlanEntry := s.sales.plans.getD n .blank

/-- A Service Table entry. -/
def State.service (s : State) (n : Nat) : ServiceEntry := s.sales.services.getD n .blank

/-- A member record by its number. -/
def State.memberRec (s : State) (n : Nat) : Member := s.members.records.getD n .blank

/-- Replace a member record. -/
def State.setMember (s : State) (n : Nat) (v : Member) : State :=
  s.setMembers { s.members with records := s.members.records.set n v }

/-- A Fetch Table entry. -/
def State.fetch (s : State) (n : Nat) : Fetch := s.members.fetches.getD n .blank

/-- Replace a Fetch Table entry. -/
def State.setFetch (s : State) (n : Nat) (v : Fetch) : State :=
  s.setMembers { s.members with fetches := s.members.fetches.set n v }

/-- A lane merge record. -/
def State.mergeLane (s : State) (l : Nat) : LaneMerge := s.merge.lanes.getD l .blank

/-- Replace a lane merge record. -/
def State.setMergeLane (s : State) (l : Nat) (v : LaneMerge) : State :=
  s.setMerge { s.merge with lanes := s.merge.lanes.set l v }

/-- A station by its number. -/
def State.station (s : State) (n : Nat) : Station := s.stations.getD n .blank

/-- Replace a station. -/
def State.setStation (s : State) (n : Nat) (v : Station) : State := s.setStations (s.stations.set n v)

/-- Replace the Car List. -/
def State.setCars (s : State) (l : List Car) : State := s.setTrack { s.track with cars := l }

/-- Change the car of a tag wherever it stands. -/
def State.modCar (s : State) (tag : Nat) (g : Car → Car) : State :=
  s.setCars (s.track.cars.map fun c => if c.tag = tag then g c else c)

/-- The car of a tag, if the Car List holds it. -/
def State.car? (s : State) (tag : Nat) : Option Car := s.track.cars.find? fun c => c.tag = tag

/-- A parameter's value (Table 9-4). -/
def State.param (s : State) (p : Config.Param) : Nat := s.mgmt.params.getD p.index 0

/-- A car's rear travel, known once its length is (introduction, "Travel"; R123). -/
def Car.rear (c : Car) : Option Int := c.length.map fun l : Nat => (c.front : Int) - (l : Int)

/-! ## Timers (R1) -/

/-- A timer loaded with a count of ticks. -/
def loaded (n : Nat) : Timer := some n

/-- A tick of a timer: one down, resting at zero until the expiry is taken; a stopped timer stays stopped (log 7). -/
def Timer.tick (t : Timer) : Timer := Option.map (fun n => n - 1) t

/-- The expiry is due: the timer runs and stands at zero. -/
def Timer.due (t : Timer) : Bool := t == some 0

/-- Ticks remaining, 0 for a stopped timer (section 10.5). -/
def Timer.left (t : Timer) : Nat := t.getD 0

/-! ## Notices (R185, R186) -/

/-- ATTN follows the pending set and the mask (R186). -/
def Mgmt.judgeAttn (m : Mgmt) : Mgmt := { m with attn := m.notices.any fun r => r.pending && r.enabled }

/-- One raising of a class (R185). -/
def NoticeRecord.raise (r : NoticeRecord) (d : NoticeDetail) : NoticeRecord :=
  { r with pending := true, count := sat 255 (r.count + 1), detail := d }

/-- A notice class's record. -/
def Mgmt.notice (m : Mgmt) (c : NoticeClass) : NoticeRecord := m.notices.getD (classIndex c) .blank

/-- Raise a notice (R185), ATTN following (R186). -/
def Mgmt.raise (m : Mgmt) (c : NoticeClass) (d : NoticeDetail) : Mgmt :=
  Mgmt.judgeAttn { m with notices := m.notices.set (classIndex c) (NoticeRecord.raise (Mgmt.notice m c) d) }

/-- Any block raises a notice at Management (R185). -/
def State.notify (s : State) (c : NoticeClass) (d : NoticeDetail) : State := s.setMgmt (Mgmt.raise s.mgmt c d)

/-- A detail record with a reason and no field. -/
def reason (n : Nat) : NoticeDetail := { NoticeDetail.empty with reason := n }

/-- Notice LINK for a port (Table 9-6): a receive error, or 7 OVERFLOW, 8 DROP, 9 BLOCKED. -/
def State.notifyLink (s : State) (p : PortId) (n : Nat) : State :=
  s.notify .link { reason n with arg := some (portNumber p) }

/-- Notice NODE for an address (Table 9-6): a refusal cause, or 7 a gap, 8 SILENT, 9 LIVE. -/
def State.notifyNode (s : State) (a n : Nat) (arg : Option Nat) : State :=
  s.notify .node { reason n with node := some a, arg := arg }

/-- Notice TRACK (Table 9-6). -/
def State.notifyTrack (s : State) (n : Nat) (tag arg : Option Nat) : State :=
  s.notify .track { reason n with tag := tag, arg := arg }

/-- Notice STATION (Table 9-6). -/
def State.notifyStation (s : State) (n i : Nat) (tag : Option Nat) : State :=
  s.notify .station { reason n with place := some i, tag := tag }

/-- Notice SALES (Table 9-6). -/
def State.notifySales (s : State) (n place : Nat) (tag arg : Option Nat) : State :=
  s.notify .sales { reason n with place := some place, tag := tag, arg := arg }

/-- Notice MEMBER with the member id (Table 9-6). -/
def State.notifyMember (s : State) (n id : Nat) : State := s.notify .member { reason n with arg := some id }

/-- Notice HALT with the mode reached, or none for a cause joining the set, and the cause concerned (R195). -/
def State.notifyHalt (s : State) (m : Option Mode) (k : Option CauseKind) : State :=
  s.notify .halt { reason (m.elim 0 modeNumber) with arg := k.map causeNumber }

/-! ## Causes on their way to the Halt block (R163, R165; log 4) -/

/-- A detail with no field. -/
def CauseDetail.empty : CauseDetail := { node := none, station := none, car := none, arg := none }

/-- A block raises a cause; the Halt block takes it as an event of its own (R163). -/
def State.raiseCause (s : State) (k : CauseKind) (d : CauseDetail) : State := s.setRaised (s.raised ++ [(k, d)])

/-! ## Sending (R16 to R22) -/

/-- Begin a frame: an own frame takes SRC 1 and the outgoing SEQ, which advances; a forwarded one is sent as it
stands (R16). -/
def Port.startFrame (q : Port) (f : OutFrame) : Port :=
  if f.own then
    { q with line := some { frame := { f.frame with src := 1, seq := byte q.outSeq }, opens := !q.lastDelim },
             outSeq := (q.outSeq + 1) % 256 }
  else { q with line := some { frame := f.frame, opens := !q.lastDelim } }

/-- The transmitter, if free, begins the head of the urgent queue, or else of the normal queue (R17, R18). -/
def Port.transmit (q : Port) : Port :=
  match q.line, q.urgent, q.normal with
  | some _, _, _ => q
  | none, f :: rest, _ => Port.startFrame { q with urgent := rest } f
  | none, [], f :: rest => Port.startFrame { q with normal := rest } f
  | none, [], [] => q

/-- The first payload byte of a frame, 0 if it has none. -/
def subcommand (f : Frame) : Byte := f.payload.headD 0

/-- An urgent command supersedes this waiting normal frame: RETRACT an ENGAGE or BACKOFF, STOP a RUN, for the same
destination (R19). -/
def superseded (u f : Frame) : Bool :=
  u.dest == f.dest &&
    ((u.kind == Config.kStationCmd && subcommand u == 3 && f.kind == Config.kStationCmd &&
        (subcommand f == 1 || subcommand f == 2)) ||
      (u.kind == Config.kDriveCmd && subcommand u == 2 && f.kind == Config.kDriveCmd && subcommand f == 1))

/-- A dropped REPORT raises REPORT_LOST: for a completion the car tag and the order tag if any, for a void the order
tag (R21, R138). -/
def reportLost (f : Frame) : Option NoticeDetail :=
  if f.kind = Config.kReport then
    match f.payload with
    | t :: a :: rest =>
      if t = 1 then
        some { reason 1 with
          tag := some a.toNat,
          arg := if (rest.getD 16 0).getLsbD 4 then some (rest.getD 0 0).toNat else none }
      else some { reason 2 with tag := some a.toNat }
    | _ => none
  else none

/-- Raise REPORT_LOST for a frame that is a report. -/
def State.noteLost (s : State) (f : Frame) : State :=
  match reportLost f with
  | some d => s.notify .reportLost d
  | none => s

/-- Offer a frame to a port's normal queue: joined at the tail, or dropped when 32 wait (R17, R21). -/
def State.offerNormal (s : State) (p : PortId) (f : OutFrame) : State :=
  let q := s.port p
  if q.normal.length < Config.normalSize then
    s.setPort p (Port.transmit { q with normal := q.normal ++ [f] })
  else
    ((s.setPort p { q with drop := sat 255 (q.drop + 1) }).notifyLink p 8).noteLost f.frame

/-- Offer a frame to a port's urgent queue: a HALT_BCAST beside a waiting one is not queued (R20), one beyond 16 is
dropped and raises URGENT_OVERFLOW (R22); a stop command that joins removes the normal commands it supersedes
(R19). -/
def State.offerUrgent (s : State) (p : PortId) (f : OutFrame) : State :=
  let q := s.port p
  if f.frame.kind = Config.kHaltBcast ∧ q.urgent.any (fun g => g.frame.kind == Config.kHaltBcast) then s
  else if q.urgent.length < Config.urgentSize then
    s.setPort p (Port.transmit
      { q with urgent := q.urgent ++ [f], normal := q.normal.filter fun g => !superseded f.frame g.frame })
  else
    (s.setPort p { q with drop := sat 255 (q.drop + 1) }).raiseCause .urgentOverflow
      { CauseDetail.empty with arg := some (portNumber p * 256 + f.frame.kind.toNat) }

/-- An own frame to the site computer. -/
def State.toSite (s : State) (kind : Byte) (payload : List Byte) : State :=
  s.offerNormal .s (ownFrame 0 kind payload)

/-- An own frame to a field node, if the Node Table names one (log 13). -/
def State.toField (s : State) (dest : Option Nat) (kind : Byte) (payload : List Byte) : State :=
  match dest with
  | some a => s.offerNormal .f (ownFrame a kind payload)
  | none => s

/-- An own urgent frame to a field node, if the Node Table names one (log 13). -/
def State.toFieldUrgent (s : State) (dest : Option Nat) (kind : Byte) (payload : List Byte) : State :=
  match dest with
  | some a => s.offerUrgent .f (ownFrame a kind payload)
  | none => s

/-! ## Hand-overs from the Node Table (R38; log 3) -/

/-- The port whose frame a command acts on: the site computer's come in on Port S and every other node's on Port F
(R33, R38, Table 2-7; SITE_FIELD_FRAME by R24); none for a command that acts on no frame. -/
def arrivesAt : Instr → Option PortId
  | .step _ _ _ | .entryEyeBlocked _ | .entryEyeClear _ | .mergeEyeBlocked _ | .mergeEyeClear _ | .checkEyeEdge _ _
  | .exitEyeBlocked _ | .exitEyeClear _ | .wheelSwitchEdge _ _ | .gateState _ _ | .quote _ _ _ _ | .paid _ _ _
  | .cancel _ _ | .actState _ _ | .actStateFault _ | .current _ _ | .driveState _ _ _ _ | .haltDriveConfirm _ _
  | .stopActive _ | .stopReleased _ => some .f
  | .memberData _ _ _ _ _ | .siteFieldFrame _
  | .readEntry _ _ | .writeEntry _ _ | .writeNodeEntry _ _ | .writeStationEntry _ _ | .writeParamEntry _ _
  | .writePlanEntry _ _ | .writeServiceEntry _ _ | .arm _ _ | .disarm _ _ | .release _ _ | .forceHalt _ _
  | .clearCause _ _ | .laneOpen _ _ | .laneClose _ _ | .cancelOrder _ _ | .stationService _ _ | .removeCar _ _
  | .memberLoad _ _ | .memberPin _ _ | .memberUnpin _ _ | .dayReset _ _ | .memberFlush _ _ | .portReset _ _
  | .takeNotice _ _ | .setNoticeMask _ _ | .mgmtUnknownRequest _ _ => some .s
  | _ => none

/-- The hand-overs of one port's frames, oldest first. -/
def State.handedFrom (s : State) (p : PortId) : List Instr := s.handed.filter fun d => arrivesAt d == some p

/-- Two hand-overs are the two of one DRIVE_STATE, to Conveyor and Tracking and to Halt (Table 2-7). -/
def oneDriveState : Instr → Instr → Bool
  | .driveState a r _ _, .haltDriveConfirm b q => a == b && r == q
  | _, _ => false

/-- A hand-over is next among those of its port: the oldest, or the other one of the oldest DRIVE_STATE, which its two
blocks may take in either order (R38). -/
def nextAmong (c : Instr) : List Instr → Bool
  | [] => false
  | [d] => d == c
  | d :: e :: _ => d == c || (oneDriveState d e && e == c)

/-- A command's hand-over is next among those of the port whose frame it acts on (R38). -/
def State.isNext (s : State) (c : Instr) : Bool := (arrivesAt c).any fun p => nextAmong c (s.handedFrom p)

/-- Take a hand-over, if it is next at its port (R38). -/
def State.takeHanded (s : State) (c : Instr) : Option State :=
  if s.isNext c then some (s.setHanded (s.handed.erase c)) else none

/-! ## Running commands -/

/-- A command outside a held line reset; while one is held the part takes nothing (R2, log 23). -/
def running (s : State) (g : State → State) : Host.Outcome State Fault Refusal :=
  .next (if s.inReset then s else g s)

/-- A command that takes the hand-over `c`: without one it is no event (log 2). -/
def taking (c : Instr) (s : State) (g : State → State) : Host.Outcome State Fault Refusal :=
  running s fun s => match s.takeHanded c with
    | some t => g t
    | none => s

/-- A command for an event that is due only where `d` holds (log 2). -/
def whenDue (d : Bool) (s : State) (g : State → State) : Host.Outcome State Fault Refusal :=
  running s fun s => if d then g s else s

end Sys2Proof.Machine
end

