-- ==== Sys2Proof/Machine/Operands.lean ====
section
/-!
DEFINITION. The operand forms: payload sizes and codes of frames (Tables 10-2, 10-3), request codes (Table 10-5), the
codes of named values, and what an accepted frame hands over (Tables 2-2, 2-7).
-/
namespace Sys2Proof.Machine

/-- The least LEN of each frame kind (Table 10-2); none for a code that is no kind. -/
def kindSize (k : Byte) : Option Nat :=
  if k = Config.kStep then some 1
  else if k = Config.kEdge then some 1
  else if k = Config.kCurrent then some 2
  else if k = Config.kActState then some 1
  else if k = Config.kDriveState then some 3
  else if k = Config.kStop then some 1
  else if k = Config.kGateState then some 1
  else if k = Config.kAlive then some 0
  else if k = Config.kQuote then some 6
  else if k = Config.kPaid then some 2
  else if k = Config.kCancel then some 1
  else if k = Config.kQuoteReply then some 5
  else if k = Config.kOrderReply then some 2
  else if k = Config.kStationCmd then some 2
  else if k = Config.kDriveCmd then some 2
  else if k = Config.kGateCmd then some 1
  else if k = Config.kHaltBcast then some 1
  else if k = Config.kWarn then some 1
  else if k = Config.kPause then some 0
  else if k = Config.kResume then some 0
  else if k = Config.kMgmt then some 1
  else if k = Config.kMgmtReply then some 3
  else if k = Config.kReport then some 11
  else if k = Config.kMemberFetch then some 3
  else if k = Config.kMemberData then some 7
  else if k = Config.kMemberStore then some 5
  else if k = Config.kDisplay then some 0
  else none

/-- A role's number, from 1 in the order of Table 2-1. -/
def roleNumber : Role → Nat
  | .none => 1
  | .site => 2
  | .self => 3
  | .hub => 4
  | .encoder => 5
  | .entryEye => 6
  | .checkEye => 7
  | .exitEye => 8
  | .wheelSwitch => 9
  | .mergeEye => 10
  | .gate => 11
  | .kiosk => 12
  | .station => 13
  | .drive => 14
  | .estop => 15

/-- The roles in number order. -/
def roles : List Role :=
  [.none, .site, .self, .hub, .encoder, .entryEye, .checkEye, .exitEye, .wheelSwitch, .mergeEye, .gate, .kiosk,
   .station, .drive, .estop]

/-- The role of a number, if it has one. -/
def roleOfNumber (n : Nat) : Option Role := if n = 0 then none else roles[n - 1]?

/-- The roles whose Port F frames are safety class (R11). -/
def safetyRole : Role → Bool
  | .encoder | .estop | .drive | .entryEye | .checkEye | .exitEye | .wheelSwitch => true
  | _ => false

/-- The six roles whose silence raises NODE_SILENT (R42). -/
def watchedRole : Role → Bool
  | .drive | .estop | .entryEye | .exitEye | .checkEye | .wheelSwitch => true
  | _ => false

/-- The kinds a role permits (Table 2-2); `touch` says whether the sender's station entry is a used TOUCH entry. -/
def permits (r : Role) (touch : Bool) (k : Byte) : Bool :=
  match r with
  | .none | .self => false
  | .site => k ∈ [Config.kMgmt, Config.kMemberData, Config.kDisplay, Config.kStationCmd, Config.kDriveCmd,
      Config.kGateCmd]
  | .hub => k == Config.kAlive
  | .encoder => k ∈ [Config.kStep, Config.kAlive]
  | .entryEye | .checkEye | .exitEye | .wheelSwitch | .mergeEye => k ∈ [Config.kEdge, Config.kAlive]
  | .gate => k ∈ [Config.kGateState, Config.kAlive]
  | .kiosk => k ∈ [Config.kQuote, Config.kPaid, Config.kCancel, Config.kAlive]
  | .station => k ∈ [Config.kActState, Config.kAlive] || (touch && k == Config.kCurrent)
  | .drive => k ∈ [Config.kDriveState, Config.kAlive]
  | .estop => k ∈ [Config.kStop, Config.kAlive]

/-- The kinds a site frame may carry to a field node (R24). -/
def fieldCommand (k : Byte) : Bool :=
  k ∈ [Config.kStationCmd, Config.kDriveCmd, Config.kGateCmd, Config.kDisplay]

/-- DEST is allowed from a port by R23 (Port F) or R24 (Port S). -/
def destAllowed (p : PortId) (f : Frame) : Bool :=
  match p with
  | .f => f.dest == 0 || f.dest == 1
  | .s =>
    if f.dest = 1 then f.kind == Config.kMgmt || f.kind == Config.kMemberData
    else 2 ≤ f.dest.toNat && f.dest.toNat ≤ 62 && fieldCommand f.kind

/-- A payload byte, 0 beyond the payload's end. -/
def payByte (f : Frame) (i : Nat) : Byte := f.payload.getD i 0

/-- A DRIVE_STATE code (Table 10-3). -/
def driveReportOf (b : Byte) : Option DriveReport :=
  if b = 1 then some .running else if b = 2 then some .stopped else if b = 3 then some .fault else none

/-- A management request's command by its code (Table 10-5); a WRITE_ENTRY is told by the table it names. -/
def requestOf (seq : Byte) (code : Byte) (args : List Byte) : Instr :=
  match code.toNat with
  | 1 => .readEntry seq args
  | 2 =>
    match args with
    | t :: _ :: _ =>
      if t = 1 then .writeNodeEntry seq args
      else if t = 2 then .writeStationEntry seq args
      else if t = 3 then .writeParamEntry seq args
      else if t = 4 then .writePlanEntry seq args
      else if t = 5 then .writeServiceEntry seq args
      else .writeEntry seq args
    | _ => .writeEntry seq args
  | 3 => .arm seq args
  | 4 => .disarm seq args
  | 5 => .release seq args
  | 6 => .forceHalt seq args
  | 7 => .clearCause seq args
  | 8 => .laneOpen seq args
  | 9 => .laneClose seq args
  | 10 => .cancelOrder seq args
  | 11 => .stationService seq args
  | 12 => .removeCar seq args
  | 13 => .memberLoad seq args
  | 14 => .memberPin seq args
  | 15 => .memberUnpin seq args
  | 16 => .dayReset seq args
  | 17 => .memberFlush seq args
  | 18 => .portReset seq args
  | 19 => .takeNotice seq args
  | 20 => .setNoticeMask seq args
  | _ => .mgmtUnknownRequest seq code

/-- What an EDGE hands over, by its sender's role (Table 2-7). -/
def edgeHandover (r : NodeRecord) (src : Nat) (blocked : Bool) : List Instr :=
  match r.role with
  | .entryEye => [if blocked then .entryEyeBlocked src else .entryEyeClear src]
  | .checkEye => [.checkEyeEdge src blocked]
  | .exitEye => [if blocked then .exitEyeBlocked src else .exitEyeClear src]
  | .wheelSwitch => [.wheelSwitchEdge src blocked]
  | .mergeEye => [if blocked then .mergeEyeBlocked r.lane else .mergeEyeClear r.lane]
  | _ => []

/-- What an accepted frame addressed to the part hands over, by the sender's record (Table 2-7), `[]` for ALIVE;
`none` where it carries a code Table 10-3 does not list, or a RUNNING level outside 1 to 4 (R193). -/
def handover (r : NodeRecord) (f : Frame) : Option (List Instr) :=
  let src := f.src.toNat
  let b := payByte f 0
  if f.kind = Config.kAlive then some []
  else if f.kind = Config.kStep then some [.step src b none]
  else if f.kind = Config.kEdge then
    if b = 1 then some (edgeHandover r src true) else if b = 2 then some (edgeHandover r src false) else none
  else if f.kind = Config.kGateState then
    if b = 1 then some [.gateState r.lane true] else if b = 2 then some [.gateState r.lane false] else none
  else if f.kind = Config.kQuote then
    some [.quote r.lane b.toNat (payByte f 1 ++ payByte f 2) (ofBe24 (payByte f 3) (payByte f 4) (payByte f 5))]
  else if f.kind = Config.kPaid then some [.paid r.lane b.toNat (payByte f 1).toNat]
  else if f.kind = Config.kCancel then some [.cancel r.lane b.toNat]
  else if f.kind = Config.kActState then
    if b = 1 then some [.actState r.station .engaged]
    else if b = 2 then some [.actState r.station .retracted]
    else if b = 3 then some [.actState r.station .parked]
    else if b = 4 then some [.actStateFault r.station]
    else none
  else if f.kind = Config.kCurrent then some [.current r.station (ofBe16 b (payByte f 1))]
  else if f.kind = Config.kDriveState then
    let level := (payByte f 1).toNat
    match driveReportOf b with
    | some .running =>
      if 1 ≤ level ∧ level ≤ 4 then
        some [.driveState src .running level (payByte f 2 != 0), .haltDriveConfirm src .running]
      else none
    | some rep => some [.driveState src rep 0 (payByte f 2 != 0), .haltDriveConfirm src rep]
    | none => none
  else if f.kind = Config.kStop then
    if b = 1 then some [.stopActive src] else if b = 2 then some [.stopReleased src] else none
  else if f.kind = Config.kMgmt then some [requestOf f.seq b (f.payload.drop 1)]
  else if f.kind = Config.kMemberData then
    some [.memberData (ofBe24 b (payByte f 1) (payByte f 2)) (payByte f 3).toNat (payByte f 4).toNat
      (payByte f 5).toNat (payByte f 6).toNat]
  else some []

/-! ## Status codes (Table 9-1) -/

/-- The status codes of a MGMT_REPLY. -/
inductive Status
  | ok
  | badRequest
  | badTable
  | badIndex
  | badValue
  | wrongMode
  | conditionPresent
  | causeLatched
  | notFound
  | busy
  deriving DecidableEq, Repr

/-- Status codes are 0 to 9 in the order of Table 9-1. -/
def statusCode : Status → Byte
  | .ok => 0
  | .badRequest => 1
  | .badTable => 2
  | .badIndex => 3
  | .badValue => 4
  | .wrongMode => 5
  | .conditionPresent => 6
  | .causeLatched => 7
  | .notFound => 8
  | .busy => 9

/-- One MGMT_REPLY: the request's SEQ, its code, the status and the data (R179). -/
def State.reply (s : State) (seq : Byte) (code : Nat) (st : Status) (data : List Byte) : State :=
  s.toSite Config.kMgmtReply (seq :: byte code :: statusCode st :: data)

end Sys2Proof.Machine
end

