-- ==== Sys2Proof/Machine/Flags.lean ====
section
/-!
DEFINITION. The derived flags: what a rule reads from the records at the moment it judges (presence, coverage,
availability, speed level, standby, the arbiter's conditions, a cause's condition).
-/
namespace Sys2Proof.Machine

/-! ## The Node Table read by role -/

/-- The lowest address whose record answers a test. -/
def State.findNode (s : State) (t : NodeRecord → Bool) : Option Nat :=
  (List.range 64).find? fun a => t (s.node a)

/-- The node of a role. -/
def State.roleAddr (s : State) (r : Role) : Option Nat := s.findNode fun n => n.role == r

/-- The node of a role at a lane. -/
def State.laneAddr (s : State) (r : Role) (l : Nat) : Option Nat := s.findNode fun n => n.role == r && n.lane == l

/-- The DRIVE node. -/
def State.driveAddr (s : State) : Option Nat := s.roleAddr .drive

/-- The kiosk of a lane. -/
def State.kioskAddr (s : State) (l : Nat) : Option Nat := s.laneAddr .kiosk l

/-- The gate of a lane. -/
def State.gateAddr (s : State) (l : Nat) : Option Nat := s.laneAddr .gate l

/-- Some record of a role at a lane is SILENT. -/
def State.laneSilent (s : State) (r : Role) (l : Nat) : Bool :=
  s.nodes.any fun n => n.role == r && n.lane == l && n.silent

/-- A lane is present: its kiosk, merge eye and gate are in the Node Table (R50). -/
def State.present (s : State) (l : Nat) : Bool :=
  (s.laneAddr .kiosk l).isSome && (s.laneAddr .mergeEye l).isSome && (s.laneAddr .gate l).isSome

/-- A lane is staging-suspended while its MERGE_EYE record is SILENT (R100). -/
def State.suspended (s : State) (l : Nat) : Bool := s.laneSilent .mergeEye l

/-- A record is watched (R39), the encoder only while the conveyor is STARTING or MOVING (R40). -/
def State.watched (s : State) (r : NodeRecord) : Bool :=
  0 < r.watch && (r.role != .encoder || s.track.conveyor == .starting || s.track.conveyor == .moving)

/-! ## Stations and services -/

/-- An entry is used when it names an actuator node (R142). -/
def Station.used (st : Station) : Bool := st.actuator.isSome

/-- The station's start point (section 7.2). -/
def Station.startPoint (st : Station) : Int := (st.position : Int) + st.startOff

/-- The station's end point (section 7.2). -/
def Station.endPoint (st : Station) : Int := (st.position : Int) + st.endOff

/-- The station is working on a car: ENGAGED or BACKOFF (R142). -/
def Station.working (st : Station) : Bool := st.activity == .engaged || st.activity == .backoff

/-- A service is covered when a used station gives it and stands IN_SERVICE (R49). -/
def State.covered (s : State) (n : Nat) : Bool :=
  s.stations.any fun st => Station.used st && st.inService && st.service == n

/-- Every service of a set is covered. -/
def State.allCovered (s : State) (set : ServiceSet) : Bool := (serviceList set).all s.covered

/-- A plan is available when it is OPEN and its base set is covered (R49). -/
def State.available (s : State) (n : Nat) : Bool := (s.plan n).state == .isOpen && s.allCovered (s.plan n).base

/-! ## Orders, demand and speed level -/

/-- The order waits in a lane: QUEUED, STAGED or GRANTED (R63). -/
def Order.waits (o : Order) : Bool := o.state == .queued || o.state == .staged || o.state == .granted

/-- The demand: the number of waiting orders (R63). -/
def State.demand (s : State) : Nat := s.sales.orders.countP Order.waits

/-- The pressure level of a demand (R121). -/
def pressure (n : Nat) : Nat := if n ≤ 1 then 2 else if n ≤ 5 then 3 else 4

/-- The order record at the head of a lane's queue. -/
def State.headOrder (s : State) (l : Nat) : Option Nat := (s.lane l).queue.head?

/-- The order record that a tag names among those off the free list (R64). -/
def State.orderOfTag (s : State) (tag : Nat) : Option Nat :=
  (List.range 40).find? fun r => (s.order r).state != .free && (s.order r).tag == tag

/-- The granted order's record: the head of the granted lane's queue (R96). -/
def State.grantedOrder (s : State) : Option Nat := s.merge.grant.bind fun g => s.headOrder g.lane

/-- The speed caps in force: of every car that holds a plan, and of the GRANTED order (R121). -/
def State.caps (s : State) : List Nat :=
  s.track.cars.filterMap (·.cap) ++ (s.grantedOrder.map fun r => (s.order r).cap).toList

/-- The speed level: the lower of the pressure level and every cap in force (R121). -/
def State.speedLevel (s : State) : Nat := s.caps.foldl min (pressure s.demand)

/-- Some order is STAGED. -/
def State.someStaged (s : State) : Bool := s.sales.orders.any fun o => o.state == .staged

/-- No car, no grant and no STAGED order (R118, R122). -/
def State.nobodyComing (s : State) : Bool := s.track.cars.isEmpty && s.merge.grant.isNone && !s.someStaged

/-- The standby conditions (R122). -/
def State.standby (s : State) : Bool := s.track.conveyor == .moving && s.nobodyComing

/-! ## The merge arbiter's conditions (R102, R103) -/

/-- The Car List's tail. -/
def State.tailCar (s : State) : Option Car := s.track.cars.getLast?

/-- The tail car's rear has cleared the entry by ENTRY_GAP, or no car stands (R102, item 5). -/
def State.entryClear (s : State) : Bool :=
  match s.tailCar with
  | none => true
  | some c =>
    match Car.rear c with
    | none => false
    | some r => (s.param .entryGap : Int) ≤ r

/-- A lane is a candidate (R103). -/
def State.candidate (s : State) (l : Nat) : Bool :=
  s.present l && !s.suspended l &&
    match s.headOrder l with
    | some r => (s.order r).state == .staged
    | none => false

/-- The lanes in the arbiter's turn: after the last granted, round (R103). -/
def turn (p : Nat) : List Nat := [(p + 1) % 3, (p + 2) % 3, p % 3]

/-- The first candidate in turn (R103). -/
def State.winner (s : State) : Option Nat := (turn s.merge.lastGranted).find? s.candidate

/-- Conditions 1 to 5 of R102. -/
def State.entryFree (s : State) : Bool :=
  s.halt.mode == .armed && s.merge.grant.isNone && decide (s.track.cars.length < Config.carListSize) &&
    !s.merge.entryBlocked && s.entryClear

/-! ## Causes (Table 8-3) -/

/-- The condition of a cause kind holds (R162, Table 8-3). -/
def State.condition (s : State) : CauseKind → Bool
  | .estopLine => s.halt.estopLine
  | .estopNode => s.halt.estopActive.any fun a => (s.node a).role == .estop
  | .nodeSilent => s.nodes.any fun n => watchedRole n.role && n.silent
  | .driveFault => s.track.lastReport == some .fault
  | _ => false

/-! ## The mode interlock (Table 1-7) -/

/-- A site frame to a field node passes in a mode (R25). -/
def interlockPasses (m : Mode) (f : Frame) : Bool :=
  if f.kind = Config.kDisplay then true
  else match m with
    | .offline => true
    | .halted =>
      f.kind == Config.kGateCmd || (f.kind == Config.kStationCmd && (subcommand f == 3 || subcommand f == 4))
    | .armed | .halting | .recovering => false

/-! ## Tags (R64, R124) -/

/-- The first value after `c`, counting on from 255 to 0, that is not in use. -/
def nextTag (used : List Nat) (c : Nat) : Nat :=
  (((List.range 256).map fun i => (c + 1 + i) % 256).find? fun t => t ∉ used).getD ((c + 1) % 256)

/-- The tags of the orders off the free list. -/
def State.orderTags (s : State) : List Nat := (s.sales.orders.filter fun o => o.state != .free).map (·.tag)

/-- The tags of the cars in the Car List. -/
def State.carTags (s : State) : List Nat := s.track.cars.map (·.tag)

end Sys2Proof.Machine
end

