-- ==== Sys2Proof/Machine/Link.lean ====
section
/-!
DEFINITION. Chapter 1, The Tunnel Link: the receiver and its errors, the halt pattern, the inbound queues, the end of a
transmission, the mode interlock and port reset.
-/
namespace Sys2Proof.Machine

/-- The receive error causes, by their number in Table 1-4. -/
inductive RxError
  | hdrCheck
  | long
  | short
  | crc
  | badEscape
  | patternByte
  deriving DecidableEq, Repr

/-- A receive error's place in Table 1-4, from 0. -/
def rxErrorIndex : RxError → Nat
  | .hdrCheck => 0
  | .long => 1
  | .short => 2
  | .crc => 3
  | .badEscape => 4
  | .patternByte => 5

/-- Count a receive error and raise notice LINK (R8). -/
def State.rxError (s : State) (p : PortId) (e : RxError) : State :=
  let q := s.port p
  let i := rxErrorIndex e
  (s.setPort p { q with rxErrors := q.rxErrors.set i (sat 255 (q.rxErrors.getD i 0 + 1)) }).notifyLink p (i + 1)

/-- The receiver's state and collection. -/
def State.setRx (s : State) (p : PortId) (rx : RxState) (coll : List Byte) : State :=
  s.setPort p { s.port p with rx := rx, coll := coll }

/-- Abort the open frame: the collection emptied, the receiver in HUNT, the error counted (R3, R8). -/
def State.abortFrame (s : State) (p : PortId) (e : RxError) : State := (s.setRx p .hunt []).rxError p e

/-! ## Inbound queues (R11 to R15) -/

/-- A frame's class as it is offered (R11). -/
def State.safetyClass (s : State) (p : PortId) (f : Frame) : Bool :=
  match p with
  | .f => safetyRole (s.node f.src.toNat).role
  | .s => f.kind == Config.kMgmt && f.dest == 1 && f.payload.head? == some 6

/-- Port F asks the hub to hold back when its queue reaches PAUSE_AT (R14). -/
def State.judgePause (s : State) (p : PortId) : State :=
  match p with
  | .s => s
  | .f =>
    if s.param .pauseAt ≤ s.portF.inq.length ∧ s.portF.paused = false then
      (s.setPort .f { s.portF with paused := true }).offerUrgent .f (ownFrame Config.hubAddr Config.kPause [])
    else s

/-- Port F lets the hub go on when its queue is down to RESUME_AT (R15). -/
def State.judgeResume (s : State) (p : PortId) : State :=
  match p with
  | .s => s
  | .f =>
    if s.portF.inq.length ≤ s.param .resumeAt ∧ s.portF.paused = true then
      (s.setPort .f { s.portF with paused := false }).offerUrgent .f (ownFrame Config.hubAddr Config.kResume [])
    else s

/-- A frame of a class finds room (R12). -/
def admits (safety : Bool) (fill : Nat) : Bool :=
  if safety then fill < Config.inboundSize else fill < Config.inboundNormal

/-- Offer a complete frame to the inbound queue (R12). -/
def State.offerInbound (s : State) (p : PortId) (f : Frame) : State :=
  let q := s.port p
  let safety := s.safetyClass p f
  if admits safety q.inq.length then
    (s.setPort p { q with inq := q.inq ++ [{ frame := f, safety := safety }] }).judgePause p
  else (s.setPort p { q with overflow := sat 255 (q.overflow + 1) }).notifyLink p 7

/-! ## The receiver (R3 to R7, R10) -/

/-- LEN as the header of a collection gives it. -/
def collLen (coll : List Byte) : Nat := (coll.getD 4 0).toNat

/-- The judgement of a six-byte header (R5): the error, or none. -/
def headerError (coll : List Byte) : Option RxError :=
  if coll.foldl (· + ·) 0 ≠ 0 then some .hdrCheck
  else if 63 < (coll.getD 0 0).toNat ∨ 63 < (coll.getD 1 0).toNat then some .hdrCheck
  else if Config.maxLen < collLen coll then some .long
  else none

/-- A content byte joins the collection, or would stand beyond LEN + 2 (R5, R6). -/
def State.content (s : State) (p : PortId) (b : Byte) : State :=
  let coll := (s.port p).coll
  let next := coll ++ [b]
  if coll.length < 5 then s.setRx p .collect next
  else if coll.length = 5 then
    match headerError next with
    | some e => s.abortFrame p e
    | none => s.setRx p .collect next
  else if coll.length < collLen coll + 8 then s.setRx p .collect next
  else s.abortFrame p .long

/-- The frame of a complete collection. -/
def frameOf (coll : List Byte) : Frame :=
  { dest := coll.getD 0 0, src := coll.getD 1 0, kind := coll.getD 2 0, seq := coll.getD 3 0,
    payload := (coll.drop 6).take (collLen coll) }

/-- The judgement of a closed, non-empty collection (R6): an error, or none for a complete frame. -/
def closeError (coll : List Byte) : Option RxError :=
  if coll.length < 6 ∨ coll.length < collLen coll + 8 then some .short
  else if be16 (crc (coll.take (collLen coll + 6))).toNat = coll.drop (collLen coll + 6) then none
  else some .crc

/-- A delimiter in COLLECT: idle fill, or the close of a frame and the opening of the next (R3, R6). -/
def State.closeFrame (s : State) (p : PortId) : State :=
  let coll := (s.port p).coll
  let t := s.setRx p .collect []
  if coll = [] then t
  else match closeError coll with
    | some e => t.rxError p e
    | none => t.offerInbound p (frameOf coll)

/-- The receiver state machine taking one byte (R3, R4, R10). -/
def State.receive (s : State) (p : PortId) (b : Byte) : State :=
  match (s.port p).rx with
  | .hunt => if b = Config.delimiter then s.setRx p .collect [] else s
  | .collect =>
    if b = Config.delimiter then s.closeFrame p
    else if b = Config.escape then s.setRx p .escape (s.port p).coll
    else if b = Config.haltByte then
      if (s.port p).coll = [] then s else s.abortFrame p .patternByte
    else s.content p b
  | .escape =>
    if b = 0x31 then s.content p Config.delimiter
    else if b = 0x32 then s.content p Config.escape
    else if b = 0x33 then s.content p Config.haltByte
    else if b = Config.delimiter then (s.setRx p .collect []).rxError p .badEscape
    else if b = Config.haltByte then s.abortFrame p .patternByte
    else s.abortFrame p .badEscape

/-- The cause a port's halt pattern raises (R9). -/
def patternCause : PortId → CauseKind
  | .s => .patternS
  | .f => .patternF

/-- The halt run count; the sixth halt byte in a row raises the pattern's cause (R9). -/
def State.countHalt (s : State) (p : PortId) (b : Byte) : State :=
  let q := s.port p
  if b = Config.haltByte then
    if q.haltRun + 1 < Config.haltRun then s.setPort p { q with haltRun := q.haltRun + 1 }
    else (s.setPort p { q with haltRun := 0 }).raiseCause (patternCause p) CauseDetail.empty
  else s.setPort p { q with haltRun := 0 }

/-- RECEIVE_BYTE (R3 to R12, R14). -/
def execReceiveByte (p : PortId) (b : Byte) (s : State) : Host.Outcome State Fault Refusal :=
  running s fun s => (s.countHalt p b).receive p b

/-- The frame on the line ends, its closing delimiter the last byte sent (R16, R17). -/
def Port.endFrame (q : Port) : Port :=
  match q.line with
  | some _ => { q with line := none, lastDelim := true }
  | none => q

/-- TRANSMIT_END (R16 to R18). -/
def execTransmitEnd (p : PortId) (s : State) : Host.Outcome State Fault Refusal :=
  running s fun s => s.setPort p (Port.transmit (Port.endFrame (s.port p)))

/-! ## The mode interlock (R25, R26) -/

/-- A blocked site frame: the Port S blocked count and notice LINK (R25). -/
def State.countBlocked (s : State) : State :=
  (s.setPort .s { s.portS with blocked := sat 255 (s.portS.blocked + 1) }).notifyLink .s 9

/-- SITE_FIELD_FRAME (R24, R25). -/
def execSiteFieldFrame (frame : Frame) (s : State) : Host.Outcome State Fault Refusal :=
  taking (.siteFieldFrame frame) s fun s =>
    if interlockPasses s.halt.mode frame then s.offerNormal .f { own := false, frame := frame } else s.countBlocked

/-- A waiting frame that a mode blocks: forwarded from the site and not passed by Table 1-7 (R26). -/
def blockedIn (m : Mode) (f : OutFrame) : Bool := !f.own && f.frame.src == 0 && !interlockPasses m f.frame

/-- The sweep of the Port F normal queue at a mode change (R26). -/
def State.sweep (s : State) : State :=
  let q := s.portF
  let t := s.setPort .f { q with normal := q.normal.filter fun f => !blockedIn s.halt.mode f }
  (q.normal.filter (blockedIn s.halt.mode)).foldl (fun t _ => t.countBlocked) t

/-! ## Port reset (R28) -/

/-- A port returned to a clean start, its outgoing SEQ and the frame on the line kept (R28). -/
def Port.restart (q : Port) : Port :=
  { Port.cleared with line := q.line, lastDelim := q.lastDelim, outSeq := q.outSeq }

/-- The steps of R28 on one port. The discarded reports raise REPORT_LOST in the order of the urgent queue and then the
normal one, each from its head to its tail, so the last of them stays in the class; R28 gives no order (log 32). -/
def State.restartPort (s : State) (p : PortId) : State :=
  let q := s.port p
  let t := (q.urgent ++ q.normal).foldl (fun t f => t.noteLost f.frame) (s.setPort p (Port.restart q))
  if q.paused then t.offerUrgent p (ownFrame Config.hubAddr Config.kResume []) else t

/-- Port F is reset in OFFLINE and HALTED alone (R28). -/
def portResetMode (p : PortId) (m : Mode) : Bool :=
  match p with
  | .s => true
  | .f => m == .offline || m == .halted

/-- PORT_RESET's port argument (Table 10-5). -/
def portOfByte (b : Byte) : Option PortId := if b = 0 then some .s else if b = 1 then some .f else none

/-- PORT_RESET (R28). -/
def execPortReset (seq : Byte) (args : List Byte) (s : State) : Host.Outcome State Fault Refusal :=
  taking (.portReset seq args) s fun s =>
    match args with
    | [] => s.reply seq 18 .badRequest []
    | b :: _ =>
      match portOfByte b with
      | none => s.reply seq 18 .badValue []
      | some p =>
        if portResetMode p s.halt.mode then (s.restartPort p).reply seq 18 .ok []
        else s.reply seq 18 .wrongMode []

end Sys2Proof.Machine
end

