-- ==== Sys2Proof/Machine/Conveyor.lean ====
section
/-!
DEFINITION. The conveyor (sections 6.1, 6.1.1, 6.1.2): start requests, drive commands, the speed level, standby, and the
conveyor's timers.
-/
namespace Sys2Proof.Machine

/-- A DRIVE_CMD on the normal queue, to the DRIVE node (Table 10-3: 1 RUN, 3 ROLLER_UP). -/
def State.driveCmd (s : State) (sub level : Nat) : State :=
  s.toField s.driveAddr Config.kDriveCmd [byte sub, byte level]

/-- DRIVE_CMD STOP on the urgent queue, to the DRIVE node. -/
def State.driveStop (s : State) : State := s.toFieldUrgent s.driveAddr Config.kDriveCmd [2, 0]

/-- STOPPED to STARTING (R117). -/
def State.startConveyor (s : State) : State :=
  let level := s.speedLevel
  (s.setTrack { s.track with
    conveyor := .starting, drift := 0, commanded := level,
    startWait := loaded (s.param .startWait) }).driveCmd 1 level

/-- Tracking takes a start request (R117). -/
def State.takeStart (s : State) : State :=
  if s.halt.mode = .armed then
    match s.track.conveyor with
    | .stopped => s.startConveyor
    | .starting => s
    | .moving => s
    | .stopping => s.setTrack { s.track with pendingStart := true }
  else s

/-- Hand a start request to Tracking where the conveyor is STOPPED or STOPPING in ARMED (R101, R112). -/
def State.handStart (s : State) : State :=
  if s.halt.mode = .armed ∧ (s.track.conveyor = .stopped ∨ s.track.conveyor = .stopping) then
    s.setStartRequested true
  else s

/-- The conveyor becomes STOPPED; a pending start is cleared and acted on in ARMED (R117). -/
def State.conveyorStopped (s : State) : State :=
  let t := s.setTrack { s.track with conveyor := .stopped, stopWait := none, pendingStart := false }
  if s.track.pendingStart = true ∧ s.halt.mode = .armed then t.startConveyor else t

/-- While MOVING, a speed level that differs from the commanded level is commanded (R121). -/
def State.judgeSpeed (s : State) : State :=
  if s.track.conveyor = .moving ∧ s.speedLevel ≠ s.track.commanded then
    (s.setTrack { s.track with commanded := s.speedLevel }).driveCmd 1 s.speedLevel
  else s

/-- The standby conditions are judged: the idle timer loaded, left running or stopped (R122). -/
def State.judgeStandby (s : State) : State :=
  if s.standby then
    match s.track.idle with
    | none => s.setTrack { s.track with idle := loaded (s.param .idleTicks) }
    | some _ => s
  else s.setTrack { s.track with idle := none }

/-- The speed level and the standby conditions are judged again, once for the event (log 36). -/
def State.judgeConveyor (s : State) : State := s.judgeSpeed.judgeStandby

/-- START_REQUEST (R117): Tracking takes the request handed to it. -/
def execStartRequest (s : State) : Host.Outcome State Fault Refusal :=
  whenDue s.startRequested s fun s => (s.setStartRequested false).takeStart

/-- START_WAIT_EXPIRY (R119): DRIVE_NO_START is raised, the conveyor staying STARTING. -/
def execStartWaitExpiry (s : State) : Host.Outcome State Fault Refusal :=
  whenDue (Timer.due s.track.startWait) s fun s =>
    (s.setTrack { s.track with startWait := none }).raiseCause .driveNoStart
      { CauseDetail.empty with node := s.driveAddr }

/-- STOP_WAIT_EXPIRY (R119): DRIVE_NO_STOP is raised, the conveyor staying STOPPING. -/
def execStopWaitExpiry (s : State) : Host.Outcome State Fault Refusal :=
  whenDue (Timer.due s.track.stopWait) s fun s =>
    (s.setTrack { s.track with stopWait := none }).raiseCause .driveNoStop
      { CauseDetail.empty with node := s.driveAddr }

/-- A normal stop: STOPPING, an urgent DRIVE_CMD STOP, STOP_WAIT loaded (R118, R122). -/
def State.stopConveyor (s : State) : State :=
  (s.setTrack { s.track with conveyor := .stopping, stopWait := loaded (s.param .stopWait), idle := none }).driveStop

/-- IDLE_TIMER_EXPIRY (R122). -/
def execIdleTimerExpiry (s : State) : Host.Outcome State Fault Refusal :=
  whenDue (Timer.due s.track.idle) s State.stopConveyor

end Sys2Proof.Machine
end

