-- ==== Sys2Proof/Machine/Quotes.lean ====
section
/-!
DEFINITION. Quote slots and the hold a quote has on the Member Cache: replies, offers, outcomes of a fetch, voiding a
quote and closing a lane (sections 3.2, 3.3, 4.1).
-/
namespace Sys2Proof.Machine

/-! ## Member records by id (R73, R75) -/

/-- The record that holds an account (R73). -/
def State.memberIndex (s : State) (id : Nat) : Option Nat :=
  (List.range 32).find? fun n => (s.memberRec n).state != .free && (s.memberRec n).id == id

/-- Change the record of an account, if the cache holds it. -/
def State.modMember (s : State) (id : Nat) (g : Member → Member) : State :=
  match s.memberIndex id with
  | some n => s.setMember n (g (s.memberRec n))
  | none => s

/-- Sales releases a quote's reference (R75). -/
def State.releaseRef (s : State) (m : Option Nat) : State :=
  match m with
  | some id => s.modMember id fun r => { r with refs := r.refs - 1 }
  | none => s

/-- The OUTSTANDING fetch of an account (R78). -/
def State.fetchIndex (s : State) (id : Nat) : Option Nat :=
  (List.range 4).find? fun n => (s.fetch n).id == some id

/-- A lane leaves the waiting set of an account's fetch (R80). -/
def State.leaveFetch (s : State) (l : Nat) (m : Option Nat) : State :=
  match m.bind s.fetchIndex with
  | some n => s.setFetch n { s.fetch n with waiting := (s.fetch n).waiting.set l none }
  | none => s

/-! ## Replies (Tables 3-5, 10-3) -/

/-- The codes of QUOTE_REPLY and ORDER_REPLY (Table 10-3). -/
inductive Reply
  | offered
  | pending
  | expired
  | cancelled
  | tunnelOffline
  | laneClosed
  | laneFull
  | planClosed
  | addonNotAllowed
  | addonUnavailable
  | priceLimit
  | memberUnknown
  | memberLimit
  | memberTier
  | memberUnavailable
  | memberBusy
  | quoteExpired
  | badTender
  deriving DecidableEq, Repr

/-- A reply's code (Table 10-3). -/
def replyCode : Reply → Byte
  | .offered => 1
  | .pending => 2
  | .expired => 3
  | .cancelled => 4
  | .tunnelOffline => 16
  | .laneClosed => 17
  | .laneFull => 18
  | .planClosed => 19
  | .addonNotAllowed => 20
  | .addonUnavailable => 21
  | .priceLimit => 22
  | .memberUnknown => 23
  | .memberLimit => 24
  | .memberTier => 25
  | .memberUnavailable => 26
  | .memberBusy => 27
  | .quoteExpired => 32
  | .badTender => 33

/-- QUOTE_REPLY to the lane's kiosk: outcome, token if one is carried, price (0 when none). -/
def State.quoteReply (s : State) (l : Nat) (r : Reply) (token : Option Nat) (price : Nat) : State :=
  s.toField (s.kioskAddr l) Config.kQuoteReply
    ([replyCode r, flag token.isSome, byte (token.getD 0)] ++ be16 price)

/-- ORDER_REPLY refusing a payment (Table 10-2). -/
def State.refusePayment (s : State) (l : Nat) (r : Reply) : State :=
  s.toField (s.kioskAddr l) Config.kOrderReply [replyCode r, 0]

/-! ## The slot -/

/-- A lane's quote slot. -/
def State.slot (s : State) (l : Nat) : Slot := (s.lane l).slot

/-- Replace a lane's quote slot. -/
def State.setSlot (s : State) (l : Nat) (v : Slot) : State := s.setLane l { s.lane l with slot := v }

/-- The slot becomes EMPTY with its timer stopped; the other fields read back as last set (R52). -/
def State.emptySlot (s : State) (l : Nat) : State := s.setSlot l { s.slot l with state := .empty, life := none }

/-- The slot becomes OFFERED, its life timer loaded, and the offer is sent (R54, R55). -/
def State.offerSlot (s : State) (l : Nat) : State :=
  let t := s.setSlot l { s.slot l with state := .offered, life := loaded (s.param .quoteLife) }
  t.quoteReply l .offered (some (t.slot l).token) (t.slot l).price

/-- The slot takes the lane's next token and the quote's fields, in a state to be set next (R52). -/
def State.fillSlot (s : State) (l plan : Nat) (addons : ServiceSet) (price : Nat) (member : Option Nat) : State :=
  let token := ((s.lane l).token + 1) % 256
  s.setLane l { s.lane l with
    token := token,
    slot := { s.slot l with token := token, plan := plan, addons := addons, price := price, member := member } }

/-- The slot becomes PENDING and the reply says so (R55). -/
def State.pendSlot (s : State) (l : Nat) : State :=
  let t := s.setSlot l { s.slot l with state := .pending }
  t.quoteReply l .pending (some (t.slot l).token) 0

/-- A PENDING quote is refused: the slot EMPTY, the refusal sent with the token (R55). -/
def State.refusePending (s : State) (l : Nat) (r : Reply) : State :=
  (s.emptySlot l).quoteReply l r (some (s.slot l).token) 0

/-- The slot holds a quote: PENDING or OFFERED. -/
def Slot.held (q : Slot) : Bool := q.state != .empty

/-- What a voided quote gives up: an OFFERED one its reference, a PENDING one its place in the waiting set (R56). -/
def State.letGo (s : State) (l : Nat) : State :=
  match (s.slot l).state with
  | .offered => s.releaseRef (s.slot l).member
  | .pending => s.leaveFetch l (s.slot l).member
  | .empty => s

/-- Void a lane's quote, if it holds one, with the reply the voiding rule names (R56). -/
def State.voidQuote (s : State) (l : Nat) (r : Option Reply) : State :=
  if Slot.held (s.slot l) then
    let t := (s.letGo l).emptySlot l
    match r with
    | some r => t.quoteReply l r (some (s.slot l).token) 0
    | none => t
  else s

/-- Close an OPEN lane, voiding its quote (R50); a CLOSED lane is not touched. -/
def State.closeLane (s : State) (l : Nat) (r : Option Reply) : State :=
  if (s.lane l).isOpen then
    let t := s.voidQuote l r
    t.setLane l { t.lane l with isOpen := false }
  else s

/-! ## Judging a member (R76) -/

/-- The checks of a hit: the daily limit, then the tier (R76). -/
def memberRefusal (m : Member) (tier : Nat) : Option Reply :=
  if m.limit ≤ m.uses then some .memberLimit else if m.tier < tier then some .memberTier else none

/-- A waiting lane is judged against the record that now holds its member (R82). -/
def State.resolveLane (s : State) (n l tier : Nat) : State :=
  match memberRefusal (s.memberRec n) tier with
  | some r => s.refusePending l r
  | none => (s.setMember n { s.memberRec n with refs := (s.memberRec n).refs + 1 }).offerSlot l

/-- Each lane of a waiting set, in lane order, with the tier it needs (R81 to R83). -/
def State.forWaiting (s : State) (waiting : List (Option Nat)) (g : State → Nat → Nat → State) : State :=
  [0, 1, 2].foldl (fun t l => match waiting.getD l none with
    | some tier => g t l tier
    | none => t) s

end Sys2Proof.Machine
end

