-- ==== Sys2Proof/Machine/Members.lean ====
section
/-!
DEFINITION. Chapter 4, Member Accounts: lookup, fetches, victim choice and write-back, uses, and the member requests.
-/
namespace Sys2Proof.Machine

/-! ## The recency list (R74) -/

/-- Place a record at the front of the recency list (R74). -/
def State.toFront (s : State) (n : Nat) : State :=
  s.setMembers { s.members with recency := n :: s.members.recency.erase n }

/-- A record leaves the recency list (R74). -/
def State.offList (s : State) (n : Nat) : State :=
  s.setMembers { s.members with recency := s.members.recency.erase n }

/-- Records PINNED. -/
def State.pinned (s : State) : Nat := s.members.records.countP fun m => m.state == .pinned

/-! ## Write-back and victims (R86, R87) -/

/-- MEMBER_STORE WRITEBACK of a record's uses today (R87). -/
def State.writeBack (s : State) (m : Member) : State :=
  s.toSite Config.kMemberStore ([1] ++ be24 m.id ++ [byte m.uses])

/-- The victim: the lowest FREE record, else the first unreferenced one from the list's tail (R86). -/
def State.victim (s : State) : Option Nat :=
  ((List.range 32).find? fun n => (s.memberRec n).state == .free).or
    (s.members.recency.reverse.find? fun n => (s.memberRec n).refs == 0)

/-- The victim leaves the list, its dirty uses written back first (R86). -/
def State.evict (s : State) (n : Nat) : State :=
  let t := s.offList n
  if (s.memberRec n).state ≠ .free ∧ (s.memberRec n).dirty = true then t.writeBack (s.memberRec n) else t

/-- A record filled for an account, clean and unreferenced, uses clamped to the limit (R73, R85). -/
def filled (st : MemberState) (id tier limit uses : Nat) : Member :=
  { state := st, id := id, tier := tier, limit := limit, uses := min uses limit, dirty := false, refs := 0 }

/-! ## Lookup (R76, R77) -/

/-- The Member Cache's answer to a QUOTE. -/
inductive LookupAnswer
  | accepted
  | waiting
  | refused (r : Reply)
  deriving DecidableEq, Repr

/-- A lookup that finds the account (R76). -/
def State.lookupHit (s : State) (n tier : Nat) : State × LookupAnswer :=
  let t := if (s.memberRec n).state = .cached then s.toFront n else s
  match memberRefusal (s.memberRec n) tier with
  | some r => (t, .refused r)
  | none => (t.setMember n { s.memberRec n with refs := (s.memberRec n).refs + 1 }, .accepted)

/-- The lowest FREE Fetch Table entry (R77). -/
def State.freeFetch (s : State) : Option Nat := (List.range 4).find? fun n => (s.fetch n).id.isNone

/-- A lookup that does not find the account (R77). -/
def State.lookupMiss (s : State) (l id tier : Nat) : State × LookupAnswer :=
  if (s.node 0).silent then (s, .refused .memberUnavailable)
  else match s.fetchIndex id with
    | some n => (s.setFetch n { s.fetch n with waiting := (s.fetch n).waiting.set l (some tier) }, .waiting)
    | none =>
      match s.freeFetch with
      | some n =>
        ((s.setFetch n { id := some id, waiting := (List.replicate 3 none).set l (some tier),
                         timer := loaded (s.param .fetchWait) }).toSite Config.kMemberFetch (be24 id), .waiting)
      | none => (s, .refused .memberBusy)

/-- A lookup for a lane's QUOTE (section 4.2). -/
def State.lookup (s : State) (l id tier : Nat) : State × LookupAnswer :=
  match s.memberIndex id with
  | some n => s.lookupHit n tier
  | none => s.lookupMiss l id tier

/-! ## Fetch answers (R79 to R85) -/

/-- MEMBER_DATA that no rule can use (R85). -/
def badMemberData (id known tier limit uses : Nat) : Bool :=
  id == 0 || (known != 0 && known != 1) || (known == 1 && (7 < tier || 15 < limit || 15 < uses))

/-- A fetch answered by a known account (R82). -/
def State.fetchFill (s : State) (n id tier limit uses : Nat) : State :=
  let waiting := (s.fetch n).waiting
  let t := s.setFetch n .blank
  match t.victim with
  | none => t
  | some v =>
    (((t.evict v).setMember v (filled .cached id tier limit uses)).toFront v).forWaiting waiting
      fun u l tier => u.resolveLane v l tier

/-- A fetch answered by no such account, or given up: each waiting lane is refused (R81, R83). -/
def State.fetchRefuse (s : State) (n : Nat) (r : Reply) : State :=
  (s.setFetch n .blank).forWaiting (s.fetch n).waiting fun u l _ => u.refusePending l r

/-- An account withdrawn by the site computer (R84). -/
def State.withdrawMember (s : State) (n : Nat) : State :=
  let m := s.memberRec n
  if m.state = .cached ∧ m.refs = 0 then (s.setMember n .blank).offList n
  else s.setMember n { m with limit := 0, uses := 0, dirty := false }

/-- MEMBER_DATA with no outstanding fetch (R84). -/
def State.unsolicited (s : State) (id known tier limit uses : Nat) : State :=
  match s.memberIndex id with
  | some n =>
    if known = 1 then
      s.setMember n { s.memberRec n with tier := tier, limit := limit, uses := min uses limit, dirty := false }
    else (s.withdrawMember n).notifyMember 2 id
  | none => s.notifyMember 3 id

/-- MEMBER_DATA (R79, R81, R82, R84, R85). -/
def execMemberData (id known tier limit uses : Nat) (s : State) : Host.Outcome State Fault Refusal :=
  taking (.memberData id known tier limit uses) s fun s =>
    if badMemberData id known tier limit uses then s.notifyMember 4 id
    else match s.fetchIndex id with
      | some n => if known = 1 then s.fetchFill n id tier limit uses else s.fetchRefuse n .memberUnknown
      | none => s.unsolicited id known tier limit uses

/-- FETCH_TIMER_EXPIRY (R83). -/
def execFetchTimerExpiry (entry : Nat) (s : State) : Host.Outcome State Fault Refusal :=
  whenDue (Timer.due (s.fetch entry).timer) s fun s =>
    ((s.notifyMember 1 ((s.fetch entry).id.getD 0)).fetchRefuse entry .memberUnavailable)

/-! ## Uses (R88, R89) -/

/-- Sales spends one use (R88). -/
def State.spendUse (s : State) (m : Option Nat) : State :=
  match m with
  | some id => s.modMember id fun r => { r with uses := r.uses + 1, dirty := true }
  | none => s

/-- Sales returns one use: to the cached record, or by MEMBER_STORE ADJUST −1 (R89). -/
def State.returnUse (s : State) (m : Option Nat) : State :=
  match m with
  | some id =>
    match s.memberIndex id with
    | some n => s.setMember n { s.memberRec n with uses := (s.memberRec n).uses - 1, dirty := true }
    | none => s.toSite Config.kMemberStore ([2] ++ be24 id ++ [0xFF])
  | none => s

/-! ## Member requests (R90 to R93) -/

/-- MEMBER_LOAD's replacement of a held record (R90). -/
def State.loadHeld (s : State) (n tier limit uses : Nat) (pin : Bool) : State :=
  let m := { s.memberRec n with tier := tier, limit := limit, uses := uses, dirty := false }
  if pin then (s.setMember n { m with state := .pinned }).offList n
  else (s.setMember n { m with state := .cached }).toFront n

/-- MEMBER_LOAD's filling of a victim (R90). -/
def State.loadNew (s : State) (v id tier limit uses : Nat) (pin : Bool) : State :=
  if pin then (s.evict v).setMember v (filled .pinned id tier limit uses)
  else ((s.evict v).setMember v (filled .cached id tier limit uses)).toFront v

/-- An outstanding fetch of a loaded account is resolved against its record (R90). -/
def State.loadResolve (s : State) (n id : Nat) : State :=
  match s.fetchIndex id with
  | some k => (s.setFetch k .blank).forWaiting (s.fetch k).waiting fun u l tier => u.resolveLane n l tier
  | none => s

/-- MEMBER_LOAD's effect and status (R90). -/
def State.load (s : State) (id tier limit uses : Nat) (pin : Bool) : State × Status :=
  match s.memberIndex id with
  | some n =>
    if pin = true ∧ (s.memberRec n).state = .cached ∧ Config.pinLimit ≤ s.pinned then (s, .busy)
    else ((s.loadHeld n tier limit uses pin).loadResolve n id, .ok)
  | none =>
    if pin = true ∧ Config.pinLimit ≤ s.pinned then (s, .busy)
    else match s.victim with
      | none => (s, .busy)
      | some v => ((s.loadNew v id tier limit uses pin).loadResolve v id, .ok)

/-- MEMBER_LOAD (R90). -/
def execMemberLoad (seq : Byte) (args : List Byte) (s : State) : Host.Outcome State Fault Refusal :=
  taking (.memberLoad seq args) s fun s =>
    match args with
    | a :: b :: c :: tier :: limit :: uses :: pin :: _ =>
      if ofBe24 a b c = 0 ∨ 7 < tier.toNat ∨ 15 < limit.toNat ∨ limit.toNat < uses.toNat ∨ 1 < pin.toNat then
        s.reply seq 13 .badValue []
      else
        let (t, st) := s.load (ofBe24 a b c) tier.toNat limit.toNat uses.toNat (pin == 1)
        t.reply seq 13 st []
    | _ => s.reply seq 13 .badRequest []

/-- A member id argument: three bytes (Table 10-5). -/
def memberArg (args : List Byte) : Option Nat :=
  match args with
  | a :: b :: c :: _ => some (ofBe24 a b c)
  | _ => none

/-- MEMBER_PIN (R91). -/
def execMemberPin (seq : Byte) (args : List Byte) (s : State) : Host.Outcome State Fault Refusal :=
  taking (.memberPin seq args) s fun s =>
    match memberArg args with
    | none => s.reply seq 14 .badRequest []
    | some id =>
      match s.memberIndex id with
      | none => s.reply seq 14 .notFound []
      | some n =>
        if (s.memberRec n).state = .pinned then s.reply seq 14 .ok []
        else if Config.pinLimit ≤ s.pinned then s.reply seq 14 .busy []
        else ((s.setMember n { s.memberRec n with state := .pinned }).offList n).reply seq 14 .ok []

/-- MEMBER_UNPIN (R91). -/
def execMemberUnpin (seq : Byte) (args : List Byte) (s : State) : Host.Outcome State Fault Refusal :=
  taking (.memberUnpin seq args) s fun s =>
    match memberArg args with
    | none => s.reply seq 15 .badRequest []
    | some id =>
      match s.memberIndex id with
      | none => s.reply seq 15 .notFound []
      | some n =>
        if (s.memberRec n).state = .pinned then
          ((s.setMember n { s.memberRec n with state := .cached }).toFront n).reply seq 15 .ok []
        else s.reply seq 15 .ok []

/-- A held record at the turn of the day (R92). -/
def dayClear (m : Member) : Member := if m.state = .free then m else { m with uses := 0, dirty := false }

/-- DAY_RESET (R92). -/
def execDayReset (seq : Byte) (args : List Byte) (s : State) : Host.Outcome State Fault Refusal :=
  taking (.dayReset seq args) s fun s =>
    (s.setMembers { s.members with records := s.members.records.map dayClear }).reply seq 16 .ok []

/-- One record of a flush: a dirty one is written back and cleaned (R93). -/
def State.flushRecord (s : State) (n : Nat) : State :=
  let m := s.memberRec n
  if m.state ≠ .free ∧ m.dirty = true then (s.writeBack m).setMember n { m with dirty := false } else s

/-- MEMBER_FLUSH (R93). -/
def execMemberFlush (seq : Byte) (args : List Byte) (s : State) : Host.Outcome State Fault Refusal :=
  taking (.memberFlush seq args) s fun s =>
    ((List.range 32).foldl State.flushRecord s).reply seq 17 .ok []

end Sys2Proof.Machine
end

