-- ==== Sys2Proof/Machine/Merge.lean ====
section
/-!
DEFINITION. Chapter 5, Merge and Entry: staging, the merge arbiter, gates, the grant and its end. The entry eye's front
edge stands in Entry.lean.
-/
namespace Sys2Proof.Machine

/-! ## Gates (R105) -/

/-- The gate record of a lane. -/
def State.setGate (s : State) (l : Nat) (g : Gate) : State := s.setMergeLane l { s.mergeLane l with gate := g }

/-- GATE_CMD OPEN; the gate record becomes OPENING (R105). -/
def State.openGate (s : State) (l : Nat) : State :=
  (s.toField (s.gateAddr l) Config.kGateCmd [1]).setGate l .opening

/-- GATE_CMD CLOSE; the gate record becomes CLOSING (R105). -/
def State.closeGate (s : State) (l : Nat) : State :=
  (s.toField (s.gateAddr l) Config.kGateCmd [2]).setGate l .closing

/-- Close a gate recorded OPENING or OPEN (R109). -/
def State.closeIfOpen (s : State) (l : Nat) : State :=
  match (s.mergeLane l).gate with
  | .opening => s.closeGate l
  | .isOpen => s.closeGate l
  | .closed => s
  | .closing => s

/-- Close every gate recorded OPENING or OPEN (R109), in lane order, after the granted lane's where a grant is withdrawn
first (log 31). -/
def State.closeOpenGates (s : State) : State := [0, 1, 2].foldl State.closeIfOpen s

/-! ## The arbiter (R102 to R104) -/

/-- An order record's state. -/
def State.setOrderState (s : State) (r : Nat) (st : OrderState) : State := s.setOrder r { s.order r with state := st }

/-- The grant of a lane (R104). -/
def State.grantLane (s : State) (l : Nat) : State :=
  match s.headOrder l with
  | none => s
  | some r =>
    let t := s.setOrderState r .granted
    (t.setMerge { t.merge with
      grant := some { lane := l, tag := (s.order r).tag }, admitTimer := loaded (s.param .admitWindow),
      lastGranted := l }).openGate l

/-- One evaluation of the merge arbiter (R102). -/
def State.arbitrate (s : State) : State :=
  if s.entryFree then
    match s.winner with
    | none => s
    | some l =>
      match s.track.conveyor with
      | .moving => s.grantLane l
      | .starting => s
      | .stopped => s.setStartRequested true
      | .stopping => s.setStartRequested true
  else s

/-- The arbiter is evaluated, and then the conveyor's speed and standby are judged again, once for the event (log 36). -/
def State.review (s : State) : State := s.arbitrate.judgeConveyor

/-! ## Staging (R97 to R101) -/

/-- The unpaid flag set with its notice (R97, R99). -/
def State.markUnpaid (s : State) (l : Nat) : State :=
  (s.setMergeLane l { s.mergeLane l with unpaid := true }).notifySales 1 l none none

/-- An order becomes STAGED, the unpaid flag is cleared, and a start request follows R101. -/
def State.stage (s : State) (l r : Nat) : State :=
  let t := s.setOrderState r .staged
  (t.setMergeLane l { t.mergeLane l with unpaid := false }).handStart

/-- MERGE_EYE_BLOCKED (R97, R101). -/
def execMergeEyeBlocked (lane : Nat) (s : State) : Host.Outcome State Fault Refusal :=
  taking (.mergeEyeBlocked lane) s fun s =>
    let t := s.setMergeLane lane { s.mergeLane lane with eye := true }
    match t.headOrder lane with
    | none => t.markUnpaid lane
    | some r => if (t.order r).state = .queued then (t.stage lane r).review else t

/-- MERGE_EYE_CLEAR (R98). -/
def execMergeEyeClear (lane : Nat) (s : State) : Host.Outcome State Fault Refusal :=
  taking (.mergeEyeClear lane) s fun s =>
    let t := s.setMergeLane lane { s.mergeLane lane with eye := false, unpaid := false }
    match t.headOrder lane with
    | none => t
    | some r => if (t.order r).state = .staged then (t.setOrderState r .queued).judgeConveyor else t

/-- A payment's order is staged at once: alone in its lane, the merge eye BLOCKED, the unpaid flag set (R99, item 1). -/
def State.stagesPayment (s : State) (l r : Nat) : Bool :=
  (s.lane l).queue == [r] && (s.mergeLane l).eye && (s.mergeLane l).unpaid

/-- A payment's order judged against the merge eye (R99, item 1); only its staging is an occasion for the arbiter
(R102), while the order counts in the demand either way (R121). -/
def State.judgePayment (s : State) (l r : Nat) : State :=
  if s.stagesPayment l r then (s.stage l r).review else s.judgeConveyor

/-- The lane's queue judged after a binding (R99, item 2). -/
def State.stageOnBinding (s : State) (l : Nat) : State :=
  if (s.mergeLane l).eye then
    match s.headOrder l with
    | none => s.markUnpaid l
    | some r => if (s.order r).state = .queued then s.stage l r else s
  else s

/-- The lane's queue judged after a void (R99, item 3). -/
def State.judgeVoid (s : State) (l : Nat) : State :=
  if (s.mergeLane l).eye = true ∧ (s.lane l).queue = [] then s.markUnpaid l else s

/-! ## The end of a grant (R107 to R109) -/

/-- The grant record emptied, its window stopped, its gate closed (R108). -/
def State.endGrant (s : State) (l : Nat) : State :=
  (s.setMerge { s.merge with grant := none, admitTimer := none }).closeGate l

/-- The granted order goes back to STAGED or QUEUED by its merge eye (R108). -/
def State.ungrant (s : State) (l r : Nat) : State :=
  if (s.mergeLane l).eye then (s.setOrderState r .staged).handStart else s.setOrderState r .queued

/-- Withdraw any grant (R108). -/
def State.withdraw (s : State) : State :=
  match s.merge.grant with
  | none => s
  | some g =>
    match s.headOrder g.lane with
    | none => s.endGrant g.lane
    | some r => (s.ungrant g.lane r).endGrant g.lane

/-- ADMIT_WINDOW_EXPIRY (R107). -/
def execAdmitWindowExpiry (s : State) : Host.Outcome State Fault Refusal :=
  whenDue (Timer.due s.merge.admitTimer) s fun s =>
    match s.merge.grant with
    | none => s.setMerge { s.merge with admitTimer := none }
    | some g => (s.withdraw.notifySales 3 g.lane (some g.tag) none).review

/-! ## Gate reports (R106) -/

/-- Notice SALES GATE_UNCOMMANDED for a lane (R106). -/
def State.notifyGate (s : State) (l : Nat) : State := s.notifySales 2 l none none

/-- The lane holds the grant. -/
def State.holdsGrant (s : State) (l : Nat) : Bool := s.merge.grant.any fun g => g.lane == l

/-- A report OPEN on a CLOSED record (R106). -/
def State.uncommandedOpen (s : State) (l : Nat) : State :=
  if s.halt.mode = .armed ∧ s.holdsGrant l = true then s.setGate l .isOpen
  else if s.halt.mode = .armed ∨ s.halt.mode = .recovering then (s.notifyGate l).closeGate l
  else (s.notifyGate l).setGate l .isOpen

/-- GATE_STATE (R106, Table 5-3). -/
def execGateState (lane : Nat) (isOpen : Bool) (s : State) : Host.Outcome State Fault Refusal :=
  taking (.gateState lane isOpen) s fun s =>
    match (s.mergeLane lane).gate, isOpen with
    | .closed, true => s.uncommandedOpen lane
    | .opening, true => s.setGate lane .isOpen
    | .isOpen, true => s
    | .closing, true => s
    | .closed, false => s
    | .opening, false => s
    | .isOpen, false => (s.notifyGate lane).setGate lane .closed
    | .closing, false => s.setGate lane .closed

end Sys2Proof.Machine
end

