-- ==== Sys2Proof/Machine/Sales.lean ====
section
/-!
DEFINITION. Chapter 3, Plans, Quotes and Orders: the quote, payment and cancellation exchange, the order pool, voids, the
lane requests and the withdrawal cascade.
-/
namespace Sys2Proof.Machine

/-! ## QUOTE (R53 to R55) -/

/-- The sum of the add-on prices of a set (R54). -/
def State.addonPrice (s : State) (set : ServiceSet) : Nat :=
  (serviceList set).foldl (fun acc n => acc + (s.service n).price) 0

/-- Steps 3 to 5 of R53: the refusal, or none. -/
def State.quoteRefusal (s : State) (l plan : Nat) (addons : ServiceSet) : Option Reply :=
  if Config.laneSize < (s.lane l).queue.length + 1 then some .laneFull
  else if 11 < plan ∨ s.available plan = false then some .planClosed
  else if addons &&& (s.plan plan).addons ≠ addons then some .addonNotAllowed
  else if s.allCovered addons = false then some .addonUnavailable
  else none

/-- A QUOTE without a member (R54). -/
def State.quoteCash (s : State) (l plan : Nat) (addons : ServiceSet) : State :=
  let price := (s.plan plan).price + s.addonPrice addons
  if 65535 < price then s.quoteReply l .priceLimit none 0
  else (s.fillSlot l plan addons price none).offerSlot l

/-- A QUOTE with a member (R55). -/
def State.quoteMember (s : State) (l plan : Nat) (addons : ServiceSet) (id : Nat) : State :=
  let price := s.addonPrice addons
  if 65535 < price then s.quoteReply l .priceLimit none 0
  else
    let (t, answer) := s.lookup l id (s.plan plan).tier
    match answer with
    | .accepted => (t.fillSlot l plan addons price (some id)).offerSlot l
    | .waiting => (t.fillSlot l plan addons price (some id)).pendSlot l
    | .refused r => t.quoteReply l r none 0

/-- QUOTE (R53). -/
def execQuote (lane plan : Nat) (addons : ServiceSet) (member : Nat) (s : State) :
    Host.Outcome State Fault Refusal :=
  taking (.quote lane plan addons member) s fun s =>
    if s.halt.mode = .offline then s.quoteReply lane .tunnelOffline none 0
    else if (s.lane lane).isOpen = false then s.quoteReply lane .laneClosed none 0
    else
      let t := s.voidQuote lane none
      match t.quoteRefusal lane plan addons with
      | some r => t.quoteReply lane r none 0
      | none => if member = 0 then t.quoteCash lane plan addons else t.quoteMember lane plan addons member

/-- QUOTE_LIFE_EXPIRY (R57). -/
def execQuoteLifeExpiry (lane : Nat) (s : State) : Host.Outcome State Fault Refusal :=
  whenDue (Timer.due (s.slot lane).life) s fun s => s.voidQuote lane (some .expired)

/-- CANCEL (R60). -/
def execCancel (lane token : Nat) (s : State) : Host.Outcome State Fault Refusal :=
  taking (.cancel lane token) s fun s =>
    if Slot.held (s.slot lane) = true ∧ (s.slot lane).token = token then s.voidQuote lane (some .cancelled) else s

/-! ## PAID (R58, R59) -/

/-- The member's uses are at the daily limit (R58, step 3). -/
def State.atLimit (s : State) (m : Option Nat) : Bool :=
  match m with
  | none => false
  | some id =>
    match s.memberIndex id with
    | some n => decide ((s.memberRec n).limit ≤ (s.memberRec n).uses)
    | none => true

/-- The order a quote makes (R59, step 2). -/
def State.orderOf (s : State) (l tag tender : Nat) : Order :=
  let q := s.slot l
  { state := .queued, tag := tag, lane := l, plan := q.plan, services := (s.plan q.plan).base ||| q.addons,
    tier := (s.plan q.plan).tier, cap := (s.plan q.plan).cap, price := q.price, tender := tender, member := q.member,
    car := none, degraded := false }

/-- A payment made into an order with record `r` and a tag (R59). -/
def State.makeOrder (s : State) (l r tag tender : Nat) : State :=
  let o := s.orderOf l tag tender
  let t := s.setSales { s.sales with free := s.sales.free.erase r, tag := tag }
  let t := t.setOrder r o
  let t := t.setLane l { t.lane l with queue := (t.lane l).queue ++ [r] }
  let t := ((t.spendUse o.member).releaseRef o.member).emptySlot l
  let t := t.toField (t.kioskAddr l) Config.kOrderReply [1, byte tag]
  t.judgePayment l r

/-- A payment that passes R58. -/
def State.pay (s : State) (l tender : Nat) : State :=
  match s.sales.free with
  | [] => s
  | r :: _ => s.makeOrder l r (nextTag s.orderTags s.sales.tag) tender

/-- PAID (R58). -/
def execPaid (lane token tender : Nat) (s : State) : Host.Outcome State Fault Refusal :=
  taking (.paid lane token tender) s fun s =>
    let q := s.slot lane
    if q.state ≠ .offered ∨ q.token ≠ token then s.refusePayment lane .quoteExpired
    else if tender ≠ 1 ∧ tender ≠ 2 ∧ tender ≠ 3 then s.refusePayment lane .badTender
    else if s.atLimit q.member then (s.voidQuote lane none).refusePayment lane .memberLimit
    else if s.available q.plan = false ∨ s.allCovered q.addons = false then
      (s.voidQuote lane none).refusePayment lane .planClosed
    else s.pay lane tender

/-! ## Voids (R65, R66) -/

/-- REPORT VOID (R66, Table 10-4). -/
def State.voidReport (s : State) (o : Order) (reason : Nat) : State :=
  s.toSite Config.kReport
    ([2, byte o.tag, byte o.lane, byte o.plan] ++ be16 o.price ++ [byte o.tender] ++ be24 (o.member.getD 0) ++
      [byte reason])

/-- A record returns to the head of the free list (R61). -/
def State.freeOrder (s : State) (r : Nat) : State :=
  (s.setOrder r .blank).setSales { (s.setOrder r .blank).sales with free := r :: s.sales.free }

/-- An order leaves its lane queue (R65, step 1). -/
def State.dequeue (s : State) (l r : Nat) : State :=
  s.setLane l { s.lane l with queue := (s.lane l).queue.erase r }

/-- The steps of R65 for an order that waits in a lane. -/
def State.callOff (s : State) (r reason : Nat) : State :=
  let o := s.order r
  let t := s.dequeue o.lane r
  let t := if o.state = .granted then t.endGrant o.lane else t
  ((t.returnUse o.member).voidReport o reason).freeOrder r

/-- Void an order that waits in a lane (R65, R99); only the end of its grant is an occasion for the arbiter (R102), while
the demand falls either way (R121). -/
def State.voidOrder (s : State) (r reason : Nat) : State :=
  let t := (s.callOff r reason).judgeVoid (s.order r).lane
  if (s.order r).state = .granted then t.review else t.judgeConveyor

/-- CANCEL_ORDER (R67). -/
def execCancelOrder (seq : Byte) (args : List Byte) (s : State) : Host.Outcome State Fault Refusal :=
  taking (.cancelOrder seq args) s fun s =>
    match args with
    | [] => s.reply seq 10 .badRequest []
    | tag :: _ =>
      match s.orderOfTag tag.toNat with
      | none => s.reply seq 10 .notFound []
      | some r =>
        if (s.order r).state = .bound then s.reply seq 10 .wrongMode []
        else (s.voidOrder r 1).reply seq 10 .ok []

/-! ## Lanes (R51, R68) -/

/-- LANE_OPEN (R51). A lane already OPEN whose kiosk or gate is SILENT is refused; R51 says both answers (log 38). -/
def execLaneOpen (seq : Byte) (args : List Byte) (s : State) : Host.Outcome State Fault Refusal :=
  taking (.laneOpen seq args) s fun s =>
    match args with
    | [] => s.reply seq 8 .badRequest []
    | b :: _ =>
      let l := b.toNat
      if 2 < l then s.reply seq 8 .badIndex [b]
      else if s.halt.mode = .offline then s.reply seq 8 .wrongMode []
      else if s.present l = false then s.reply seq 8 .notFound []
      else if s.laneSilent .kiosk l || s.laneSilent .gate l then s.reply seq 8 .conditionPresent []
      else (s.setLane l { s.lane l with isOpen := true }).reply seq 8 .ok []

/-- Every order of a lane's queue is voided, from head to tail (R68). -/
def State.purge (s : State) (l : Nat) : State := (s.lane l).queue.foldl (fun t r => t.voidOrder r 2) s

/-- LANE_CLOSE (R68). -/
def execLaneClose (seq : Byte) (args : List Byte) (s : State) : Host.Outcome State Fault Refusal :=
  taking (.laneClose seq args) s fun s =>
    match args with
    | b :: purge :: _ =>
      let l := b.toNat
      if 2 < l then s.reply seq 9 .badIndex [b]
      else if 1 < purge.toNat then s.reply seq 9 .badValue []
      else
        let t := s.closeLane l (some .laneClosed)
        (if purge = 1 then t.purge l else t).reply seq 9 .ok []
    | _ => s.reply seq 9 .badRequest []

/-! ## Loss of a service (R69) -/

/-- An order that the loss of a service newly degrades (R69, step 2). -/
def newlyDegraded (svc : Nat) (o : Order) : Bool := Order.waits o && hasService o.services svc && !o.degraded

/-- The withdrawal cascade for a service that is no longer covered (R69). -/
def State.cascade (s : State) (svc : Nat) : State :=
  if s.covered svc then s
  else
    (s.setSales { s.sales with
      orders := s.sales.orders.map fun o => if newlyDegraded svc o then { o with degraded := true } else o }).notifySales
      4 svc none (some (s.sales.orders.countP (newlyDegraded svc)))

end Sys2Proof.Machine
end

