-- ==== Sys2Proof/Machine/Stations.lean ====
section
/-!
DEFINITION. Chapter 7, Stations and Brush Pacing: windows, engagement and retraction, current supervision, departure of a
car, service state, and the stations' part in a halt. ACT_STATE stands in Halt.lean, beside the confirmation it gives.
-/
namespace Sys2Proof.Machine

/-! ## Commands -/

/-- A STATION_CMD on the normal queue (Table 10-3: 1 ENGAGE, 2 BACKOFF, 4 PARK). -/
def State.stationCmd (s : State) (i sub pace : Nat) : State :=
  s.toField (s.station i).actuator Config.kStationCmd [byte sub, byte pace]

/-- STATION_CMD RETRACT on the urgent queue. -/
def State.retract (s : State) (i : Nat) : State := s.toFieldUrgent (s.station i).actuator Config.kStationCmd [3, 0]

/-! ## Window crossings (R145 to R148, R151) -/

/-- A car's front and rear travel before and after a movement (R145). -/
structure Move where
  tag : Nat
  front0 : Nat
  front1 : Nat
  rear0 : Option Int
  rear1 : Option Int
  deriving DecidableEq, Repr

/-- The movement that takes a car from one record to another. -/
def moveOf (before after : Car) : Move :=
  { tag := before.tag, front0 := before.front, front1 := after.front, rear0 := Car.rear before,
    rear1 := Car.rear after }

/-- A point is crossed upward (R145). -/
def crosses (before after point : Int) : Bool := before < point && point ≤ after

/-- The start point is crossed by the front (R145). -/
def startCrossed (st : Station) (m : Move) : Bool :=
  crosses (m.front0 : Int) (m.front1 : Int) (Station.startPoint st)

/-- The end point is crossed by the rear, where it is known before and after (R145). -/
def endCrossed (st : Station) (m : Move) : Bool :=
  match m.rear0, m.rear1 with
  | some a, some b => crosses a b (Station.endPoint st)
  | _, _ => false

/-- A rear travel, if known, lies below the station's end point (R147). -/
def rearBelow (st : Station) (rear : Option Int) : Bool := rear.all fun r => r < Station.endPoint st

/-- The station lets go of a car: RETRACT, RETRACTING, no backoff steps left (R148). -/
def State.release (s : State) (i : Nat) : State :=
  (s.retract i).setStation i { s.station i with activity := .retracting, stepsLeft := 0 }

/-- A service enters a car's done set (R148). -/
def State.credit (s : State) (tag svc : Nat) : State :=
  s.modCar tag fun c => { c with done := addService c.done svc }

/-- The end crossing of a car at a station (R148). -/
def State.endCrossing (s : State) (i tag : Nat) : State :=
  let st := s.station i
  if st.car = some tag then
    match st.activity with
    | .engaged => (s.release i).credit tag st.service
    | .backoff => s.release i
    | .idle => s
    | .retracting => s
  else s

/-- The counting of backoff steps at a step handover, with the re-engagement at 0 (R151). -/
def State.countBackoff (s : State) (i delta : Nat) : State :=
  let st := s.station i
  if st.activity = .backoff then
    let left := st.stepsLeft - delta
    if left = 0 then
      (s.stationCmd i 1 st.active).setStation i { st with activity := .engaged, stepsLeft := 0 }
    else s.setStation i { st with stepsLeft := left }
  else s

/-- The car's services hold the station's, and its done set does not (R147). -/
def wants (c : Car) (st : Station) : Bool := hasService c.services st.service && !hasService c.done st.service

/-- A station takes a car at a pace: ENGAGE sent, the fields of the engagement set (R147, R158). -/
def State.engage (s : State) (i tag pace : Nat) : State :=
  (s.stationCmd i 1 pace).setStation i
    { s.station i with active := pace, activity := .engaged, car := some tag, backoffs := 0, stepsLeft := 0 }

/-- The start crossing of a car at a station (R147). -/
def State.startCrossing (s : State) (i : Nat) (m : Move) : State :=
  let st := s.station i
  match s.car? m.tag with
  | none => s
  | some c =>
    if s.halt.mode = .armed ∧ st.inService = true ∧ st.activity = .idle ∧ wants c st = true ∧
        rearBelow st m.rear1 = true then
      s.engage i m.tag st.preload
    else s

/-- One station's judgement of a handover: end crossings, backoff steps, start crossings (R146). -/
def State.judgeStation (s : State) (i : Nat) (moves : List Move) (delta : Option Nat) : State :=
  let st := s.station i
  if Station.used st then
    let t := (moves.filter (endCrossed st)).foldl (fun t m => t.endCrossing i m.tag) s
    let t := match delta with
      | some d => t.countBackoff i d
      | none => t
    (moves.filter (startCrossed st)).foldl (fun t m => t.startCrossing i m) t
  else s

/-- The station numbers. -/
def stationNumbers : List Nat := List.range 24

/-- A handover judged station by station, in number order (R146, which leaves the order open; log 31). -/
def State.handMoves (s : State) (moves : List Move) (delta : Option Nat) : State :=
  stationNumbers.foldl (fun t i => t.judgeStation i moves delta) s

/-! ## Service state (R154 to R156) -/

/-- The reasons of Table 7-4, with their notice reason codes (Table 9-6). -/
inductive OutReason
  | actFault
  | jammed
  | nodeSilent
  | unconfirmed
  | management
  deriving DecidableEq, Repr

/-- The notice STATION reason of going out of service; none for the management request (R155). -/
def outNotice : OutReason → Option Nat
  | .actFault => some 1
  | .jammed => some 2
  | .nodeSilent => some 3
  | .unconfirmed => some 4
  | .management => none

/-- A station set IDLE, its car and backoff fields cleared (R142, R155). -/
def Station.toIdle (st : Station) : Station :=
  { st with activity := .idle, car := none, backoffs := 0, stepsLeft := 0 }

/-- The activity Table 7-4 gives. -/
def Station.afterOut (st : Station) (r : OutReason) : Station :=
  match r with
  | .management => if Station.working st then { st with activity := .retracting } else st
  | .actFault => Station.toIdle st
  | .jammed => Station.toIdle st
  | .nodeSilent => Station.toIdle st
  | .unconfirmed => Station.toIdle st

/-- A station goes OUT_OF_SERVICE (R155). -/
def State.outOfService (s : State) (i : Nat) (r : OutReason) : State :=
  let st := s.station i
  let t := if Station.working st then s.retract i else s
  let t := t.setStation i { Station.afterOut st r with inService := false }
  let t := if st.inService = true ∧ Station.used st = true then t.cascade st.service else t
  match outNotice r with
  | some n => t.notifyStation n i none
  | none => t

/-- ACT_STATE_FAULT (R154). -/
def execActStateFault (station : Nat) (s : State) : Host.Outcome State Fault Refusal :=
  taking (.actStateFault station) s fun s =>
    if Station.used (s.station station) then s.outOfService station .actFault else s

/-- A current above the limit backs an engaged brush off (R150, item 1; R152). -/
def State.backOff (s : State) (i : Nat) : State :=
  let st := s.station i
  let n := sat 7 (st.backoffs + 1)
  let t := (s.stationCmd i 2 0).setStation i { st with activity := .backoff, backoffs := n, stepsLeft := st.backLen }
  if st.bind ≤ n then t.raiseCause .brushBind { CauseDetail.empty with station := some i, car := st.car } else t

/-- CURRENT (R150, R152). A value above the 2000 of Table 7-1 is recorded as it came (log 33). -/
def execCurrent (station value : Nat) (s : State) : Host.Outcome State Fault Refusal :=
  taking (.current station value) s fun s =>
    let st := s.station station
    if Station.used st = true ∧ st.kind = .touch then
      let t := s.setStation station { st with lastCurrent := value }
      if st.activity = .engaged ∧ st.limit < value then t.backOff station
      else if st.activity = .idle ∧ st.limit < value ∧ st.inService = true then t.outOfService station .jammed
      else t
    else s

/-- A station returns to service (R156). -/
def State.backInService (s : State) (i : Nat) : State := s.setStation i { s.station i with inService := true }

/-- STATION_SERVICE out: out of service where it was in, and PARK in every case (R156). -/
def State.serviceOut (s : State) (i : Nat) : State :=
  (if (s.station i).inService then s.outOfService i .management else s).stationCmd i 4 0

/-- The actuator's node record is SILENT (R156). -/
def State.actuatorSilent (s : State) (i : Nat) : Bool :=
  match (s.station i).actuator with
  | some a => (s.node a).silent
  | none => false

/-- STATION_SERVICE (R156). -/
def execStationService (seq : Byte) (args : List Byte) (s : State) : Host.Outcome State Fault Refusal :=
  taking (.stationService seq args) s fun s =>
    match args with
    | b :: dir :: _ =>
      let i := b.toNat
      if 23 < i then s.reply seq 11 .badIndex [b]
      else if dir ≠ 1 ∧ dir ≠ 2 then s.reply seq 11 .badValue []
      else if Station.used (s.station i) = false then s.reply seq 11 .notFound []
      else if dir = 2 then (s.serviceOut i).reply seq 11 .ok []
      else if s.actuatorSilent i then s.reply seq 11 .conditionPresent []
      else (s.backInService i).reply seq 11 .ok []
    | _ => s.reply seq 11 .badRequest []

/-! ## Departure of a car (R153) -/

/-- One station released from a departing car (R153). -/
def State.departStation (s : State) (i tag : Nat) : State :=
  let st := s.station i
  if st.car = some tag then
    if Station.working st then
      ((s.retract i).setStation i { st with activity := .retracting, car := none }).notifyStation 6 i (some tag)
    else s.setStation i { st with car := none }
  else s

/-- Every station is released from a departing car (R153), in number order (log 31). -/
def State.depart (s : State) (tag : Nat) : State := stationNumbers.foldl (fun t i => t.departStation i tag) s

/-! ## Stations in a halt (R157, R158) -/

/-- A used station that is not IDLE (R157, R167). -/
def State.busyStation (s : State) (i : Nat) : Bool := Station.used (s.station i) && (s.station i).activity != .idle

/-- The stations that halt entry retracts (R157, R167), in number order (log 31). -/
def State.busyStations (s : State) : List Nat := stationNumbers.filter s.busyStation

/-- Halt entry's retraction (R157), in number order (log 31). -/
def State.haltRetract (s : State) : State := s.busyStations.foldl State.release s

/-- A car's window at a station is open (R158). -/
def windowOpen (st : Station) (c : Car) : Bool :=
  Station.startPoint st ≤ (c.front : Int) && rearBelow st (Car.rear c) && wants c st

/-- Resume engagement of one station (R158). -/
def State.resumeStation (s : State) (i : Nat) : State :=
  let st := s.station i
  if Station.used st = true ∧ st.activity = .idle ∧ st.inService = true then
    match s.track.cars.find? (windowOpen st) with
    | some c => s.engage i c.tag st.active
    | none => s
  else s

/-- Resume engagement (R158), in number order (log 31). -/
def State.resumeStations (s : State) : State := stationNumbers.foldl State.resumeStation s

end Sys2Proof.Machine
end

