-- ==== Sys2Proof/Machine/Halt.lean ====
section
/-!
DEFINITION. Chapter 8, Halting and Recovery: tunnel modes, causes, halt entry, confirmation, clearing, release and the
recovery hold. ARM and DISARM stand in Arming.lean.
-/
namespace Sys2Proof.Machine

/-! ## The mode (R161) -/

/-- A change of mode: PERMIT with it (R161), the drift count 0 on becoming ARMED (R120), Port F's sweep (R26). The sweep
comes with the change, before the frames that the same event offers after it; R26 gives no order (log 39). -/
def State.enterMode (s : State) (m : Mode) : State :=
  let t := s.setHalt { s.halt with mode := m, permit := m == .armed }
  let t := if m = .armed then t.setTrack { t.track with drift := 0 } else t
  t.sweep

/-! ## The cause set (R162, R163) -/

/-- A kind joins the set and its last detail is replaced (R163, R165). -/
def Halt.latch (h : Halt) (k : CauseKind) (d : CauseDetail) : Halt :=
  { h with
    causes := if k ∈ h.causes then h.causes else h.causes ++ [k],
    lastDetails := h.lastDetails.set (causeNumber k - 1) (some d) }

/-! ## Halt entry (R166, R167) -/

/-- HALT_BCAST with the first cause's number, to every field node (R166). -/
def State.broadcast (s : State) : State :=
  s.offerUrgent .f (ownFrame Config.broadcastAddr Config.kHaltBcast
    [byte (s.halt.first.elim 0 fun p => causeNumber p.1)])

/-- The conveyor's part of halt entry (R120). -/
def State.haltConveyor (s : State) : State :=
  s.setTrack { s.track with
    conveyor := if s.track.conveyor = .stopped then .stopped else .stopping,
    startWait := none, stopWait := none, idle := none, pendingStart := false }

/-- Every car takes HALTED_DURING (R166, step 7). -/
def State.flagCars (s : State) : State := s.setCars (s.track.cars.map fun c => { c with haltedDuring := true })

/-- The halt is confirmed when nobody is awaited: HALTED, the timers stopped, notice HALT (R167, R169). -/
def State.endWait (s : State) : State :=
  if s.halt.awaitDrive = false ∧ s.halt.awaitStations = [] then
    ((s.setHalt { s.halt with bcast := none, haltWait := none }).enterMode .halted).notifyHalt (some .halted) none
  else s

/-- Halt entry with its first cause (R166, R167). -/
def State.haltEntry (s : State) (k : CauseKind) (d : CauseDetail) : State :=
  let drive := s.track.conveyor != .stopped
  let stations := s.busyStations
  let t := s.setHalt { Halt.latch s.halt k d with first := some (k, d), hold := none }
  let t := (t.enterMode .halting).broadcast
  let t := t.setHalt { t.halt with bcast := loaded (t.param .bcastEvery) }
  let t := t.driveStop.haltConveyor
  let t := t.haltRetract
  let t := t.withdraw.closeOpenGates
  let t := t.flagCars
  let t := t.setHalt { t.halt with
    awaitDrive := drive, awaitStations := stations, haltWait := loaded (t.param .haltWait) }
  (t.notifyHalt (some .halting) (some k)).endWait

/-- A cause raised at the Halt block (R165). -/
def State.takeCause (s : State) (k : CauseKind) (d : CauseDetail) : State :=
  match s.halt.mode with
  | .armed => s.haltEntry k d
  | .recovering => s.haltEntry k d
  | .offline => (s.setHalt (Halt.latch s.halt k d)).notifyHalt none (some k)
  | .halting => (s.setHalt (Halt.latch s.halt k d)).notifyHalt none (some k)
  | .halted => (s.setHalt (Halt.latch s.halt k d)).notifyHalt none (some k)

/-- RAISE_CAUSE (R165): the Halt block takes a cause that a block has raised and that stands untaken. -/
def execRaiseCause (kind : CauseKind) (detail : CauseDetail) (s : State) : Host.Outcome State Fault Refusal :=
  whenDue (decide ((kind, detail) ∈ s.raised)) s fun s =>
    (s.setRaised (s.raised.erase (kind, detail))).takeCause kind detail

/-! ## Emergency stops and FORCE_HALT (R164, R174): the Halt block's own causes, taken in the same event -/

/-- STOP_ACTIVE (R164). -/
def execStopActive (src : Nat) (s : State) : Host.Outcome State Fault Refusal :=
  taking (.stopActive src) s fun s =>
    let active := if src ∈ s.halt.estopActive then s.halt.estopActive else s.halt.estopActive ++ [src]
    (s.setHalt { s.halt with estopActive := active }).takeCause .estopNode { CauseDetail.empty with node := some src }

/-- STOP_RELEASED (R164). -/
def execStopReleased (src : Nat) (s : State) : Host.Outcome State Fault Refusal :=
  taking (.stopReleased src) s fun s =>
    s.setHalt { s.halt with estopActive := s.halt.estopActive.filter fun a => a != src }

/-- The ESTOP line seen asserted where it was deasserted (R164). -/
def State.lineAsserted (s : State) : State :=
  if s.halt.estopLine then s
  else (s.setHalt { s.halt with estopLine := true }).takeCause .estopLine CauseDetail.empty

/-- ESTOP_LINE_ASSERTED (R164). -/
def execEstopLineAsserted (s : State) : Host.Outcome State Fault Refusal := running s State.lineAsserted

/-- ESTOP_LINE_DEASSERTED (R164). -/
def execEstopLineDeasserted (s : State) : Host.Outcome State Fault Refusal :=
  running s fun s => s.setHalt { s.halt with estopLine := false }

/-- FORCE_HALT (R174). -/
def execForceHalt (seq : Byte) (args : List Byte) (s : State) : Host.Outcome State Fault Refusal :=
  taking (.forceHalt seq args) s fun s => (s.takeCause .manual CauseDetail.empty).reply seq 6 .ok []

/-! ## Confirmation (R168 to R170) -/

/-- BROADCAST_TIMER_EXPIRY (R168). -/
def execBroadcastTimerExpiry (s : State) : Host.Outcome State Fault Refusal :=
  whenDue (Timer.due s.halt.bcast) s fun s =>
    let t := s.broadcast
    t.setHalt { t.halt with bcast := loaded (t.param .bcastEvery) }

/-- The drive's stop is confirmed (R169). -/
def State.confirmDrive (s : State) : State :=
  if s.halt.mode = .halting ∧ s.halt.awaitDrive = true then
    let t := s.setHalt { s.halt with awaitDrive := false }
    t.conveyorStopped.endWait
  else s

/-- HALT_DRIVE_CONFIRM (R169): RUNNING and FAULT confirm nothing. -/
def execHaltDriveConfirm (src : Nat) (report : DriveReport) (s : State) : Host.Outcome State Fault Refusal :=
  taking (.haltDriveConfirm src report) s fun s =>
    match report with
    | .stopped => s.confirmDrive
    | .running => s
    | .fault => s

/-- A station's retraction is confirmed (R169). -/
def State.confirmStation (s : State) (i : Nat) : State :=
  if s.halt.mode = .halting ∧ i ∈ s.halt.awaitStations then
    (s.setHalt { s.halt with awaitStations := s.halt.awaitStations.erase i }).endWait
  else s

/-- A RETRACTED or PARKED report at a station (Table 7-2), then the confirmation (R149, R169). -/
def State.retractedReport (s : State) (i : Nat) : State :=
  let st := s.station i
  (if st.activity = .retracting then s.setStation i (Station.toIdle st) else s).confirmStation i

/-- An ENGAGED report at a station (Table 7-2). -/
def State.engagedReport (s : State) (i : Nat) : State :=
  let st := s.station i
  if st.activity = .idle ∧ s.halt.mode ≠ .offline then
    ((s.notifyStation 5 i none).retract i).setStation i { st with activity := .retracting }
  else s

/-- ACT_STATE (R149). -/
def execActState (station : Nat) (report : ActReport) (s : State) : Host.Outcome State Fault Refusal :=
  taking (.actState station report) s fun s =>
    if Station.used (s.station station) then
      match report with
      | .engaged => s.engagedReport station
      | .retracted => s.retractedReport station
      | .parked => s.retractedReport station
    else s

/-- The detail of STOP_UNCONFIRMED (R170, step 1). -/
def State.unconfirmedDetail (s : State) : CauseDetail :=
  { node := if s.halt.awaitDrive then s.driveAddr else none, station := s.halt.awaitStations.min?, car := none,
    arg := some s.halt.awaitStations.length }

/-- HALT_WAIT_EXPIRY (R170). The awaited stations go OUT_OF_SERVICE in the order halt entry listed them, which is number
order (log 31). -/
def execHaltWaitExpiry (s : State) : Host.Outcome State Fault Refusal :=
  whenDue (Timer.due s.halt.haltWait) s fun s =>
    let stations := s.halt.awaitStations
    let drive := s.halt.awaitDrive
    let t := s.setHalt (Halt.latch s.halt .stopUnconfirmed s.unconfirmedDetail)
    let t := stations.foldl (fun t i => t.outOfService i .unconfirmed) t
    let t := if drive then t.conveyorStopped else t
    let t := t.setHalt { t.halt with awaitDrive := false, awaitStations := [], bcast := none, haltWait := none }
    (t.enterMode .halted).notifyHalt (some .halted) (some .stopUnconfirmed)

/-! ## Clearing, release and the recovery hold (R171 to R173) -/

/-- CLEAR_CAUSE (R171). -/
def execClearCause (seq : Byte) (args : List Byte) (s : State) : Host.Outcome State Fault Refusal :=
  taking (.clearCause seq args) s fun s =>
    match args with
    | [] => s.reply seq 7 .badRequest []
    | n :: _ =>
      match causeOfNumber n.toNat with
      | none => s.reply seq 7 .badValue []
      | some k =>
        if k ∉ s.halt.causes then s.reply seq 7 .notFound []
        else if s.condition k then s.reply seq 7 .conditionPresent []
        else (s.setHalt { s.halt with causes := s.halt.causes.erase k }).reply seq 7 .ok []

/-- A taken RELEASE (R172, R109). WARN is offered before the gates' CLOSEs; no rule orders them (log 41). -/
def State.recover (s : State) : State :=
  let t := s.enterMode .recovering
  let t := t.offerUrgent .f (ownFrame Config.broadcastAddr Config.kWarn [byte (t.param .holdTicks)])
  let t := t.setHalt { t.halt with hold := loaded (t.param .holdTicks) }
  t.closeOpenGates.notifyHalt (some .recovering) none

/-- RELEASE (R172). -/
def execRelease (seq : Byte) (args : List Byte) (s : State) : Host.Outcome State Fault Refusal :=
  taking (.release seq args) s fun s =>
    if s.halt.mode ≠ .halted then s.reply seq 5 .wrongMode []
    else if s.halt.causes ≠ [] then s.reply seq 5 .causeLatched []
    else s.recover.reply seq 5 .ok []

/-- HOLD_TIMER_EXPIRY (R173). -/
def execHoldTimerExpiry (s : State) : Host.Outcome State Fault Refusal :=
  whenDue (Timer.due s.halt.hold) s fun s =>
    let t := (s.setHalt { s.halt with hold := none }).enterMode .armed
    let t := if t.track.cars = [] then t else t.takeStart
    (t.resumeStations.notifyHalt (some .armed) none).review

end Sys2Proof.Machine
end

