-- ==== Sys2Proof/Machine/Arming.lean ====
section
/-!
DEFINITION. Arming and disarming (section 8.6): the checks of Table 8-5, ARM and DISARM.
-/
namespace Sys2Proof.Machine

/-! ## The checks of ARM (Table 8-5) -/

/-- The data of a refused ARM: check, table, index, role (Table 10-10). -/
def armData (check table index : Nat) (role : Nat) : List Byte := [byte check, byte table, byte index, byte role]

/-- The addresses whose record answers a test, in address order. -/
def State.addrsWhere (s : State) (t : NodeRecord → Bool) : List Nat := (List.range 64).filter fun a => t (s.node a)

/-- Put a pair in its place by position, after the equal ones. -/
def insertEye (e : Nat × Nat) : List (Nat × Nat) → List (Nat × Nat)
  | [] => [e]
  | f :: rest => if e.2 < f.2 then e :: f :: rest else f :: insertEye e rest

/-- The check eyes as address and position, in order of position, equal ones in address order (R133, log 29). -/
def State.checkEyes (s : State) : List (Nat × Nat) :=
  ((s.addrsWhere fun r => r.role == .checkEye).map fun a => (a, (s.node a).position)).foldl
    (fun l e => insertEye e l) []

/-- SLIP_ORDER. -/
def State.checkSlip (s : State) : Option (List Byte) :=
  if s.param .trackTol < s.param .slipLimit then none else some (armData 1 3 6 0)

/-- QUEUE_ORDER. -/
def State.checkQueue (s : State) : Option (List Byte) :=
  if s.param .resumeAt < s.param .pauseAt then none else some (armData 2 3 18 0)

/-- ROLE_COUNT for one role: exactly one record, else the second one's address, or 64. -/
def State.checkRole (s : State) (r : Role) : Option (List Byte) :=
  match s.addrsWhere fun n => n.role == r with
  | [_] => none
  | l => some (armData 3 1 (l.getD 1 64) (roleNumber r))

/-- WHEEL_POSITION. -/
def State.checkWheel (s : State) : Option (List Byte) :=
  (s.findNode fun r => r.role == .wheelSwitch && !decide (r.position < s.param .rollerLimit)).map
    fun a => armData 4 1 a 0

/-- EYE_COUNT. -/
def State.checkEyeCount (s : State) : Option (List Byte) := (s.checkEyes[8]?).map fun e => armData 5 1 e.1 0

/-- The second of the first two neighbours of a list at one position. -/
def sharedPosition : List (Nat × Nat) → Option Nat
  | a :: b :: rest => if a.2 = b.2 then some b.1 else sharedPosition (b :: rest)
  | _ => none

/-- EYE_ORDER. -/
def State.checkEyeOrder (s : State) : Option (List Byte) := (sharedPosition s.checkEyes).map fun a => armData 6 1 a 0

/-- EYE_POSITION. -/
def State.checkEyePosition (s : State) : Option (List Byte) :=
  (s.findNode fun r => r.role == .checkEye && !decide (r.position < s.param .exitPos)).map fun a => armData 7 1 a 0

/-- Items 1 to 3 of R144 for a used entry. -/
def State.geometryOk (s : State) (st : Station) : Bool :=
  1 ≤ Station.startPoint st && 1 ≤ Station.endPoint st && decide (st.position < s.param .exitPos)

/-- STATION_GEOMETRY. -/
def State.checkGeometry (s : State) : Option (List Byte) :=
  ((List.range 24).find? fun i => Station.used (s.station i) && !s.geometryOk (s.station i)).map
    fun i => armData 8 2 i 0

/-- Item 4 of R144: the entry's actuator node is a STATION record that names the entry. -/
def State.actuatorOk (s : State) (i : Nat) : Bool :=
  match (s.station i).actuator with
  | some a => (s.node a).role == .station && (s.node a).station == i
  | none => true

/-- A STATION record names a used entry that names it back (R144). -/
def State.namedBack (s : State) (a : Nat) : Bool := (s.station (s.node a).station).actuator == some a

/-- STATION_NODE. -/
def State.checkStationNode (s : State) : Option (List Byte) :=
  match (List.range 24).find? fun i => !s.actuatorOk i with
  | some i => some (armData 9 2 i 0)
  | none =>
    ((List.range 64).find? fun a => (s.node a).role == .station && !s.namedBack a).map fun a => armData 9 1 a 0

/-- SILENT_NODE. -/
def State.checkSilent (s : State) : Option (List Byte) :=
  (s.findNode fun r => (watchedRole r.role || r.role == .encoder) && r.silent).map fun a => armData 10 1 a 0

/-- The first check of Table 8-5 that fails, as the refusal's data. -/
def State.armRefusal (s : State) : Option (List Byte) :=
  s.checkSlip.or <| s.checkQueue.or <| (s.checkRole .encoder).or <| (s.checkRole .drive).or <|
    (s.checkRole .entryEye).or <| (s.checkRole .exitEye).or <| (s.checkRole .wheelSwitch).or <| s.checkWheel.or <|
    s.checkEyeCount.or <| s.checkEyeOrder.or <| s.checkEyePosition.or <| s.checkGeometry.or <|
    s.checkStationNode.or s.checkSilent

/-! ## ARM and DISARM (R175, R176) -/

/-- A present lane opens (R50). -/
def State.openPresent (s : State) (l : Nat) : State :=
  if s.present l then s.setLane l { s.lane l with isOpen := true } else s

/-- ARM taken (R175). -/
def State.arm (s : State) : State :=
  let t := s.setTrack { s.track with eyes := s.checkEyes }
  let t := [0, 1, 2].foldl State.openPresent t
  ((t.enterMode .armed).notifyHalt (some .armed) none).review

/-- ARM (R175). -/
def execArm (seq : Byte) (args : List Byte) (s : State) : Host.Outcome State Fault Refusal :=
  taking (.arm seq args) s fun s =>
    if s.halt.mode ≠ .offline then s.reply seq 3 .wrongMode []
    else if s.halt.causes ≠ [] then s.reply seq 3 .causeLatched []
    else match s.armRefusal with
      | some d => s.reply seq 3 .badValue d
      | none => s.arm.reply seq 3 .ok []

/-- DISARM taken (R176, R50, R109). The lanes are closed in lane order; R176 gives none (log 31). -/
def State.disarm (s : State) : State :=
  let t := s.enterMode .offline
  let t := [0, 1, 2].foldl (fun t l => t.closeLane l (some .tunnelOffline)) t
  (t.withdraw.closeOpenGates).notifyHalt (some .offline) none

/-- A condition of the tunnel that keeps DISARM from being taken (R176). -/
def State.disarmBarred (s : State) : Bool :=
  !s.track.cars.isEmpty || (s.halt.mode == .armed && s.track.conveyor != .stopped)

/-- DISARM (R176). -/
def execDisarm (seq : Byte) (args : List Byte) (s : State) : Host.Outcome State Fault Refusal :=
  taking (.disarm seq args) s fun s =>
    if s.halt.mode ≠ .armed ∧ s.halt.mode ≠ .halted then s.reply seq 4 .wrongMode []
    else if s.disarmBarred then s.reply seq 4 .conditionPresent []
    else s.disarm.reply seq 4 .ok []

end Sys2Proof.Machine
end

