-- ==== Sys2Proof/Machine/Entry.lean ====
section
/-!
DEFINITION. The tunnel entry (sections 5.6 and 6.2): the front edge, the gap check, binding an order to a car, unannounced
cars and the insert rule.
-/
namespace Sys2Proof.Machine

/-- A car created in this mode takes HALTED_DURING (R111, R112). -/
def haltedMode : Mode → Bool
  | .halting | .halted | .recovering => true
  | .offline | .armed => false

/-- The record of an unannounced car as it is created (R112, R124). -/
def Car.unannouncedNew (tag : Nat) (halted : Bool) : Car :=
  { tag := tag, order := none, lane := none, plan := none, cap := none, services := 0, price := 0, tender := 0,
    member := none, state := .entering, front := 0, length := none, roller := .waiting, nextEye := 0, nearMiss := 0,
    done := 0, unannounced := true, degraded := false, haltedDuring := halted }

/-- The record of a car bound to an order as it is created (R111, step 2). -/
def Car.boundNew (tag : Nat) (halted : Bool) (o : Order) : Car :=
  { Car.unannouncedNew tag halted with
    order := some o.tag, lane := some o.lane, plan := some o.plan, cap := some o.cap, services := o.services,
    price := o.price, tender := o.tender, member := o.member, unannounced := false, degraded := o.degraded }

/-- The next car tag (R124). -/
def State.nextCarTag (s : State) : Nat := nextTag s.carTags s.track.carTag

/-- The insert rule: the record joins at the tail and the counter takes its tag (R124). -/
def State.insertCar (s : State) (c : Car) : State :=
  s.setTrack { s.track with cars := s.track.cars ++ [c], carTag := c.tag }

/-- The granted order bound to a new car (R111). -/
def State.bindCar (s : State) (l r : Nat) : State :=
  let o := s.order r
  let tag := s.nextCarTag
  let t := s.insertCar (Car.boundNew tag (haltedMode s.halt.mode) o)
  let t := t.setOrder r { o with state := .bound, car := some tag }
  (((t.dequeue l r).endGrant l).stageOnBinding l).review

/-- An unannounced car (R112). -/
def State.unannouncedCar (s : State) : State :=
  let tag := s.nextCarTag
  (((s.insertCar (Car.unannouncedNew tag (haltedMode s.halt.mode))).notifyTrack 1 (some tag) none).handStart).judgeConveyor

/-- A car record is created for a front edge: bound under a grant, unannounced under none (R111, R112). -/
def State.createCar (s : State) : State :=
  match s.merge.grant, s.grantedOrder with
  | some g, some r => s.bindCar g.lane r
  | _, _ => s.unannouncedCar

/-- A tail car's rear travel is below COLLISION_GAP, an unknown rear counting as 0 (R114). -/
def State.tooClose (s : State) (c : Car) : Bool :=
  match Car.rear c with
  | none => true
  | some r => r < (s.param .collisionGap : Int)

/-- Cause ENTRY_CRUSH at the entry eye's address, naming the tail car (R114). -/
def State.entryCrush (s : State) (src : Nat) (c : Car) : State :=
  s.raiseCause .entryCrush { CauseDetail.empty with node := some src, car := some c.tag }

/-- A front edge outside OFFLINE (R111 to R114). The record is created in this command, before the Halt block takes the
ENTRY_CRUSH it raises; R114 lets either come first (log 37). -/
def State.frontEdge (s : State) (src : Nat) : State :=
  if Config.carListSize ≤ s.track.cars.length then
    (s.raiseCause .overfill { CauseDetail.empty with node := some src }).notifyTrack 2 none none
  else match s.tailCar with
    | none => s.createCar
    | some c =>
      if c.front = 0 then s.entryCrush src c
      else if s.tooClose c then (s.entryCrush src c).createCar
      else s.createCar

/-- ENTRY_EYE_BLOCKED (R110). -/
def execEntryEyeBlocked (src : Nat) (s : State) : Host.Outcome State Fault Refusal :=
  taking (.entryEyeBlocked src) s fun s =>
    if s.merge.entryBlocked then s.notifyTrack 3 none none
    else
      let t := s.setMerge { s.merge with entryBlocked := true }
      if s.halt.mode = .offline then t.notifyTrack 4 none none else t.frontEdge src

end Sys2Proof.Machine
end

