-- ==== Sys2Proof/Machine/Images.lean ====
section
/-!
DEFINITION. The images READ_ENTRY returns (section 10.5, R181): one for each of the fourteen tables. Two-valued fields
that read yes or no, set or clear, on or off are carried as 1 or 0 (log 10), layouts the spec leaves to a rule's table
follow that table's order (log 11), absent values follow log 12, and the port of a PORT image is 0 or 1 (log 44).
-/
namespace Sys2Proof.Machine

/-! ## Parts of images -/

/-- An absent byte reads 0xFF (R192, log 12). -/
def orNone (o : Option Nat) : Byte := byte (o.getD 255)

/-- A tag that may be absent: a presence byte, then the tag (R192). -/
def tagField (o : Option Nat) : List Byte := [flag o.isSome, byte (o.getD 0)]

/-- A set of services (R192). -/
def setField (v : ServiceSet) : List Byte := be16 v.toNat

/-- A list of `n`-byte items with a capacity: the count, the items, and zeros (R192). -/
def listField (capacity n : Nat) (items : List (List Byte)) : List Byte :=
  byte items.length :: items.flatten ++ List.replicate ((capacity - items.length) * n) 0

/-- The presence flags of four detail fields (Tables 10-7, 10-8). -/
def presence (a b c d : Option Nat) : Byte :=
  byte (a.isSome.toNat + 2 * b.isSome.toNat + 4 * c.isSome.toNat + 8 * d.isSome.toNat)

/-- A cause detail (Table 10-7). -/
def causeImage (d : CauseDetail) : List Byte :=
  [presence d.node d.station d.car d.arg, byte (d.node.getD 0), byte (d.station.getD 0), byte (d.car.getD 0)] ++
    be16 (d.arg.getD 0)

/-- A notice detail record (Table 10-8). -/
def noticeImage (d : NoticeDetail) : List Byte :=
  [byte d.reason, presence d.node d.place d.tag d.arg, byte (d.node.getD 0), byte (d.place.getD 0),
   byte (d.tag.getD 0)] ++ be24 (d.arg.getD 0)

/-! ## Enumerated values, numbered from 1 in their tables' order (R192) -/

def stationKindCode : StationKind → Nat
  | .touch => 1
  | .spray => 2
  | .air => 3

def activityCode : Activity → Nat
  | .idle => 1
  | .engaged => 2
  | .backoff => 3
  | .retracting => 4

def planStateCode : PlanState → Nat
  | .absent => 1
  | .isOpen => 2
  | .closed => 3

def slotStateCode : SlotState → Nat
  | .empty => 1
  | .pending => 2
  | .offered => 3

/-- Table 3-6's states from 1; a free record carries 0. -/
def orderStateCode : OrderState → Nat
  | .free => 0
  | .queued => 1
  | .staged => 2
  | .granted => 3
  | .bound => 4

def memberStateCode : MemberState → Nat
  | .free => 1
  | .cached => 2
  | .pinned => 3

def gateCode : Gate → Nat
  | .closed => 1
  | .opening => 2
  | .isOpen => 3
  | .closing => 4

def conveyorCode : Conveyor → Nat
  | .stopped => 1
  | .starting => 2
  | .moving => 3
  | .stopping => 4

def carStateCode : CarState → Nat
  | .entering => 1
  | .riding => 2
  | .exiting => 3

def rollerCode : Roller → Nat
  | .waiting => 1
  | .called => 2
  | .engaged => 3

/-- The codes of Table 10-3, and 0 for none (log 11). -/
def driveReportCode : Option DriveReport → Nat
  | none => 0
  | some .running => 1
  | some .stopped => 2
  | some .fault => 3

def resetCode : ResetKind → Nat
  | .power => 1
  | .line => 2

/-- The first of two named alternates is 1 and the second 2. -/
def alternate (first : Bool) : Byte := if first then 1 else 2

/-! ## The writable tables (Table 10-6) -/

/-- A NODE image. -/
def nodeImage (r : NodeRecord) : List Byte :=
  [byte (roleNumber r.role), byte r.lane, byte r.station] ++ be16 r.position ++
    [flag r.forward, byte r.watch, byte r.silence, alternate (!r.silent), alternate (!r.synced), byte r.expected,
     byte r.gaps, byte r.errors, byte (r.lastError.elim 0 nodeErrorNumber)]

/-- A STATION image. -/
def State.stationImage (s : State) (st : Station) : List Byte :=
  [byte (stationKindCode st.kind), byte st.service] ++ be16 st.position ++
    [twos st.startOff, twos st.endOff, orNone st.actuator, byte st.preload] ++ be16 st.limit ++
    [byte st.bind, byte st.backLen, byte st.active, alternate st.inService, byte (activityCode st.activity)] ++
    tagField st.car ++ [byte st.backoffs, byte st.stepsLeft] ++ be16 st.lastCurrent ++ [flag (s.covered st.service)]

/-- A PARAM image. -/
def State.paramImage (s : State) (i : Nat) : List Byte := be16 (s.mgmt.params.getD i 0)

/-- A PLAN image. -/
def State.planImage (s : State) (n : Nat) : List Byte :=
  let p := s.plan n
  [byte (planStateCode p.state)] ++ setField p.base ++ setField p.addons ++ be16 p.price ++
    [byte p.tier, byte p.cap, flag (s.available n)]

/-- A SERVICE image. -/
def serviceImage (e : ServiceEntry) : List Byte := flag e.addable :: be16 e.price

/-! ## The read-only tables -/

/-- The Sales fields of a LANE image (Table 3-8), its queue count and queue as one list with its count byte (log 11). -/
def State.laneSalesImage (s : State) (l : Nat) : List Byte :=
  let v := s.lane l
  let q := v.slot
  [flag (s.present l), alternate v.isOpen] ++ listField 6 1 (v.queue.map fun r => [byte (s.order r).tag]) ++
    [byte (slotStateCode q.state), byte q.token, byte q.plan] ++ setField q.addons ++ be16 q.price ++
    be24 (q.member.getD 0) ++ [byte (Timer.left q.life), byte v.token]

/-- The merge fields of a LANE image (Table 5-5). -/
def State.laneMergeImage (s : State) (l : Nat) : List Byte :=
  let m := s.mergeLane l
  [alternate m.eye, flag (s.suspended l), byte (gateCode m.gate), flag m.unpaid, alternate s.merge.entryBlocked,
   alternate s.merge.grant.isNone, byte (s.merge.grant.elim 0 (·.lane)), byte (s.merge.grant.elim 0 (·.tag)),
   byte (Timer.left s.merge.admitTimer), byte s.merge.lastGranted]

/-- A LANE image (R71, R115). -/
def State.laneImage (s : State) (l : Nat) : List Byte := s.laneSalesImage l ++ s.laneMergeImage l

/-- An ORDER image (R71). -/
def State.orderImage (s : State) (r : Nat) : List Byte :=
  let o := s.order r
  if o.state = .free then 1 :: List.replicate 18 0
  else
    [0, byte o.tag, byte o.lane, byte o.plan] ++ setField o.services ++ [byte o.tier, byte o.cap] ++ be16 o.price ++
      [byte o.tender] ++ be24 (o.member.getD 0) ++ [byte (orderStateCode o.state)] ++ tagField o.car ++
      [flag o.degraded, orNone ((s.lane o.lane).queue.findIdx? fun q => q == r)]

/-- A MEMBER image (R94). -/
def State.memberImage (s : State) (n : Nat) : List Byte :=
  let m := s.memberRec n
  [byte (memberStateCode m.state)] ++ be24 m.id ++
    [byte m.tier, byte m.limit, byte m.uses, flag m.dirty, byte m.refs,
     orNone (s.members.recency.findIdx? fun q => q == n)]

/-- The lanes of a waiting set, each with its tier, in lane order: the items of a list of three (log 11). -/
def waitingItems (w : List (Option Nat)) : List (List Byte) :=
  [0, 1, 2].filterMap fun l => (w.getD l none).map fun tier => [byte l, byte tier]

/-- A FETCH image (R94), its waiting set a count byte and three items of lane and tier (log 11). -/
def State.fetchImage (s : State) (n : Nat) : List Byte :=
  let f := s.fetch n
  [alternate f.id.isNone] ++ be24 (f.id.getD 0) ++ listField 3 2 (waitingItems f.waiting) ++ [byte (Timer.left f.timer)]

/-- A CAR image where a car stands (R140, Table 6-4); its last byte holds the flags UNANNOUNCED, DEGRADED and HALTED_DURING
in bits 0, 1 and 2 (log 11). -/
def carFields (c : Car) : List Byte :=
  [byte c.tag] ++ tagField c.order ++ [orNone c.lane, orNone c.plan, byte (c.cap.getD 0)] ++ setField c.services ++
    be16 c.price ++ [byte c.tender] ++ be24 (c.member.getD 0) ++ [byte (carStateCode c.state)] ++ be16 c.front ++
    be16 (c.length.getD 0) ++ [byte (rollerCode c.roller), byte c.nextEye, byte c.nearMiss] ++ setField c.done ++
    [byte (c.unannounced.toNat + 2 * c.degraded.toNat + 4 * c.haltedDuring.toNat)]

/-- A CAR image (R140). -/
def State.carImage (s : State) (n : Nat) : List Byte :=
  match s.track.cars[n]? with
  | some c => 1 :: carFields c
  | none => List.replicate 26 0

/-- The CONVEYOR image (R140), each item of its check-eye list an address and a position (log 11). -/
def State.conveyorImage (s : State) : List Byte :=
  let t := s.track
  [byte (conveyorCode t.conveyor), flag t.pendingStart, byte s.speedLevel, byte t.commanded, byte t.reported,
   byte (driveReportCode t.lastReport), flag t.roller, byte (Timer.left t.startWait), byte (Timer.left t.stopWait),
   byte (Timer.left t.idle)] ++ be16 t.drift ++ [alternate t.exitBlocked] ++
    listField 8 3 (t.eyes.map fun e => byte e.1 :: be16 e.2) ++ [byte t.carTag, byte t.cars.length]

/-- CAUSE entry 0 (Table 10-9). -/
def State.haltImage (s : State) : List Byte :=
  let h := s.halt
  [byte (modeNumber h.mode), flag h.permit, flag h.estopLine, byte (h.first.elim 0 fun p => causeNumber p.1)] ++
    causeImage (h.first.elim CauseDetail.empty (·.2)) ++ be64Set h.estopActive ++ [flag h.awaitDrive] ++
    be24Set h.awaitStations ++ [byte (Timer.left h.bcast), byte (Timer.left h.haltWait), byte (Timer.left h.hold)]

/-- A CAUSE entry of a kind (Table 10-9). -/
def State.kindImage (s : State) (k : CauseKind) : List Byte :=
  [flag (k ∈ s.halt.causes), flag (s.condition k)] ++
    causeImage ((s.halt.lastDetails.getD (causeNumber k - 1) none).getD CauseDetail.empty)

/-- A CAUSE image (R177). -/
def State.causeEntry (s : State) (i : Nat) : List Byte :=
  match causeOfNumber i with
  | some k => s.kindImage k
  | none => s.haltImage

/-- A PORT image (R27, Table 1-8), its port field 0 for S and 1 for F (log 44). -/
def State.portImage (s : State) (p : PortId) : List Byte :=
  let q := s.port p
  [byte (portNumber p)] ++ q.rxErrors.map byte ++
    [byte q.overflow, byte q.drop, byte q.blocked, flag q.paused, byte q.inq.length, byte q.urgent.length,
     byte q.normal.length, byte q.outSeq]

/-- A set of notice classes as a mask (R192). -/
def classMask (l : List NoticeRecord) (t : NoticeRecord → Bool) : Nat :=
  bits 16 ((List.range 8).filter fun i => t (l.getD i .blank))

/-- The enables of the mask as two bytes (Table 10-5, SET_NOTICE_MASK). -/
def State.maskField (s : State) : List Byte := be16 (classMask s.mgmt.notices (·.enabled))

/-- A NOTICE image (R190). -/
def State.noticeEntry (s : State) (i : Nat) : List Byte :=
  if i = 0 then
    be16 (classMask s.mgmt.notices (·.pending)) ++ s.maskField ++ [flag s.mgmt.attn, byte (resetCode s.mgmt.lastReset)]
  else
    let r := s.mgmt.notices.getD (i - 1) .blank
    [flag r.pending, flag r.enabled, byte r.count] ++ noticeImage r.detail

/-! ## Tables by code (Table 9-3) -/

/-- The entries of a table, by its code 1 to 14 (Table 9-3, section 10.4). -/
def tableSize (t : Nat) : Option Nat := [64, 24, 19, 12, 16, 3, 40, 32, 4, 16, 1, 23, 2, 9][t - 1]?.filter fun _ => t != 0

/-- The image of an entry (R181). -/
def State.image (s : State) (t i : Nat) : List Byte :=
  match t with
  | 1 => nodeImage (s.node i)
  | 2 => s.stationImage (s.station i)
  | 3 => s.paramImage i
  | 4 => s.planImage i
  | 5 => serviceImage (s.service i)
  | 6 => s.laneImage i
  | 7 => s.orderImage i
  | 8 => s.memberImage i
  | 9 => s.fetchImage i
  | 10 => s.carImage i
  | 11 => s.conveyorImage
  | 12 => s.causeEntry i
  | 13 => s.portImage (if i = 0 then .s else .f)
  | 14 => s.noticeEntry i
  | _ => []

end Sys2Proof.Machine
end

