-- ==== Sys2Proof/Machine/Management.lean ====
section
/-!
DEFINITION. Chapter 9, Management: reading and writing table entries, taking notices, the notice mask and unknown requests.
-/
namespace Sys2Proof.Machine

/-! ## READ_ENTRY (R181) -/

/-- READ_ENTRY (R181). -/
def execReadEntry (seq : Byte) (args : List Byte) (s : State) : Host.Outcome State Fault Refusal :=
  taking (.readEntry seq args) s fun s =>
    match args with
    | t :: i :: _ =>
      match tableSize t.toNat with
      | none => s.reply seq 1 .badTable []
      | some n =>
        if n ≤ i.toNat then s.reply seq 1 .badIndex [i] else s.reply seq 1 .ok (s.image t.toNat i.toNat)
    | _ => s.reply seq 1 .badRequest []

/-! ## WRITE_ENTRY (R182, R194) -/

/-- The verdict on an image: the first failing field, a refusal of the mode, or nothing wrong. -/
inductive Verdict
  | good
  | wrongMode
  | badField (field : Nat)
  deriving DecidableEq, Repr

/-- The first check of a list that fails, as its field number (R194). -/
def firstBad : List (Nat × Bool) → Verdict
  | [] => .good
  | (n, ok) :: rest => if ok then firstBad rest else .badField n

/-- A verdict reached before another. -/
def Verdict.andThen (a b : Verdict) : Verdict :=
  match a with
  | .good => b
  | .wrongMode => .wrongMode
  | .badField n => .badField n

/-- A judged write is taken, its reply carrying the entry's image, or refused (R182, R180). -/
def State.finishWrite (s : State) (seq : Byte) (table i : Nat) (v : Verdict) (written : State) : State :=
  match v with
  | .good => written.reply seq 2 .ok (written.image table i)
  | .wrongMode => s.reply seq 2 .wrongMode []
  | .badField n => s.reply seq 2 .badValue [byte n]

/-- A write request's index and image bytes: the envelope, the image's length and the index come first (R180, R182,
R194). -/
def State.writing (s : State) (seq : Byte) (args : List Byte) (len size : Nat)
    (g : Nat → (Nat → Byte) → State) : State :=
  match args with
  | _ :: i :: image =>
    if image.length < len then s.reply seq 2 .badRequest []
    else if size ≤ i.toNat then s.reply seq 2 .badIndex [i]
    else g i.toNat fun k => image.getD k 0
  | _ => s.reply seq 2 .badRequest []

/-- WRITE_ENTRY of an unknown or read-only table (R182). -/
def execWriteEntry (seq : Byte) (args : List Byte) (s : State) : Host.Outcome State Fault Refusal :=
  taking (.writeEntry seq args) s fun s =>
    match args with
    | _ :: _ :: _ => s.reply seq 2 .badTable []
    | _ => s.reply seq 2 .badRequest []

/-! ### NODE (R32) -/

/-- The fixed role of an address (R30). -/
def fixedRole (a : Nat) : Option Role :=
  if a = 0 then some .site else if a = 1 then some .self else if a = 62 then some .hub
  else if a = 63 then some .none else none

/-- A role may be written at an address (R32, items 1 and 2). -/
def roleAllowed (a : Nat) (r : Role) : Bool :=
  match fixedRole a with
  | some f => r == f
  | none => r != .site && r != .self && r != .hub

/-- Records 1 and 63 keep the forward flag off and the watch period 0 (R32, item 1). -/
def quietRecord (a : Nat) : Bool := a == 1 || a == 63

/-- The record a NODE image writes at an address, its dynamic fields fresh (R32); a silence that was due goes with them
(log 6). -/
def nodeOfImage (b : Nat → Byte) : NodeRecord :=
  { NodeRecord.blank ((roleOfNumber (b 0).toNat).getD .none) with
    lane := (b 1).toNat, station := (b 2).toNat, position := ofBe16 (b 3) (b 4), forward := b 5 != 0,
    watch := (b 6).toNat }

/-- Another record of the same role holds the lane or station (R32, items 4 and 5). -/
def State.duplicate (s : State) (a : Nat) (r : NodeRecord) : Bool :=
  (List.range 64).any fun n =>
    n != a && (s.node n).role == r.role &&
      match r.role with
      | .mergeEye | .gate | .kiosk => (s.node n).lane == r.lane
      | .station => (s.node n).station == r.station
      | _ => false

/-- The judgement of a NODE image (R32, R194). -/
def State.judgeNode (s : State) (a : Nat) (b : Nat → Byte) : Verdict :=
  let r := nodeOfImage b
  if s.halt.mode ≠ .offline then .wrongMode
  else firstBad
    [(1, (roleOfNumber (b 0).toNat).any (roleAllowed a)), (2, r.lane ≤ 2), (3, r.station ≤ 23),
     (4, r.position ≤ Config.maxTravel), (5, b 5 == 0 || (b 5 == 1 && !quietRecord a)),
     (6, b 6 == 0 || !quietRecord a), (1, !s.duplicate a r)]

/-- WRITE_ENTRY of the NODE table (R32). -/
def execWriteNodeEntry (seq : Byte) (args : List Byte) (s : State) : Host.Outcome State Fault Refusal :=
  taking (.writeNodeEntry seq args) s fun s => s.writing seq args 14 64 fun a b =>
    s.finishWrite seq 1 a (s.judgeNode a b) (s.setNode a (nodeOfImage b))

/-! ### STATION (R143) -/

/-- A station kind of a code. -/
def stationKindOf (b : Byte) : Option StationKind :=
  if b = 1 then some .touch else if b = 2 then some .spray else if b = 3 then some .air else none

/-- A station's fields as a STATION image writes them, the state fields kept (R143). -/
def Station.written (st : Station) (b : Nat → Byte) : Station :=
  { st with
    kind := (stationKindOf (b 0)).getD .touch, service := (b 1).toNat, position := ofBe16 (b 2) (b 3),
    startOff := (b 4).toInt, endOff := (b 5).toInt,
    actuator := if b 6 = 0xFF then none else some (b 6).toNat, preload := (b 7).toNat, limit := ofBe16 (b 8) (b 9),
    bind := (b 10).toNat, backLen := (b 11).toNat }

/-- Two entries hold the same geometry (R143). -/
def sameGeometry (a b : Station) : Bool :=
  a.kind == b.kind && a.service == b.service && a.position == b.position && a.startOff == b.startOff &&
    a.endOff == b.endOff && a.actuator == b.actuator

/-- An offset's range (Table 7-1). -/
def offsetOk (i : Int) : Bool := decide (-64 ≤ i) && decide (i ≤ 63)

/-- The judgement of a STATION image: the ranges, then the geometry (R143, R194). -/
def State.judgeStationWrite (s : State) (i : Nat) (b : Nat → Byte) : Verdict :=
  let st := Station.written (s.station i) b
  (firstBad
    [(1, (stationKindOf (b 0)).isSome), (2, st.service ≤ 15), (3, st.position ≤ Config.maxTravel),
     (4, offsetOk st.startOff), (5, offsetOk st.endOff),
     (6, st.actuator.all fun a => decide (2 ≤ a) && decide (a ≤ 61)), (8, st.limit ≤ 2000),
     (9, decide (1 ≤ st.bind) && decide (st.bind ≤ 7)), (10, decide (1 ≤ st.backLen) && decide (st.backLen ≤ 63))]).andThen
    (if s.halt.mode ≠ .offline ∧ sameGeometry st (s.station i) = false then .wrongMode else .good)

/-- A STATION write taken, with the loss of a service that was covered (R143, R69). -/
def State.writeStation (s : State) (i : Nat) (b : Nat → Byte) : State :=
  let old := s.station i
  let t := s.setStation i (Station.written old b)
  if Station.used old = true ∧ s.covered old.service = true then t.cascade old.service else t

/-- WRITE_ENTRY of the STATION table (R143). -/
def execWriteStationEntry (seq : Byte) (args : List Byte) (s : State) : Host.Outcome State Fault Refusal :=
  taking (.writeStationEntry seq args) s fun s => s.writing seq args 22 24 fun i b =>
    s.finishWrite seq 2 i (s.judgeStationWrite i b) (s.writeStation i b)

/-! ### PARAM (R183) -/

/-- A parameter's value lies in its range (Table 9-4). -/
def paramInRange (i v : Nat) : Bool :=
  (Config.paramTable[i]?).any fun r => decide (r.low ≤ v) && decide (v ≤ r.high)

/-- The judgement of a PARAM image (R183). -/
def State.judgeParam (s : State) (i v : Nat) : Verdict :=
  if s.halt.mode ≠ .offline then .wrongMode else firstBad [(1, paramInRange i v)]

/-- A parameter takes a value (R183). -/
def State.setParam (s : State) (i v : Nat) : State := s.setMgmt { s.mgmt with params := s.mgmt.params.set i v }

/-- WRITE_ENTRY of the PARAM table (R183). -/
def execWriteParamEntry (seq : Byte) (args : List Byte) (s : State) : Host.Outcome State Fault Refusal :=
  taking (.writeParamEntry seq args) s fun s => s.writing seq args 2 19 fun i b =>
    s.finishWrite seq 3 i (s.judgeParam i (ofBe16 (b 0) (b 1))) (s.setParam i (ofBe16 (b 0) (b 1)))

/-! ### PLAN (R48) -/

/-- A plan state of a code. -/
def planStateOf (b : Byte) : Option PlanState :=
  if b = 1 then some .absent else if b = 2 then some .isOpen else if b = 3 then some .closed else none

/-- The entry a PLAN image writes. -/
def planOfImage (b : Nat → Byte) : PlanEntry :=
  { state := (planStateOf (b 0)).getD .absent, base := b 1 ++ b 2, addons := b 3 ++ b 4, price := ofBe16 (b 5) (b 6),
    tier := (b 7).toNat, cap := (b 8).toNat }

/-- The set conditions of an OPEN or CLOSED plan, with the set each names (R48, R194): an add-on set that shares a service with
the base set is itself the one named (log 45). -/
def State.planSets (s : State) (p : PlanEntry) : List (Nat × Bool) :=
  if p.state = .absent then []
  else [(2, p.base != 0), (3, p.addons &&& p.base == 0), (3, (serviceList p.addons).all fun n => (s.service n).addable)]

/-- The judgement of a PLAN image (R48). -/
def State.judgePlan (s : State) (b : Nat → Byte) : Verdict :=
  let p := planOfImage b
  firstBad
    ([(1, (planStateOf (b 0)).isSome), (5, p.tier ≤ 7), (6, decide (1 ≤ p.cap) && decide (p.cap ≤ 4))] ++ s.planSets p)

/-- A plan takes an entry (R48). -/
def State.setPlan (s : State) (n : Nat) (p : PlanEntry) : State :=
  s.setSales { s.sales with plans := s.sales.plans.set n p }

/-- WRITE_ENTRY of the PLAN table (R48). -/
def execWritePlanEntry (seq : Byte) (args : List Byte) (s : State) : Host.Outcome State Fault Refusal :=
  taking (.writePlanEntry seq args) s fun s => s.writing seq args 10 12 fun n b =>
    s.finishWrite seq 4 n (s.judgePlan b) (s.setPlan n (planOfImage b))

/-! ### SERVICE (R47) -/

/-- The entry a SERVICE image writes. -/
def serviceOfImage (b : Nat → Byte) : ServiceEntry := { addable := b 0 == 1, price := ofBe16 (b 1) (b 2) }

/-- Some OPEN or CLOSED plan allows the service as an add-on (R47). -/
def State.allowedAddon (s : State) (n : Nat) : Bool :=
  s.sales.plans.any fun p => p.state != .absent && hasService p.addons n

/-- The judgement of a SERVICE image (R47). -/
def State.judgeService (s : State) (n : Nat) (b : Nat → Byte) : Verdict :=
  firstBad [(1, b 0 == 0 || b 0 == 1), (1, b 0 == 1 || !s.allowedAddon n)]

/-- A Service Table entry is replaced (R47). -/
def State.setService (s : State) (n : Nat) (e : ServiceEntry) : State :=
  s.setSales { s.sales with services := s.sales.services.set n e }

/-- WRITE_ENTRY of the SERVICE table (R47). -/
def execWriteServiceEntry (seq : Byte) (args : List Byte) (s : State) : Host.Outcome State Fault Refusal :=
  taking (.writeServiceEntry seq args) s fun s => s.writing seq args 3 16 fun n b =>
    s.finishWrite seq 5 n (s.judgeService n b) (s.setService n (serviceOfImage b))

/-! ## Notices (R188, R189) -/

/-- The class a TAKE_NOTICE takes, 0 to 7: the named one if pending, or the first enabled pending one (R188). -/
def State.chosenNotice (s : State) (named : Nat) : Option Nat :=
  if named = 0 then
    (List.range 8).find? fun i => (s.mgmt.notices.getD i .blank).pending && (s.mgmt.notices.getD i .blank).enabled
  else if (s.mgmt.notices.getD (named - 1) .blank).pending then some (named - 1) else none

/-- A class is taken: no longer pending, its count 0, its detail kept, ATTN judged (R188). -/
def Mgmt.takeNotice (m : Mgmt) (i : Nat) : Mgmt :=
  Mgmt.judgeAttn { m with notices := m.notices.modify i fun r => { r with pending := false, count := 0 } }

/-- The data of a taken notice (Table 10-10). -/
def takenData (i : Nat) (r : NoticeRecord) : List Byte := [byte (i + 1), byte r.count] ++ noticeImage r.detail

/-- TAKE_NOTICE (R188). -/
def execTakeNotice (seq : Byte) (args : List Byte) (s : State) : Host.Outcome State Fault Refusal :=
  taking (.takeNotice seq args) s fun s =>
    match args with
    | [] => s.reply seq 19 .badRequest []
    | c :: _ =>
      if 8 < c.toNat then s.reply seq 19 .badValue []
      else match s.chosenNotice c.toNat with
        | none => s.reply seq 19 .ok [0]
        | some i =>
          (s.setMgmt (Mgmt.takeNotice s.mgmt i)).reply seq 19 .ok (takenData i (s.mgmt.notices.getD i .blank))

/-- The mask is replaced as a whole and ATTN judged (R189). -/
def Mgmt.setMask (m : Mgmt) (mask : Byte) : Mgmt :=
  Mgmt.judgeAttn { m with notices := m.notices.mapIdx fun i r => { r with enabled := mask.getLsbD i } }

/-- SET_NOTICE_MASK (R189). -/
def execSetNoticeMask (seq : Byte) (args : List Byte) (s : State) : Host.Outcome State Fault Refusal :=
  taking (.setNoticeMask seq args) s fun s =>
    match args with
    | hi :: lo :: _ =>
      if hi ≠ 0 then s.reply seq 20 .badValue []
      else (s.setMgmt (Mgmt.setMask s.mgmt lo)).reply seq 20 .ok [hi, lo]
    | _ => s.reply seq 20 .badRequest []

/-! ## Unknown requests (R180) -/

/-- MGMT_UNKNOWN_REQUEST (R180). -/
def execMgmtUnknownRequest (seq code : Byte) (s : State) : Host.Outcome State Fault Refusal :=
  taking (.mgmtUnknownRequest seq code) s fun s => s.reply seq code.toNat .badRequest []

end Sys2Proof.Machine
end

