-- ==== Sys2Proof/Machine/NodeTable.lean ====
section
/-!
DEFINITION. Chapter 2, The Node Table: taking a frame, the six checks, the sequence number, routing and hand-over, and a
node falling SILENT.
-/
namespace Sys2Proof.Machine

/-! ## The six checks (R33) -/

/-- The source is wrong for the port (R33, check 2). -/
def wrongPort (p : PortId) (src : Nat) : Bool :=
  src == 1 || (match p with
    | .f => src == 0
    | .s => src != 0)

/-- The distance from a record's expected SEQ to a frame's (R35). -/
def seqDistance (r : NodeRecord) (f : Frame) : Nat := (f.seq.toNat + 256 - r.expected) % 256

/-- The record's station entry is a used TOUCH entry (R31). -/
def State.touchStation (s : State) (r : NodeRecord) : Bool :=
  Station.used (s.station r.station) && (s.station r.station).kind == .touch

/-- The first check of R33 that a frame fails, if any. -/
def State.refusalOf (s : State) (p : PortId) (f : Frame) : Option NodeError :=
  let r := s.node f.src.toNat
  if r.role = .none then some .unknownSrc
  else if wrongPort p f.src.toNat then some .wrongPort
  else if destAllowed p f = false then some .badDest
  else if permits r.role (s.touchStation r) f.kind = false then some .kindRefused
  else if f.payload.length < (kindSize f.kind).getD 0 then some .payload
  else if r.synced = true ∧ 128 ≤ seqDistance r f then some .staleSeq
  else none

/-- A refusal counted against its sender, with notice NODE (R34, R193). -/
def State.countRefusal (s : State) (a : Nat) (e : NodeError) : State :=
  let r := s.node a
  (s.setNode a { r with errors := sat 15 (r.errors + 1), lastError := some e }).notifyNode a (nodeErrorNumber e) none

/-! ## Acceptance (R35 to R37, R44) -/

/-- Frames were lost before this one (R35). -/
def seqGap (r : NodeRecord) (f : Frame) : Bool := r.synced && seqDistance r f != 0

/-- The sender's record after an accepted frame (R35, R37). -/
def NodeRecord.heard (r : NodeRecord) (f : Frame) : NodeRecord :=
  { r with
    silence := 0, silent := false, synced := true, expected := (f.seq.toNat + 1) % 256,
    gaps := if seqGap r f then sat 255 (r.gaps + seqDistance r f) else r.gaps }

/-- The gap's notice, and ENCODER_GAP for the encoder (R35, R36). -/
def State.noteGap (s : State) (a : Nat) (r : NodeRecord) (f : Frame) : State :=
  if seqGap r f then
    let t := s.notifyNode a 7 (some (seqDistance r f))
    if r.role = .encoder then t.raiseCause .encoderGap { CauseDetail.empty with node := some a } else t
  else s

/-- A SILENT record has returned to LIVE (R44). -/
def State.noteLive (s : State) (a : Nat) (r : NodeRecord) : State :=
  if r.silent then
    let t := s.notifyNode a 9 none
    if r.role = .mergeEye then t.review else t
  else s

/-- The sender's record is brought up to date (R37). -/
def State.hear (s : State) (f : Frame) : State :=
  let a := f.src.toNat
  let r := s.node a
  ((s.setNode a (NodeRecord.heard r f)).noteGap a r f).noteLive a r

/-! ## Routing (R23, R24, R37, R38, R193) -/

/-- A frame addressed to the part is handed over, or counted for a code no table lists (R38, R193). -/
def State.deliver (s : State) (f : Frame) : State :=
  match handover (s.node f.src.toNat) f with
  | some l => s.setHanded (s.handed ++ l)
  | none => s.countRefusal f.src.toNat .payload

/-- The copy the forward flag asks for (R23, R37). -/
def State.copyOn (s : State) (f : Frame) : State :=
  if (s.node f.src.toNat).forward then s.offerNormal .s { own := false, frame := f } else s

/-- An accepted frame is routed (R23, R24). A frame that is only forwarded is handed to no block, and no code in it is
counted as PAYLOAD; R193 speaks of frames handed to a block alone (log 43). -/
def State.route (s : State) (p : PortId) (f : Frame) : State :=
  if f.dest = 1 then (s.copyOn f).deliver f
  else match p with
    | .f => s.offerNormal .s { own := false, frame := f }
    | .s => s.setHanded (s.handed ++ [.siteFieldFrame f])

/-- A frame taken from an inbound queue is judged (R33). -/
def State.judgeFrame (s : State) (p : PortId) (f : Frame) : State :=
  match s.refusalOf p f with
  | some e => s.countRefusal f.src.toNat e
  | none => (s.hear f).route p f

/-- NODE_FRAME_TAKE (R13, R15, R33). A frame whose sender's silence has come due waits for NODE_SILENT (R39, log 6). The
RESUME is offered before the frame's own effects; R15 gives no order (log 35). -/
def execNodeFrameTake (p : PortId) (s : State) : Host.Outcome State Fault Refusal :=
  running s fun s =>
    match (s.port p).inq with
    | [] => s
    | f :: rest =>
      if (s.node f.frame.src.toNat).silenceDue then s
      else ((s.setPort p { s.port p with inq := rest }).judgeResume p).judgeFrame p f.frame

/-! ## Silence (R41 to R43) -/

/-- The effect of a role becoming SILENT (Table 2-8). -/
def State.silenceEffect (s : State) (a : Nat) (r : NodeRecord) : State :=
  match r.role with
  | .encoder => s.raiseCause .encoderSilent { CauseDetail.empty with node := some a }
  | .station => s.outOfService r.station .nodeSilent
  | .kiosk => s.closeLane r.lane none
  | .gate => s.closeLane r.lane (some .laneClosed)
  | _ =>
    if watchedRole r.role = true ∧ s.halt.mode ≠ .offline then
      s.raiseCause .nodeSilent { CauseDetail.empty with node := some a }
    else s

/-- NODE_SILENT (R41 to R43). -/
def execNodeSilent (addr : Nat) (s : State) : Host.Outcome State Fault Refusal :=
  whenDue (s.node addr).silenceDue s fun s =>
    let r := s.node addr
    let t := s.setNode addr { r with silent := true, synced := false, silenceDue := false }
    (t.notifyNode addr 8 none).silenceEffect addr r

end Sys2Proof.Machine
end

