-- ==== Sys2Proof/Machine/Resets.lean ====
section
/-!
DEFINITION. The resets of the whole part: power-on, the line reset while it is held, and its end (R2, R29, R46, R72, R95,
R116, R141, R160, R178, R191).
-/
namespace Sys2Proof.Machine

/-- The ESTOP line taken afresh as a reset ends (R178). -/
def State.takeEstop (s : State) (estop : Bool) : State := if estop then s.lineAsserted else s

/-- POWER_ON_RESET: everything at its reset value, the queue of commands aside (R29). -/
def execPowerOnReset (estop : Bool) (s : State) : Host.Outcome State Fault Refusal :=
  .next (State.takeEstop { State.reset with pending := s.pending } estop)

/-- A node record after a line reset: the configuration kept (R46). -/
def NodeRecord.restart (r : NodeRecord) : NodeRecord :=
  { NodeRecord.blank r.role with
    lane := r.lane, station := r.station, position := r.position, forward := r.forward, watch := r.watch }

/-- A station after a line reset: geometry and pace fields kept (R160). -/
def Station.restart (st : Station) : Station :=
  { st with
    active := st.preload, inService := true, activity := .idle, car := none, backoffs := 0, stepsLeft := 0,
    lastCurrent := 0 }

/-- Every piece of state at its line-reset value, the part held (R2). -/
def State.lineReset (s : State) : State :=
  { portS := .cleared, portF := .cleared, nodes := s.nodes.map NodeRecord.restart,
    sales := .fresh s.sales.services s.sales.plans, members := .fresh, merge := .fresh, track := .fresh,
    stations := s.stations.map Station.restart, halt := .fresh, mgmt := .fresh s.mgmt.params s.mgmt.lastReset,
    handed := [], raised := [], startRequested := false, inReset := true, pending := s.pending }

/-- LINE_RESET (R2). -/
def execLineReset (s : State) : Host.Outcome State Fault Refusal := .next s.lineReset

/-- The part runs on from its line-reset state, the RESUME offered to Port F's urgent queue (R2, R29, R190; log 9). -/
def State.endReset (s : State) : State :=
  State.offerUrgent { s with mgmt := { s.mgmt with lastReset := .line }, inReset := false } .f resumeFrame

/-- LINE_RESET_END (R2). -/
def execLineResetEnd (estop : Bool) (s : State) : Host.Outcome State Fault Refusal :=
  .next (if s.inReset then s.endReset.takeEstop estop else s)

end Sys2Proof.Machine
end

