-- ==== Sys2Proof/Machine/Tick.lean ====
section
/-!
DEFINITION. The 100 ms tick: every running timer, and the silence counts (R1, R39, R40).
-/
namespace Sys2Proof.Machine

/-- A record's silence count at a tick (R39, R40). At the watch period the silence is due; the record reads LIVE until
NODE_SILENT takes it (log 6). -/
def State.tickNode (s : State) (r : NodeRecord) : NodeRecord :=
  if s.watched r then
    if r.silent || r.silenceDue then r
    else { r with silence := r.silence + 1, silenceDue := decide (r.watch ≤ r.silence + 1) }
  else { r with silence := 0 }

/-- A lane's quote life timer at a tick. -/
def LaneSales.tick (l : LaneSales) : LaneSales := { l with slot := { l.slot with life := Timer.tick l.slot.life } }

/-- A fetch timer at a tick. -/
def Fetch.tick (f : Fetch) : Fetch := { f with timer := Timer.tick f.timer }

/-- Everything that advances at a tick (R1, R39). -/
def State.tick (s : State) : State :=
  { s with
    nodes := s.nodes.map s.tickNode,
    sales := { s.sales with lanes := s.sales.lanes.map LaneSales.tick },
    members := { s.members with fetches := s.members.fetches.map Fetch.tick },
    merge := { s.merge with admitTimer := Timer.tick s.merge.admitTimer },
    track := { s.track with
      startWait := Timer.tick s.track.startWait, stopWait := Timer.tick s.track.stopWait,
      idle := Timer.tick s.track.idle },
    halt := { s.halt with
      bcast := Timer.tick s.halt.bcast, haltWait := Timer.tick s.halt.haltWait, hold := Timer.tick s.halt.hold } }

/-- TICK (R1). -/
def execTick (s : State) : Host.Outcome State Fault Refusal := running s State.tick

end Sys2Proof.Machine
end

