-- ==== Sys2Proof/Machine/Tracking.lean ====
section
/-!
DEFINITION. Chapter 6, Car Tracking: step advance and its checks, the rear edge, the roller, check eyes, the exit, and the
drive's reports.
-/
namespace Sys2Proof.Machine

/-! ## Step advance (R125 to R129) -/

/-- The amount every car advances: the delta, cut so that the head car stays within 4095 + SLIP_LIMIT (R126). -/
def State.advance (s : State) (d : Nat) : Nat :=
  match s.track.cars with
  | [] => d
  | c :: _ => min d (Config.maxTravel + s.param .slipLimit - c.front)

/-- Steps now count as drift (R127). -/
def State.drifting (s : State) : Bool :=
  s.halt.mode == .offline || s.halt.mode == .halting || s.halt.mode == .halted || s.track.conveyor == .stopped ||
    s.track.conveyor == .stopping

/-- The drift count after a step (R127). -/
def State.driftAfter (s : State) (d : Nat) : Nat :=
  if s.drifting then sat 4095 (s.track.drift + d) else s.track.drift

/-- The cause DRIFT raises after a step's count, if any (R127). -/
def State.driftCauses (s : State) (drift : Nat) : List (CauseKind × CauseDetail) :=
  if s.drifting = true ∧ s.param .driftLimit < drift ∧ s.track.cars ≠ [] then
    [(.drift, { CauseDetail.empty with arg := some drift })]
  else []

/-- The check eye a car is next expected at has been missed: its address (R128). -/
def State.missedEye (s : State) (c : Car) : Option Nat :=
  match s.track.eyes[c.nextEye]? with
  | some (a, pos) => if pos + s.param .slipLimit < c.front then some a else none
  | none => none

/-- A car has gone past the exit unseen (R128). -/
def State.exitMissed (s : State) (c : Car) : Bool :=
  c.state != .exiting && !s.track.exitBlocked && decide (s.param .exitPos + s.param .slipLimit < c.front)

/-- The causes R128 raises for one car, in the order of its table. -/
def State.carCauses (s : State) (isHead : Bool) (c : Car) : List (CauseKind × CauseDetail) :=
  (if c.state = .entering ∧ s.param .maxCarLen < c.front then
    [(.overlength, { CauseDetail.empty with car := some c.tag, arg := some c.front })] else []) ++
  (if s.param .rollerLimit < c.front ∧ c.roller ≠ .engaged then
    [(.noRoller, { CauseDetail.empty with car := some c.tag })] else []) ++
  (match s.missedEye c with
    | some a => [(.trackFault, { node := some a, station := none, car := some c.tag, arg := some c.nextEye })]
    | none => []) ++
  (if isHead = true ∧ s.exitMissed c = true then
    [(.exitMissing, { CauseDetail.empty with car := some c.tag })] else [])

/-- The causes R128 raises, car by car from the head. -/
def State.stepCauses (s : State) : List (CauseKind × CauseDetail) :=
  match s.track.cars with
  | [] => []
  | c :: rest => s.carCauses true c ++ rest.flatMap (s.carCauses false)

/-- A car that missed an eye goes on to the next (R128). -/
def State.passEye (s : State) (c : Car) : Car :=
  match s.missedEye c with
  | some _ => { c with nextEye := c.nextEye + 1 }
  | none => c

/-- Raise several causes (R163). -/
def State.raiseAll (s : State) (l : List (CauseKind × CauseDetail)) : State := s.setRaised (s.raised ++ l)

/-- The Halt block takes one cause of this step before Stations takes its crossings (R129, log 4). -/
def State.takeEarly (s : State) (l : List (CauseKind × CauseDetail)) (early : Option Nat) : State :=
  match early.bind fun i => l[i]? with
  | some (k, d) => (s.setRaised (s.raised.erase (k, d))).takeCause k d
  | none => s

/-- The cars and the drift count after a step (R126, R127). -/
def State.moveCars (s : State) (d : Nat) : State :=
  let a := s.advance d
  s.setTrack { s.track with
    drift := s.driftAfter d, cars := s.track.cars.map fun c => { c with front := c.front + a } }

/-- A STEP with a delta of 1 to 15 (R126 to R129). Stations takes the handover before the arbiter is evaluated (log 42). -/
def State.applyStep (s : State) (d : Nat) (early : Option Nat) : State :=
  let t := s.moveCars d
  let moves := s.track.cars.map fun c => moveOf c { c with front := c.front + s.advance d }
  let causes := s.driftCauses (s.driftAfter d) ++ t.stepCauses
  let t := t.setCars (t.track.cars.map t.passEye)
  let t := (t.raiseAll causes).takeEarly causes early
  (t.handMoves moves (some d)).review

/-- STEP (R125). -/
def execStep (src : Nat) (delta : Byte) (early : Option Nat) (s : State) : Host.Outcome State Fault Refusal :=
  taking (.step src delta none) s fun s =>
    let d := delta.toNat
    if d = 0 then s
    else if 15 < d then
      (s.raiseCause .encoderGap { CauseDetail.empty with node := some src, arg := some d }).notifyTrack 7 none (some d)
    else s.applyStep d early

/-! ## Rear edge (R130) -/

/-- Replace the tail car. -/
def State.setTail (s : State) (c : Car) : State := s.setCars (s.track.cars.dropLast ++ [c])

/-- The tail car, ENTERING, shows its rear (R130). Its length is the front travel as it stands, above the 4095 of Table 6-4
too (log 40). -/
def State.measure (s : State) (c : Car) : State :=
  let t := s.setTail { c with length := some c.front, state := .riding }
  if s.param .maxCarLen < c.front then
    t.raiseCause .overlength { CauseDetail.empty with car := some c.tag, arg := some c.front }
  else t

/-- A rear edge that belongs to no car (R130). -/
def State.strayRear (s : State) : State := if s.halt.mode = .offline then s else s.notifyTrack 8 none none

/-- A rear edge judged against the tail car (R130). -/
def State.rearEdge (s : State) : State :=
  match s.tailCar with
  | some c => if c.state = .entering then s.measure c else s.strayRear
  | none => s.strayRear

/-- ENTRY_EYE_CLEAR (R110, R130). -/
def execEntryEyeClear (src : Nat) (s : State) : Host.Outcome State Fault Refusal :=
  taking (.entryEyeClear src) s fun s =>
    (s.setMerge { s.merge with entryBlocked := false }).rearEdge.review

/-! ## The roller (R131, R132) -/

/-- A wheel switch edge is ignored with notice (R131). -/
def State.ignoreWheel (s : State) (tag : Option Nat) : State := s.notifyTrack 9 tag none

/-- WHEEL_SWITCH_EDGE (R131). -/
def execWheelSwitchEdge (src : Nat) (blocked : Bool) (s : State) : Host.Outcome State Fault Refusal :=
  taking (.wheelSwitchEdge src blocked) s fun s =>
    if blocked = false ∨ s.halt.mode = .offline then s
    else match s.tailCar with
      | none => s.ignoreWheel none
      | some c =>
        if c.roller = .waiting ∧ c.front ≤ s.param .rollerLimit then
          (s.setTail { c with roller := .called }).driveCmd 3 0
        else s.ignoreWheel (some c.tag)

/-- The head-most car of a list whose roller is CALLED becomes ENGAGED; none if there is no such car (R132). -/
def engageCalled : List Car → Option (List Car)
  | [] => none
  | c :: rest =>
    if c.roller = .called then some ({ c with roller := .engaged } :: rest)
    else (engageCalled rest).map fun l => c :: l

/-- The roller flag of a DRIVE_STATE is judged (R132). -/
def State.judgeRoller (s : State) (roller : Bool) : State :=
  if roller = true ∧ s.track.roller = false then
    match engageCalled s.track.cars with
    | some l => s.setCars l
    | none => s.notifyTrack 10 none none
  else s

/-! ## Check eyes and the exit eye (R133 to R136) -/

/-- The neighbour a correction would bring too close, the one ahead judged first (R135, log 16). -/
def State.crushing (s : State) (j front : Nat) (c : Car) : Option Nat :=
  let gap : Int := (s.param .collisionGap : Int)
  let ahead := if j = 0 then none else s.track.cars[j - 1]?
  let behind := s.track.cars[j + 1]?
  let tooNearAhead := ahead.filter fun a => !decide ((front : Int) < (Car.rear a).getD 0 - gap)
  let tooNearBehind := behind.filter fun b => match c.length with
    | some l => !decide ((b.front : Int) < (front : Int) - (l : Int) - gap)
    | none => false
  (tooNearAhead.or tooNearBehind).map (·.tag)

/-- The error of a sighting at a position (R134). -/
def sightingError (pos : Nat) (c : Car) : Int := (pos : Int) - (c.front : Int)

/-- Replace the car at a place of the Car List. -/
def State.setCarAt (s : State) (j : Nat) (c : Car) : State := s.setCars (s.track.cars.set j c)

/-- A sighting beyond TRACK_TOL counts a near-miss with its notice (R134). -/
def State.nearMiss (s : State) (j k : Nat) (e : Int) (c : Car) : State :=
  if s.param .trackTol < e.natAbs then
    (s.setCarAt j { c with nearMiss := sat 15 (c.nearMiss + 1) }).notifyTrack 11 (some c.tag)
      (some (k * 256 + (e % 256).toNat))
  else s

/-- A correction of the car at a place to a travel, subject to the ordering guard (R134, R135). -/
def State.correct (s : State) (j k pos : Nat) (c : Car) : State :=
  let t := s.nearMiss j k (sightingError pos c) c
  match s.crushing j pos c with
  | some other => t.raiseCause .crush { CauseDetail.empty with car := some c.tag, arg := some other }
  | none =>
    if pos = c.front then t
    else
      let t := t.setCars (t.track.cars.modify j fun c => { c with front := pos })
      t.handMoves [moveOf c { c with front := pos }] none

/-- A car's next check eye index moves on (R134). -/
def State.setNextEye (s : State) (j k : Nat) : State :=
  s.setCars (s.track.cars.modify j fun c => { c with nextEye := k + 1 })

/-- TRACK_FAULT at an eye (R134, R136). -/
def State.trackFault (s : State) (src k : Nat) (car : Option Nat) : State :=
  s.raiseCause .trackFault { node := some src, station := none, car := car, arg := some k }

/-- A BLOCKED edge from check eye `k` at a position (R134). -/
def State.sighting (s : State) (src k pos : Nat) : State :=
  match s.track.cars.findIdx? fun c => c.nextEye == k with
  | none => s.trackFault src k none
  | some j =>
    match s.track.cars[j]? with
    | none => s
    | some c =>
      (if (sightingError pos c).natAbs ≤ max (s.param .trackTol) (s.param .slipLimit) then s.correct j k pos c
       else s.trackFault src k (some c.tag)).setNextEye j k

/-- CHECK_EYE_EDGE (R133, R134). -/
def execCheckEyeEdge (src : Nat) (blocked : Bool) (s : State) : Host.Outcome State Fault Refusal :=
  taking (.checkEyeEdge src blocked) s fun s =>
    if blocked = false ∨ s.halt.mode = .offline then s
    else match s.track.eyes.findIdx? fun e => e.1 == src with
      | none => s
      | some k => s.sighting src k ((s.track.eyes[k]?).elim 0 (·.2))

/-- The exit eye's number among the eyes (R136). -/
def exitEyeIndex : Nat := 8

/-- The head car matched at the exit eye (R136); one that never showed its rear stays without a length (log 34). -/
def State.matchExit (s : State) (c : Car) : State :=
  let t := s.correct 0 exitEyeIndex (s.param .exitPos) c
  t.setCars (t.track.cars.modify 0 fun c => { c with state := .exiting })

/-- The head car judged at the exit eye's BLOCKED edge (R136). -/
def State.judgeExit (s : State) (src : Nat) : State :=
  match s.track.cars.head? with
  | none => s.trackFault src exitEyeIndex none
  | some c =>
    if s.param .slipLimit < (sightingError (s.param .exitPos) c).natAbs then s.trackFault src exitEyeIndex (some c.tag)
    else if c.state = .exiting then s.notifyTrack 12 none none
    else s.matchExit c

/-- EXIT_EYE_BLOCKED (R136). -/
def execExitEyeBlocked (src : Nat) (s : State) : Host.Outcome State Fault Refusal :=
  taking (.exitEyeBlocked src) s fun s =>
    let t := s.setTrack { s.track with exitBlocked := true }
    if s.halt.mode = .offline then t else t.judgeExit src

/-! ## Leaving the tunnel (R137 to R139) -/

/-- The payload of a REPORT COMPLETION (R138, Table 10-4). -/
def completion (c : Car) (removed : Bool) : List Byte :=
  [1, byte c.tag, byte (c.order.getD 0), byte (c.lane.getD 255), byte (c.plan.getD 255)] ++ be16 c.price ++
    [byte c.tender] ++ be24 (c.member.getD 0) ++ be16 c.services.toNat ++ be16 c.done.toNat ++
    be16 (c.services &&& ~~~c.done).toNat ++
    [byte c.nearMiss,
     byte (c.unannounced.toNat + 2 * c.degraded.toNat + 4 * c.haltedDuring.toNat + 8 * removed.toNat +
       16 * c.order.isSome.toNat)]

/-- The record of the BOUND order of a tag. -/
def State.boundOrder (s : State) (tag : Nat) : Option Nat :=
  (List.range 40).find? fun r => (s.order r).state == .bound && (s.order r).tag == tag

/-- A BOUND order is freed with its car (R137, step 4). -/
def State.freeBound (s : State) (tag : Option Nat) : State :=
  match tag.bind s.boundOrder with
  | some r => s.freeOrder r
  | none => s

/-- The steps of R137 for one car. -/
def State.leave (s : State) (c : Car) (removed : Bool) : State :=
  let t := (s.depart c.tag).toSite Config.kReport (completion c removed)
  let t := t.setCars (t.track.cars.eraseP fun d => d.tag == c.tag)
  (t.freeBound c.order).review

/-- EXIT_EYE_CLEAR (R137). -/
def execExitEyeClear (src : Nat) (s : State) : Host.Outcome State Fault Refusal :=
  taking (.exitEyeClear src) s fun s =>
    let t := s.setTrack { s.track with exitBlocked := false }
    match t.track.cars.head?.filter fun c => c.state == .exiting with
    | some c => t.leave c false
    | none => if s.halt.mode = .offline then t else t.notifyTrack 13 none none

/-- REMOVE_CAR (R139). -/
def execRemoveCar (seq : Byte) (args : List Byte) (s : State) : Host.Outcome State Fault Refusal :=
  taking (.removeCar seq args) s fun s =>
    match args with
    | [] => s.reply seq 12 .badRequest []
    | tag :: _ =>
      if s.halt.mode ≠ .halted then s.reply seq 12 .wrongMode []
      else match s.car? tag.toNat with
        | none => s.reply seq 12 .notFound []
        | some c => (s.leave c true).reply seq 12 .ok []

/-! ## Drive reports (R118) -/

/-- The report recorded (R118). -/
def State.recordReport (s : State) (report : DriveReport) (level : Nat) (roller : Bool) : State :=
  s.setTrack { s.track with
    lastReport := some report, roller := roller,
    reported := if report = .running then level else s.track.reported }

/-- A RUNNING report against the conveyor state (Table 6-2). -/
def State.runningReport (s : State) : State :=
  match s.track.conveyor with
  | .stopped => if s.halt.mode = .armed then (s.notifyTrack 5 none none).stopConveyor else s
  | .starting => (s.setTrack { s.track with conveyor := .moving, startWait := none }).judgeSpeed.review
  | .moving => s
  | .stopping => s

/-- A drive that stopped of its own accord (Table 6-2, MOVING on STOPPED). -/
def State.ownStop (s : State) : State :=
  let t := (s.setTrack { s.track with conveyor := .stopped, idle := none }).notifyTrack 6 none none
  if s.nobodyComing then t else t.takeStart

/-- A STOPPED report against the conveyor state (Table 6-2). -/
def State.stoppedReport (s : State) : State :=
  match s.track.conveyor with
  | .stopped => s
  | .starting => s
  | .moving => s.ownStop
  | .stopping => s.conveyorStopped

/-- DRIVE_STATE (R118, R132). -/
def execDriveState (src : Nat) (report : DriveReport) (level : Nat) (roller : Bool) (s : State) :
    Host.Outcome State Fault Refusal :=
  taking (.driveState src report level roller) s fun s =>
    let t := (s.judgeRoller roller).recordReport report level roller
    match report with
    | .running => t.runningReport
    | .stopped => t.stoppedReport
    | .fault => t.raiseCause .driveFault { CauseDetail.empty with node := some src }

end Sys2Proof.Machine
end

