-- ==== Sys2Proof/Machine/Dispatch.lean ====
section
/-!
DEFINITION. What each command does: one arm per constructor of Instr, each a direct call of its meaning.
-/
namespace Sys2Proof.Machine

def exec (i : Instr) (s : State) : Host.Outcome State Fault Refusal :=
  match i with
  | .powerOnReset estop => Sys2Proof.Machine.execPowerOnReset estop s
  | .lineReset => Sys2Proof.Machine.execLineReset s
  | .lineResetEnd estop => Sys2Proof.Machine.execLineResetEnd estop s
  | .tick => Sys2Proof.Machine.execTick s
  | .receiveByte p b => Sys2Proof.Machine.execReceiveByte p b s
  | .transmitEnd p => Sys2Proof.Machine.execTransmitEnd p s
  | .nodeFrameTake p => Sys2Proof.Machine.execNodeFrameTake p s
  | .step src delta early => Sys2Proof.Machine.execStep src delta early s
  | .entryEyeBlocked src => Sys2Proof.Machine.execEntryEyeBlocked src s
  | .entryEyeClear src => Sys2Proof.Machine.execEntryEyeClear src s
  | .mergeEyeBlocked lane => Sys2Proof.Machine.execMergeEyeBlocked lane s
  | .mergeEyeClear lane => Sys2Proof.Machine.execMergeEyeClear lane s
  | .checkEyeEdge src blocked => Sys2Proof.Machine.execCheckEyeEdge src blocked s
  | .exitEyeBlocked src => Sys2Proof.Machine.execExitEyeBlocked src s
  | .exitEyeClear src => Sys2Proof.Machine.execExitEyeClear src s
  | .wheelSwitchEdge src blocked => Sys2Proof.Machine.execWheelSwitchEdge src blocked s
  | .gateState lane isOpen => Sys2Proof.Machine.execGateState lane isOpen s
  | .quote lane plan addons member => Sys2Proof.Machine.execQuote lane plan addons member s
  | .paid lane token tender => Sys2Proof.Machine.execPaid lane token tender s
  | .cancel lane token => Sys2Proof.Machine.execCancel lane token s
  | .actState station report => Sys2Proof.Machine.execActState station report s
  | .actStateFault station => Sys2Proof.Machine.execActStateFault station s
  | .current station value => Sys2Proof.Machine.execCurrent station value s
  | .driveState src report level roller => Sys2Proof.Machine.execDriveState src report level roller s
  | .haltDriveConfirm src report => Sys2Proof.Machine.execHaltDriveConfirm src report s
  | .stopActive src => Sys2Proof.Machine.execStopActive src s
  | .stopReleased src => Sys2Proof.Machine.execStopReleased src s
  | .estopLineAsserted => Sys2Proof.Machine.execEstopLineAsserted s
  | .estopLineDeasserted => Sys2Proof.Machine.execEstopLineDeasserted s
  | .memberData id known tier limit uses => Sys2Proof.Machine.execMemberData id known tier limit uses s
  | .siteFieldFrame frame => Sys2Proof.Machine.execSiteFieldFrame frame s
  | .readEntry seq args => Sys2Proof.Machine.execReadEntry seq args s
  | .writeEntry seq args => Sys2Proof.Machine.execWriteEntry seq args s
  | .writeNodeEntry seq args => Sys2Proof.Machine.execWriteNodeEntry seq args s
  | .writeStationEntry seq args => Sys2Proof.Machine.execWriteStationEntry seq args s
  | .writeParamEntry seq args => Sys2Proof.Machine.execWriteParamEntry seq args s
  | .writePlanEntry seq args => Sys2Proof.Machine.execWritePlanEntry seq args s
  | .writeServiceEntry seq args => Sys2Proof.Machine.execWriteServiceEntry seq args s
  | .arm seq args => Sys2Proof.Machine.execArm seq args s
  | .disarm seq args => Sys2Proof.Machine.execDisarm seq args s
  | .release seq args => Sys2Proof.Machine.execRelease seq args s
  | .forceHalt seq args => Sys2Proof.Machine.execForceHalt seq args s
  | .clearCause seq args => Sys2Proof.Machine.execClearCause seq args s
  | .laneOpen seq args => Sys2Proof.Machine.execLaneOpen seq args s
  | .laneClose seq args => Sys2Proof.Machine.execLaneClose seq args s
  | .cancelOrder seq args => Sys2Proof.Machine.execCancelOrder seq args s
  | .stationService seq args => Sys2Proof.Machine.execStationService seq args s
  | .removeCar seq args => Sys2Proof.Machine.execRemoveCar seq args s
  | .memberLoad seq args => Sys2Proof.Machine.execMemberLoad seq args s
  | .memberPin seq args => Sys2Proof.Machine.execMemberPin seq args s
  | .memberUnpin seq args => Sys2Proof.Machine.execMemberUnpin seq args s
  | .dayReset seq args => Sys2Proof.Machine.execDayReset seq args s
  | .memberFlush seq args => Sys2Proof.Machine.execMemberFlush seq args s
  | .portReset seq args => Sys2Proof.Machine.execPortReset seq args s
  | .takeNotice seq args => Sys2Proof.Machine.execTakeNotice seq args s
  | .setNoticeMask seq args => Sys2Proof.Machine.execSetNoticeMask seq args s
  | .mgmtUnknownRequest seq code => Sys2Proof.Machine.execMgmtUnknownRequest seq code s
  | .quoteLifeExpiry lane => Sys2Proof.Machine.execQuoteLifeExpiry lane s
  | .fetchTimerExpiry entry => Sys2Proof.Machine.execFetchTimerExpiry entry s
  | .admitWindowExpiry => Sys2Proof.Machine.execAdmitWindowExpiry s
  | .startWaitExpiry => Sys2Proof.Machine.execStartWaitExpiry s
  | .stopWaitExpiry => Sys2Proof.Machine.execStopWaitExpiry s
  | .idleTimerExpiry => Sys2Proof.Machine.execIdleTimerExpiry s
  | .broadcastTimerExpiry => Sys2Proof.Machine.execBroadcastTimerExpiry s
  | .haltWaitExpiry => Sys2Proof.Machine.execHaltWaitExpiry s
  | .holdTimerExpiry => Sys2Proof.Machine.execHoldTimerExpiry s
  | .nodeSilent addr => Sys2Proof.Machine.execNodeSilent addr s
  | .startRequest => Sys2Proof.Machine.execStartRequest s
  | .raiseCause kind detail => Sys2Proof.Machine.execRaiseCause kind detail s

end Sys2Proof.Machine
end

