-- ==== Sys2Proof/Machine/Step.lean ====
section
/-!
DEFINITION. One step: the command at the front of the queue, or idling when none waits (log 1).
-/
namespace Sys2Proof.Machine

/-- Take the command at the front of the queue and run it on the rest; with nothing waiting the block idles. -/
def step (s : State) : Host.Outcome State Fault Refusal :=
  match s.pending with
  | c :: rest => exec c { s with pending := rest }
  | [] => .next s

/-- The state with the command that a word spells put at the front of the queue; no word spells one (log 30). -/
def State.withFetchWord (s : State) (nbits w : Nat) : State :=
  match decodeTableWord nbits w with
  | some c => { s with pending := c :: s.pending }
  | none => s

end Sys2Proof.Machine
end

