-- ==== Sys2Proof/Safety.lean ====
section
/-!
DEFINITION. What the statements speak of: the parts of the state and what a command may touch, and the laws of the device
that every step keeps.
-/
namespace Sys2Proof.Machine

/-! ## Parts of the state -/

/-- The parts of the state: the blocks of Table 0-1, the two ports apart, and the model's own records. -/
inductive Part
  | portS
  | portF
  | nodes
  | sales
  | members
  | merge
  | track
  | stations
  | halt
  | mgmt
  | handed
  | raised
  | start
  | reset
  | pending
  deriving DecidableEq, Repr

/-- Two states hold the same in a part. -/
def SameAt (p : Part) (s t : State) : Prop :=
  match p with
  | .portS => t.portS = s.portS
  | .portF => t.portF = s.portF
  | .nodes => t.nodes = s.nodes
  | .sales => t.sales = s.sales
  | .members => t.members = s.members
  | .merge => t.merge = s.merge
  | .track => t.track = s.track
  | .stations => t.stations = s.stations
  | .halt => t.halt = s.halt
  | .mgmt => t.mgmt = s.mgmt
  | .handed => t.handed = s.handed
  | .raised => t.raised = s.raised
  | .start => t.startRequested = s.startRequested
  | .reset => t.inReset = s.inReset
  | .pending => t.pending = s.pending

/-- Two states differ at most in the parts of a list. -/
structure SameExcept (l : List Part) (s t : State) : Prop where
  same : ∀ p, p ∉ l → SameAt p s t

/-- The part of a port. -/
def portPart : PortId → Part
  | .s => .portS
  | .f => .portF

/-- What one evaluation of the arbiter and of the conveyor's level and standby may touch. -/
def reviewParts : List Part := [.sales, .merge, .track, .portF, .mgmt, .start]

/-- What taking a cause may touch: a halt entry stops everything (R166). -/
def haltParts : List Part :=
  [.halt, .portF, .portS, .mgmt, .track, .stations, .merge, .sales, .start, .raised]

/-- What a station going out of service may touch (R155, R69). -/
def outParts : List Part := [.stations, .portF, .raised, .sales, .mgmt]

/-- What a reply to the site computer may touch (R179, R21). -/
def replyParts : List Part := [.portS, .mgmt, .handed]

/-- The parts a command may touch. -/
def touches : Instr → List Part
  | .powerOnReset _ | .lineReset =>
    [.portS, .portF, .nodes, .sales, .members, .merge, .track, .stations, .halt, .mgmt, .handed, .raised, .start, .reset]
  | .lineResetEnd _ => .reset :: haltParts
  | .tick => [.nodes, .sales, .members, .merge, .track, .halt]
  | .receiveByte p _ => [portPart p, .mgmt, .raised]
  | .transmitEnd p => [portPart p]
  | .nodeFrameTake _ => .portS :: .nodes :: .handed :: .raised :: reviewParts
  | .step _ _ _ => .handed :: haltParts
  | .entryEyeBlocked _ | .entryEyeClear _ => .handed :: .raised :: reviewParts
  | .mergeEyeBlocked _ => .handed :: reviewParts
  | .mergeEyeClear _ => [.handed, .sales, .merge, .track, .portF, .mgmt]
  | .checkEyeEdge _ _ | .exitEyeBlocked _ => [.handed, .track, .stations, .portF, .raised, .mgmt]
  | .exitEyeClear _ => .handed :: .portS :: .stations :: .raised :: reviewParts
  | .wheelSwitchEdge _ _ => [.handed, .track, .portF, .mgmt]
  | .gateState _ _ => [.handed, .merge, .portF, .mgmt]
  | .quote _ _ _ _ => [.handed, .sales, .members, .portF, .portS, .mgmt]
  | .paid _ _ _ => .handed :: .members :: reviewParts
  | .cancel _ _ => [.handed, .sales, .members, .portF, .mgmt]
  | .actState _ _ => [.handed, .stations, .halt, .portF, .portS, .raised, .mgmt]
  | .actStateFault _ | .current _ _ => .handed :: outParts
  | .driveState _ _ _ _ => .handed :: .raised :: reviewParts
  | .haltDriveConfirm _ _ => [.handed, .halt, .track, .portF, .portS, .mgmt]
  | .stopActive _ => .handed :: haltParts
  | .stopReleased _ => [.handed, .halt]
  | .estopLineAsserted => haltParts
  | .estopLineDeasserted => [.halt]
  | .memberData _ _ _ _ _ => [.handed, .members, .sales, .portF, .portS, .mgmt]
  | .siteFieldFrame _ => [.handed, .portF, .portS, .mgmt]
  | .readEntry _ _ | .writeEntry _ _ | .mgmtUnknownRequest _ _ => replyParts
  | .writeNodeEntry _ _ => .nodes :: replyParts
  | .writeStationEntry _ _ => .stations :: .sales :: replyParts
  | .writeParamEntry _ _ | .takeNotice _ _ | .setNoticeMask _ _ => replyParts
  | .writePlanEntry _ _ | .writeServiceEntry _ _ | .laneOpen _ _ => .sales :: replyParts
  | .arm _ _ => .halt :: .portS :: .handed :: reviewParts
  | .disarm _ _ => .halt :: .portF :: .sales :: .members :: .merge :: .start :: replyParts
  | .release _ _ => .halt :: .portF :: .raised :: .merge :: replyParts
  | .forceHalt _ _ => .handed :: haltParts
  | .clearCause _ _ => .halt :: replyParts
  | .laneClose _ _ | .cancelOrder _ _ => .members :: .portS :: .handed :: reviewParts
  | .stationService _ _ => .portS :: .handed :: outParts
  | .removeCar _ _ => .handed :: .portS :: .stations :: .raised :: reviewParts
  | .memberLoad _ _ => .members :: .sales :: .portF :: replyParts
  | .memberPin _ _ | .memberUnpin _ _ | .dayReset _ _ | .memberFlush _ _ => .members :: replyParts
  | .portReset _ _ => .portF :: .raised :: replyParts
  | .quoteLifeExpiry _ | .fetchTimerExpiry _ => [.sales, .members, .portF, .mgmt]
  | .admitWindowExpiry => reviewParts
  | .startWaitExpiry | .stopWaitExpiry => [.track, .raised]
  | .idleTimerExpiry => [.track, .portF, .raised]
  | .broadcastTimerExpiry => [.halt, .portF, .raised]
  | .haltWaitExpiry => .halt :: .portS :: .track :: outParts
  | .holdTimerExpiry => .halt :: .portS :: .stations :: reviewParts
  | .nodeSilent _ => .nodes :: .members :: outParts
  | .startRequest => [.start, .track, .portF, .mgmt]
  | .raiseCause _ _ => haltParts

/-! ## Words of the statements -/

/-- The hand-over a command takes: that of a STEP names no early cause (log 4). -/
def handoverOf : Instr → Instr
  | .step src delta _ => .step src delta none
  | c => c

/-- The command can be taken: no line reset is held, and its hand-over is next at its port (R38). -/
def Taken (c : Instr) (s : State) : Prop := s.inReset = false ∧ s.isNext (handoverOf c) = true

/-- The state with the command's hand-over taken off. -/
def State.without (s : State) (c : Instr) : State := s.setHanded (s.handed.erase (handoverOf c))

/-- The three resets, which a held line reset does not stop (R2). -/
def isReset : Instr → Bool
  | .powerOnReset _ | .lineReset | .lineResetEnd _ => true
  | _ => false

/-- A notice class is pending with a detail (R185). -/
def Noticed (c : NoticeClass) (d : NoticeDetail) (t : State) : Prop :=
  (Mgmt.notice t.mgmt c).pending = true ∧ (Mgmt.notice t.mgmt c).detail = d

/-- The content byte that a byte on the line brings to the collection, if it brings one (R3, R4, Table 1-2). -/
def contentOf (rx : RxState) (b : Byte) : Option Byte :=
  match rx with
  | .hunt => none
  | .collect => if b = 0xC7 ∨ b = 0xCB ∨ b = 0xE5 then none else some b
  | .escape => if b = 0x31 then some 0xC7 else if b = 0x32 then some 0xCB else if b = 0x33 then some 0xE5 else none

/-- A frame discarded or aborted at a port: the receiver left in a state with an empty collection, one receive error
counted and noticed (R8, Table 1-4). -/
def Discarded (p : PortId) (e : RxError) (rx : RxState) (s t : State) : Prop :=
  (t.port p).rx = rx ∧ (t.port p).coll = [] ∧
  (t.port p).rxErrors =
    (s.port p).rxErrors.set (rxErrorIndex e) (min 255 ((s.port p).rxErrors.getD (rxErrorIndex e) 0 + 1)) ∧
  Noticed .link { reason (rxErrorIndex e + 1) with arg := some (portNumber p) } t

/-- The frame that a transmission of a queued frame puts on the line (R16). -/
def completed (f : OutFrame) (seq : Nat) : Frame :=
  if f.own then { f.frame with src := 1, seq := byte seq } else f.frame

/-- A lane's quote voided: the slot EMPTY with its timer stopped, the rest of the lane kept, an OFFERED quote's
reference released, a PENDING quote's lane out of its fetch's waiting set (R56). -/
def QuoteVoided (lane : Nat) (s u : State) : Prop :=
  u.lane lane = { s.lane lane with slot := { s.slot lane with state := .empty, life := none } } ∧
  (∀ l, l ≠ lane → u.lane l = s.lane l) ∧
  (∀ id n, (s.slot lane).state = .offered → (s.slot lane).member = some id → s.memberIndex id = some n →
    u.memberRec n = { s.memberRec n with refs := (s.memberRec n).refs - 1 }) ∧
  (∀ id n, (s.slot lane).state = .pending → (s.slot lane).member = some id → s.fetchIndex id = some n →
    u.fetch n = { s.fetch n with waiting := (s.fetch n).waiting.set lane none }) ∧
  u.sales.orders = s.sales.orders

/-- QUOTE_REPLYs to the kiosks of the lanes that are answered, in lane order, each with its slot's token: an outcome and a
price for each (Table 3-5). -/
def State.answerLanes (s : State) (answer : Nat → Option (Reply × Nat)) : State :=
  [0, 1, 2].foldl (fun u l => match answer l with
    | some (r, price) => u.quoteReply l r (some (s.slot l).token) price
    | none => u) s

/-- Every lane of a waiting set has been refused with an outcome, its slot EMPTY; the other slots stand (R81, R83). -/
def WaitersRefused (r : Reply) (waiting : List (Option Nat)) (s t : State) : Prop :=
  t.portF = (s.answerLanes fun l => (waiting.getD l none).map fun _ => (r, 0)).portF ∧
  ∀ l, l < 3 → t.slot l = if waiting.getD l none = none then s.slot l else { s.slot l with state := .empty, life := none }

/-- The outcome of an account with a tier, a daily limit and uses for a quote that needs a tier (R76). -/
def outcomeFor (tier limit uses need : Nat) : Reply :=
  if limit ≤ uses then .memberLimit else if tier < need then .memberTier else .offered

/-- Every lane of a waiting set has been judged against an account, in lane order: OFFERED at its quote's price with the
life timer loaded, or refused with its slot EMPTY; the other slots stand (R76, R82). -/
def WaitersJudged (tier limit uses : Nat) (waiting : List (Option Nat)) (s t : State) : Prop :=
  t.portF = (s.answerLanes fun l => (waiting.getD l none).map fun need =>
    let r := outcomeFor tier limit uses need
    (r, if r = .offered then (s.slot l).price else 0)).portF ∧
  ∀ l, l < 3 →
    (waiting.getD l none = none → t.slot l = s.slot l) ∧
    ∀ need, waiting.getD l none = some need →
      (outcomeFor tier limit uses need = .offered →
        t.slot l = { s.slot l with state := .offered, life := some (s.param .quoteLife) }) ∧
      (outcomeFor tier limit uses need ≠ .offered → t.slot l = { s.slot l with state := .empty, life := none })

/-- The lanes of a waiting set that an account accepts, each taking one reference (R75, R82). -/
def acceptedOf (tier limit uses : Nat) (waiting : List (Option Nat)) : Nat :=
  [0, 1, 2].countP fun l => (waiting.getD l none).any fun need => outcomeFor tier limit uses need == .offered

/-- The REPORTs among discarded frames have raised REPORT_LOST, once each, the detail of the last one staying (R21, R28; the
order is the model's choice, log 32); with no REPORT among them no notice has changed. -/
def ReportsLost (discarded : List OutFrame) (s t : State) : Prop :=
  let reports := discarded.filter fun f => f.frame.kind == 0x42
  (reports = [] → t.mgmt = s.mgmt) ∧
  (reports ≠ [] → (∀ f ∈ reports, 2 ≤ f.frame.payload.length) →
    (Mgmt.notice t.mgmt .reportLost).pending = true ∧
    (Mgmt.notice t.mgmt .reportLost).count = min 255 ((Mgmt.notice s.mgmt .reportLost).count + reports.length)) ∧
  ∀ f, reports.getLast? = some f →
    (∀ tag lane rest, f.frame.payload = 2 :: tag :: lane :: rest →
      Noticed .reportLost { reason 2 with tag := some tag.toNat } t) ∧
    ∀ (c : Car) (removed : Bool), f.frame.payload = completion c removed →
      Noticed .reportLost { reason 1 with tag := some (c.tag % 256), arg := c.order.map (· % 256) } t

/-- Commands run one after another, each answering the next state. -/
def Runs : List Instr → State → State → Prop
  | [], s, t => t = s
  | c :: rest, s, t => ∃ u, exec c s = .next u ∧ Runs rest u t

/-- Every table and list of fixed size has its size (Tables 0-1, 1-1, 2-1, 3-6, 4-1, 7-1, 8-1, 9-3, 9-5). -/
structure Shape (s : State) : Prop where
  nodes : s.nodes.length = 64
  services : s.sales.services.length = 16
  plans : s.sales.plans.length = 12
  lanes : s.sales.lanes.length = 3
  orders : s.sales.orders.length = 40
  records : s.members.records.length = 32
  fetches : s.members.fetches.length = 4
  waiting : ∀ f ∈ s.members.fetches, f.waiting.length = 3
  merge : s.merge.lanes.length = 3
  stations : s.stations.length = 24
  details : s.halt.lastDetails.length = 22
  params : s.mgmt.params.length = 19
  notices : s.mgmt.notices.length = 8
  rxS : s.portS.rxErrors.length = 6
  rxF : s.portF.rxErrors.length = 6

/-! ## Laws of the device -/

/-- PERMIT is asserted in ARMED alone, in ARMED and RECOVERING the cause set is empty (R161), and each halt timer runs
in its own mode alone (Table 8-1). -/
def HaltLaw (s : State) : Prop :=
  s.halt.permit = (s.halt.mode == .armed) ∧
  (s.halt.mode = .armed ∨ s.halt.mode = .recovering → s.halt.causes = []) ∧
  (s.halt.hold ≠ none → s.halt.mode = .recovering) ∧
  (s.halt.bcast ≠ none ∨ s.halt.haltWait ≠ none → s.halt.mode = .halting)

/-- A working station is used and names the car it works on: a car of the Car List that bought its service (R142). -/
def StationServes (s : State) (st : Station) : Prop :=
  Station.working st = true →
    Station.used st = true ∧ ∃ c ∈ s.track.cars, st.car = some c.tag ∧ hasService c.services st.service = true

/-- The tunnel stands still where it must: the conveyor starts and stations work in ARMED alone; in HALTED, RECOVERING
and OFFLINE the conveyor is STOPPED and no station works (R157); in HALTING a conveyor not yet STOPPED is awaited. -/
def StandstillLaw (s : State) : Prop :=
  (s.halt.mode ≠ .armed → s.track.conveyor = .stopped ∨ s.halt.mode = .halting ∧ s.track.conveyor = .stopping) ∧
  (s.halt.mode ≠ .armed → ∀ st ∈ s.stations, Station.working st = false) ∧
  (s.halt.mode = .halting → s.track.conveyor ≠ .stopped → s.halt.awaitDrive = true) ∧
  (s.track.idle ≠ none → s.track.conveyor = .moving) ∧
  s.stations.length = 24 ∧
  (∀ st ∈ s.stations, StationServes s st)

/-- The bounds of a port's queues, collection and halt run count (Table 1-1, R9, R12, R20 to R22). -/
def PortBounded (q : Port) : Prop :=
  q.inq.length ≤ Config.inboundSize ∧
  q.inq.countP (fun f => !f.safety) ≤ Config.inboundNormal ∧
  q.urgent.length ≤ Config.urgentSize ∧
  q.normal.length ≤ Config.normalSize ∧
  q.urgent.countP (fun f => f.frame.kind == Config.kHaltBcast) ≤ 1 ∧
  q.haltRun < Config.haltRun ∧
  q.coll.length ≤ 56

/-- What a passing header promises of an open collection (R5). -/
def CollectionOpen (q : Port) : Prop :=
  6 ≤ q.coll.length → collLen q.coll ≤ Config.maxLen ∧ q.coll.length ≤ collLen q.coll + 8

/-- The transmitter is not idle while a frame waits (R17, R18). -/
def TransmitterBusy (q : Port) : Prop := q.line = none → q.urgent = [] ∧ q.normal = []

/-- Both ports keep their bounds, and neither line is idle while a frame waits. -/
def PortLaw (s : State) : Prop :=
  PortBounded s.portS ∧ PortBounded s.portF ∧ CollectionOpen s.portS ∧ CollectionOpen s.portF ∧
  TransmitterBusy s.portS ∧ TransmitterBusy s.portF

/-- ATTN is asserted exactly while some class is pending and enabled (R186). -/
def AttnLaw (s : State) : Prop := s.mgmt.attn = s.mgmt.notices.any fun r => r.pending && r.enabled

/-- At most 16 cars, no two of one tag (R123, R124), and every done set within its service set (R148). -/
def CarLaw (s : State) : Prop :=
  s.track.cars.length ≤ Config.carListSize ∧ s.carTags.Nodup ∧ ∀ c ∈ s.track.cars, c.done &&& ~~~c.services = 0

/-- The cars stand in line (R123): only the tail is ENTERING, without a length and with the entry eye BLOCKED, only the head
is EXITING, every RIDING car has its length, and a car's front travel is above that of every car behind it. The last is said
of a car whose length is known: R135 guards no correction of a head that became EXITING without one (log 34). -/
structure LineLaw (s : State) : Prop where
  entering : ∀ (j : Nat) (c : Car), s.track.cars[j]? = some c → c.state = .entering →
    j + 1 = s.track.cars.length ∧ c.length = none ∧ s.merge.entryBlocked = true
  riding : ∀ c ∈ s.track.cars, c.state = .riding → c.length ≠ none
  exiting : ∀ (j : Nat) (c : Car), s.track.cars[j]? = some c → c.state = .exiting → j = 0
  falling : ∀ (i j : Nat) (a b : Car), i < j → s.track.cars[i]? = some a → s.track.cars[j]? = some b → a.length ≠ none →
    b.front < a.front

/-- The Node Table has 64 records, the fixed roles stand, and no other record takes them (R30, R32). -/
def NodeLaw (s : State) : Prop := s.nodes.length = 64 ∧ ∀ a, a < 64 → roleAllowed a (s.node a).role = true

/-- Every parameter lies in its range (Table 9-4, R183). -/
def ParamLaw (s : State) : Prop :=
  s.mgmt.params.length = 19 ∧ ∀ i, i < 19 → paramInRange i (s.mgmt.params.getD i 0) = true

/-- The tables keep their sizes, the fixed roles and the parameters' ranges. -/
def TableLaw (s : State) : Prop := Shape s ∧ NodeLaw s ∧ ParamLaw s

/-- A grant stands in ARMED alone, and the admit window runs exactly while it stands (R96, R109). -/
def GrantLaw (s : State) : Prop :=
  (s.merge.grant.isSome = s.merge.admitTimer.isSome) ∧ (s.merge.grant ≠ none → s.halt.mode = .armed)

/-- The three lane queues as one list of order records. -/
def State.queued (s : State) : List Nat := (s.lane 0).queue ++ (s.lane 1).queue ++ (s.lane 2).queue

/-- Every order record is in exactly one place: the free list, one lane queue, or neither while it is BOUND (R61 to
R63); the GRANTED order is the head of the granted lane's queue and names the grant (R96). -/
structure PoolLaw (s : State) : Prop where
  lanes : s.sales.lanes.length = 3
  orders : s.sales.orders.length = 40
  once : (s.sales.free ++ s.queued).Nodup
  small : ∀ r ∈ s.sales.free ++ s.queued, r < 40
  free : ∀ r, r < 40 → ((s.order r).state = .free ↔ r ∈ s.sales.free)
  waiting : ∀ r, r < 40 → (Order.waits (s.order r) = true ↔ r ∈ s.queued)
  home : ∀ l, l < 3 → ∀ r ∈ (s.lane l).queue, (s.order r).lane = l
  granted : ∀ r, r < 40 → ((s.order r).state = .granted ↔ s.grantedOrder = some r)
  named : ∀ g, s.merge.grant = some g → g.lane < 3 ∧ ∃ r, s.headOrder g.lane = some r ∧ (s.order r).tag = g.tag

/-- Every BOUND order is bound to one car of the Car List and every car that names an order to a BOUND one, each naming the
other's tag; no two orders off the free list have one tag (R61, R64, R123). With the distinct car tags of `CarLaw` the car
and the order are each other's only one. -/
structure BoundLaw (s : State) : Prop where
  rides : ∀ r, r < 40 → (s.order r).state = .bound →
    ∃ c ∈ s.track.cars, c.order = some (s.order r).tag ∧ (s.order r).car = some c.tag
  bound : ∀ c ∈ s.track.cars, ∀ tag, c.order = some tag →
    ∃ r, r < 40 ∧ (s.order r).state = .bound ∧ (s.order r).tag = tag ∧ (s.order r).car = some c.tag
  tags : ∀ q r, q < 40 → r < 40 → (s.order q).state ≠ .free → (s.order r).state ≠ .free →
    (s.order q).tag = (s.order r).tag → q = r

/-- A member record keeps the cache's limits: uses within the daily limit (R73). -/
def Member.sound (m : Member) : Prop := m.uses ≤ m.limit

/-- The Member Cache holds no account twice and at most 8 PINNED records, every use count within its limit (R73); a
fetch is outstanding for an account neither cached nor fetched twice, and the lanes that wait on it are PENDING for it
(R78); no lane holds more than 6 orders with its open quote, and a CLOSED lane holds no quote (R50, R62). -/
structure QuoteLaw (s : State) : Prop where
  shape : Shape s
  sound : ∀ m ∈ s.members.records, Member.sound m
  pins : s.members.records.countP (fun m => m.state == .pinned) ≤ Config.pinLimit
  accounts : ∀ a b, a < 32 → b < 32 → (s.memberRec a).state ≠ .free → (s.memberRec b).state ≠ .free →
    (s.memberRec a).id = (s.memberRec b).id → a = b
  fetches : ∀ a b id, a < 4 → b < 4 → (s.fetch a).id = some id → (s.fetch b).id = some id → a = b
  absent : ∀ a id, a < 4 → (s.fetch a).id = some id → s.memberIndex id = none
  waits : ∀ a l tier, a < 4 → l < 3 → (s.fetch a).waiting.getD l none = some tier →
    (s.fetch a).id ≠ none ∧ (s.slot l).state = .pending ∧ (s.slot l).member = (s.fetch a).id
  room : ∀ l, l < 3 → (s.lane l).queue.length + (Slot.held (s.slot l)).toNat ≤ Config.laneSize
  closed : ∀ l, l < 3 → (s.lane l).isOpen = false → (s.slot l).state = .empty

/-- The lanes whose OFFERED quote carries a member id (R75). -/
def State.holders (s : State) (id : Nat) : List Nat :=
  [0, 1, 2].filter fun l => (s.slot l).state == .offered && (s.slot l).member == some id

/-- The recency list holds each CACHED record once and no other (R74); a held record's reference count is the number of
OFFERED quotes of its account, and the account of an OFFERED member quote is in the cache (R75). -/
structure HoldLaw (s : State) : Prop where
  once : s.members.recency.Nodup
  listed : ∀ n, n ∈ s.members.recency ↔ n < 32 ∧ (s.memberRec n).state = .cached
  refs : ∀ n, n < 32 → (s.memberRec n).state ≠ .free →
    (s.memberRec n).refs = (s.holders (s.memberRec n).id).length
  held : ∀ l id, l < 3 → (s.slot l).state = .offered → (s.slot l).member = some id → s.memberIndex id ≠ none

end Sys2Proof.Machine
end

