-- ==== Sys2Proof/WellFormed.lean ====
section
/-!
DEFINITION. Which commands carry operands in the ranges the spec gives them. The Node Table hands over only such
commands; the meanings are total and do not rely on it.
-/
namespace Sys2Proof

/-- A node address is 0 to 63 (Table 0-2). -/
abbrev wfAddr (a : Nat) : Bool := a ≤ 63

/-- A lane is 0 to 2 (Table 2-1). -/
abbrev wfLane (l : Nat) : Bool := l ≤ 2

/-- A station is 0 to 23 (Table 7-1). -/
abbrev wfStation (n : Nat) : Bool := n ≤ 23

/-- A value of one byte. -/
abbrev wfByte (n : Nat) : Bool := n ≤ 255

/-- A member id as it stands in a frame: three bytes (Table 10-2). -/
abbrev wfMember (n : Nat) : Bool := n ≤ 16777215

/-- A field that may be absent, checked where it is present. -/
def wfOption (p : Nat → Bool) : Option Nat → Bool
  | none => true
  | some n => p n

/-- The fields of a cause detail fit Table 10-7. -/
def CauseDetail.wf (d : CauseDetail) : Bool :=
  wfOption wfAddr d.node && wfOption wfStation d.station && wfOption wfByte d.car &&
    wfOption (fun n => n ≤ 65535) d.arg

/-- A frame's addresses are 63 or less and its payload 48 bytes or less (R5). -/
def Frame.wf (f : Frame) : Bool :=
  f.dest.toNat ≤ 63 && f.src.toNat ≤ 63 && f.payload.length ≤ 48

/-- The arguments of a management request: a payload of at most 48 bytes, the first being the request code. -/
def wfArgs (args : List Byte) : Bool := args.length ≤ 47

/-- The operands of a command lie in their ranges. -/
def Instr.wf : Instr → Bool
  | .powerOnReset _ => true
  | .lineReset => true
  | .lineResetEnd _ => true
  | .tick => true
  | .receiveByte _ _ => true
  | .transmitEnd _ => true
  | .nodeFrameTake _ => true
  | .step src _ _ => wfAddr src
  | .entryEyeBlocked src => wfAddr src
  | .entryEyeClear src => wfAddr src
  | .mergeEyeBlocked lane => wfLane lane
  | .mergeEyeClear lane => wfLane lane
  | .checkEyeEdge src _ => wfAddr src
  | .exitEyeBlocked src => wfAddr src
  | .exitEyeClear src => wfAddr src
  | .wheelSwitchEdge src _ => wfAddr src
  | .gateState lane _ => wfLane lane
  | .quote lane plan _ member => wfLane lane && wfByte plan && wfMember member
  | .paid lane token tender => wfLane lane && wfByte token && wfByte tender
  | .cancel lane token => wfLane lane && wfByte token
  | .actState station _ => wfStation station
  | .actStateFault station => wfStation station
  | .current station value => wfStation station && decide (value ≤ 65535)
  | .driveState src report level _ =>
    wfAddr src && (report != .running || (1 ≤ level && level ≤ 4)) && wfByte level
  | .haltDriveConfirm src _ => wfAddr src
  | .stopActive src => wfAddr src
  | .stopReleased src => wfAddr src
  | .estopLineAsserted => true
  | .estopLineDeasserted => true
  | .memberData id known tier limit uses =>
    wfMember id && wfByte known && wfByte tier && wfByte limit && wfByte uses
  | .siteFieldFrame frame => frame.wf
  | .readEntry _ args => wfArgs args
  | .writeEntry _ args => wfArgs args
  | .writeNodeEntry _ args => wfArgs args
  | .writeStationEntry _ args => wfArgs args
  | .writeParamEntry _ args => wfArgs args
  | .writePlanEntry _ args => wfArgs args
  | .writeServiceEntry _ args => wfArgs args
  | .arm _ args => wfArgs args
  | .disarm _ args => wfArgs args
  | .release _ args => wfArgs args
  | .forceHalt _ args => wfArgs args
  | .clearCause _ args => wfArgs args
  | .laneOpen _ args => wfArgs args
  | .laneClose _ args => wfArgs args
  | .cancelOrder _ args => wfArgs args
  | .stationService _ args => wfArgs args
  | .removeCar _ args => wfArgs args
  | .memberLoad _ args => wfArgs args
  | .memberPin _ args => wfArgs args
  | .memberUnpin _ args => wfArgs args
  | .dayReset _ args => wfArgs args
  | .memberFlush _ args => wfArgs args
  | .portReset _ args => wfArgs args
  | .takeNotice _ args => wfArgs args
  | .setNoticeMask _ args => wfArgs args
  | .mgmtUnknownRequest _ _ => true
  | .quoteLifeExpiry lane => wfLane lane
  | .fetchTimerExpiry entry => entry ≤ 3
  | .admitWindowExpiry => true
  | .startWaitExpiry => true
  | .stopWaitExpiry => true
  | .idleTimerExpiry => true
  | .broadcastTimerExpiry => true
  | .haltWaitExpiry => true
  | .holdTimerExpiry => true
  | .nodeSilent addr => wfAddr addr
  | .startRequest => true
  | .raiseCause _ detail => detail.wf

end Sys2Proof
end

