-- ==== Sys2Proof/Certificates/Slice0/Obligations.lean ====
section
/-!
DEFINITION. The statements for the provers, in the order of OBLIGATIONS.json.
-/
open Sys2Proof Sys2Proof.Machine

/-! ## Steps and hand-overs -/

/-- One step runs the command at the front of the queue on the rest; with nothing waiting the block idles (the model's
choice, log 1). -/
def Obligations.StepRunsTheFrontCommand : Prop :=
  (∀ (c : Instr) (rest : List Instr) (s : State), s.pending = c :: rest → step s = exec c { s with pending := rest }) ∧
  ∀ s : State, s.pending = [] → step s = .next s

/-- Every command answers a next state, and no part of the state outside those named for it changes. -/
def Obligations.CommandsTouchOnlyTheirParts : Prop :=
  ∀ (c : Instr) (s : State), ∃ t : State, exec c s = .next t ∧ SameExcept (touches c) s t

/-- A command outside its moment changes nothing (the model's choice, log 2): any but the three resets while a line reset is
held (R2, log 23); one that acts on a frame whose hand-over is not next at its port, the oldest being next and the second of
the oldest DRIVE_STATE with it (R38, log 3); an expiry whose timer does not stand at zero (R1); a cause that is not
outstanding, a start request not handed over, a silence not due (logs 4, 5, 6); and the taking of a frame from an empty
queue or from a sender whose silence is due (R13, log 6). -/
def Obligations.CommandsOutsideTheirMoment : Prop :=
  (∀ (c : Instr) (s : State), s.inReset = true → isReset c = false → exec c s = .next s) ∧
  (∀ (c : Instr) (s : State), arrivesAt c ≠ none → s.isNext (handoverOf c) = false → exec c s = .next s) ∧
  (∀ (p : PortId) (c : Instr) (rest : List Instr) (s : State), s.handedFrom p = c :: rest → s.isNext c = true) ∧
  (∀ (src level : Nat) (report : DriveReport) (roller : Bool) (rest : List Instr) (s : State),
    s.handedFrom .f = .driveState src report level roller :: .haltDriveConfirm src report :: rest →
    s.isNext (.haltDriveConfirm src report) = true) ∧
  (∀ (n : Nat) (s : State),
    ((s.slot n).life ≠ some 0 → exec (.quoteLifeExpiry n) s = .next s) ∧
    ((s.fetch n).timer ≠ some 0 → exec (.fetchTimerExpiry n) s = .next s) ∧
    ((s.node n).silenceDue = false → exec (.nodeSilent n) s = .next s)) ∧
  (∀ (k : CauseKind) (d : CauseDetail) (s : State), (k, d) ∉ s.raised → exec (.raiseCause k d) s = .next s) ∧
  (∀ (p : PortId) (s : State), (s.port p).inq = [] → exec (.nodeFrameTake p) s = .next s) ∧
  (∀ (p : PortId) (f : InFrame) (rest : List InFrame) (s : State), (s.port p).inq = f :: rest →
    (s.node f.frame.src.toNat).silenceDue = true → exec (.nodeFrameTake p) s = .next s) ∧
  ∀ s : State,
    (s.merge.admitTimer ≠ some 0 → exec .admitWindowExpiry s = .next s) ∧
    (s.track.startWait ≠ some 0 → exec .startWaitExpiry s = .next s) ∧
    (s.track.stopWait ≠ some 0 → exec .stopWaitExpiry s = .next s) ∧
    (s.track.idle ≠ some 0 → exec .idleTimerExpiry s = .next s) ∧
    (s.halt.bcast ≠ some 0 → exec .broadcastTimerExpiry s = .next s) ∧
    (s.halt.haltWait ≠ some 0 → exec .haltWaitExpiry s = .next s) ∧
    (s.halt.hold ≠ some 0 → exec .holdTimerExpiry s = .next s) ∧
    (s.startRequested = false → exec .startRequest s = .next s)

/-! ## Resets and the tick -/

/-- POWER_ON_RESET leaves every block at its reset value; an ESTOP line found asserted latches ESTOP_LINE in OFFLINE
(R29, R46, R72, R95, R116, R141, R160, R178, R191; the
RESUME of Port F is on the line at once, R17 and log 9; the model's choice in a cleared port is log 22). -/
def Obligations.PowerOnResetLeavesResetValues : Prop :=
  ∀ (estop : Bool) (s : State), ∃ t : State, exec (.powerOnReset estop) s = .next t ∧
    t.portS = Port.cleared ∧
    t.portF = { Port.cleared with
      line := some { frame := { dest := 62, src := 1, kind := 0x39, seq := 0, payload := [] }, opens := true }, outSeq := 1 } ∧
    (∀ a, a < 64 → t.node a =
      .blank (if a = 0 then .site else if a = 1 then .self else if a = 62 then .hub else .none)) ∧
    (∀ n, n < 16 → t.service n = ⟨false, 0⟩) ∧
    (∀ n, n < 12 → t.plan n = ⟨.absent, 0, 0, 0, 0, 1⟩) ∧
    (∀ l, l < 3 → (t.lane l).isOpen = false ∧ (t.lane l).queue = [] ∧ (t.lane l).token = 0 ∧
      (t.slot l).state = .empty ∧ (t.slot l).life = none) ∧
    (∀ r, r < 40 → (t.order r).state = .free) ∧ t.sales.free = List.range 40 ∧ t.sales.tag = 0 ∧
    (∀ n, n < 32 → (t.memberRec n).state = .free) ∧ t.members.recency = [] ∧
    (∀ n, n < 4 → (t.fetch n).id = none ∧ (t.fetch n).timer = none) ∧
    (∀ l, l < 3 → t.mergeLane l = ⟨false, .closed, false⟩) ∧
    t.merge.entryBlocked = false ∧ t.merge.grant = none ∧ t.merge.admitTimer = none ∧ t.merge.lastGranted = 2 ∧
    t.track = Track.fresh ∧ t.speedLevel = 2 ∧
    (∀ i, i < 24 → t.station i = Station.blank) ∧
    t.halt.mode = .offline ∧ t.halt.permit = false ∧ t.halt.causes = (if estop then [.estopLine] else []) ∧
    t.halt.first = none ∧ t.halt.estopActive = [] ∧ t.halt.awaitDrive = false ∧ t.halt.awaitStations = [] ∧
    t.halt.bcast = none ∧ t.halt.haltWait = none ∧ t.halt.hold = none ∧
    t.mgmt.params = [60, 12, 260, 80, 2400, 4, 24, 10, 80, 200, 30, 30, 20, 15, 5, 50, 150, 16, 8] ∧
    t.mgmt.lastReset = .power ∧ t.mgmt.attn = estop ∧ (∀ r ∈ t.mgmt.notices, r.enabled = true)

/-- LINE_RESET holds every dynamic piece at its reset value and keeps the configuration; at LINE_RESET_END the part
runs on, Port F sending one RESUME with SEQ 0, LAST_RESET LINE and the ESTOP line taken afresh (R2, R17, R29, R46, R72, R160,
R178, R190; the model's choices are logs 9, 20, 22 and 23: the blank lanes, orders, members and own records are log 20). -/
def Obligations.LineResetKeepsConfiguration : Prop :=
  ∀ s : State, ∃ t : State, exec .lineReset s = .next t ∧
    t.inReset = true ∧ t.pending = s.pending ∧ t.portS = Port.cleared ∧ t.portF = Port.cleared ∧
    (∀ a, t.node a = { NodeRecord.blank (s.node a).role with
      lane := (s.node a).lane, station := (s.node a).station, position := (s.node a).position,
      forward := (s.node a).forward, watch := (s.node a).watch }) ∧
    t.sales.services = s.sales.services ∧ t.sales.plans = s.sales.plans ∧ t.mgmt.params = s.mgmt.params ∧
    (∀ i, t.station i = { s.station i with
      active := (s.station i).preload, inService := true, activity := .idle, car := none, backoffs := 0,
      stepsLeft := 0, lastCurrent := 0 }) ∧
    t.sales.lanes = List.replicate 3 .blank ∧ t.sales.orders = List.replicate 40 .blank ∧
    t.sales.free = List.range 40 ∧ t.sales.tag = 0 ∧ t.members = .fresh ∧ t.merge = .fresh ∧ t.track = .fresh ∧
    t.halt = .fresh ∧ t.mgmt.attn = false ∧ t.handed = [] ∧ t.raised = [] ∧ t.startRequested = false ∧
    ∀ estop, ∃ u : State, exec (.lineResetEnd estop) t = .next u ∧ u.inReset = false ∧
      u.portF = { Port.cleared with
        line := some { frame := { dest := 62, src := 1, kind := 0x39, seq := 0, payload := [] }, opens := true },
        outSeq := 1 } ∧ u.mgmt.lastReset = .line ∧
      u.halt.mode = .offline ∧ u.halt.estopLine = estop ∧ u.halt.causes = (if estop then [.estopLine] else []) ∧
      u.mgmt.attn = estop ∧ SameExcept [.reset, .portF, .mgmt, .halt] t u

/-- TICK takes one from every running timer and advances the silence count of every watched LIVE record (R1, R39,
R40); a timer at zero rests there (log 7). A LIVE record whose count reaches its watch period is marked due and keeps its
count: it becomes SILENT at the NODE_SILENT that follows (the model's reading, log 6). -/
def Obligations.TickCountsDownAndWatches : Prop :=
  ∀ s : State, s.inReset = false → Shape s → ∃ t : State, exec .tick s = .next t ∧
    t.halt.bcast = s.halt.bcast.map (· - 1) ∧ t.halt.haltWait = s.halt.haltWait.map (· - 1) ∧
    t.halt.hold = s.halt.hold.map (· - 1) ∧ t.track.startWait = s.track.startWait.map (· - 1) ∧
    t.track.stopWait = s.track.stopWait.map (· - 1) ∧ t.track.idle = s.track.idle.map (· - 1) ∧
    t.merge.admitTimer = s.merge.admitTimer.map (· - 1) ∧
    (∀ l, l < 3 → t.slot l = { s.slot l with life := (s.slot l).life.map (· - 1) }) ∧
    (∀ n, n < 4 → t.fetch n = { s.fetch n with timer := (s.fetch n).timer.map (· - 1) }) ∧
    (∀ a, a < 64 → s.watched (s.node a) = false → t.node a = { s.node a with silence := 0 }) ∧
    (∀ a, a < 64 → s.watched (s.node a) = true → (s.node a).silent = true → t.node a = s.node a) ∧
    (∀ a, a < 64 → s.watched (s.node a) = true → (s.node a).silent = false → (s.node a).silenceDue = false →
      t.node a = { s.node a with
        silence := (s.node a).silence + 1, silenceDue := decide ((s.node a).watch ≤ (s.node a).silence + 1) }) ∧
    (∀ a, a < 64 → s.watched (s.node a) = true → (s.node a).silenceDue = true → t.node a = s.node a)

/-! ## The tunnel link -/

/-- RECEIVE_BYTE counts halt bytes in a row; the sixth raises the port's pattern cause and starts the count again,
whatever the mode, the receiver state or the queue (R9). A raw halt byte aborts an open frame with PATTERN_BYTE; with no
frame open it is counted and otherwise discarded (R10). -/
def Obligations.HaltBytesAreTaken : Prop :=
  (∀ (p : PortId) (b : Byte) (s : State), s.inReset = false →
    ∃ t : State, exec (.receiveByte p b) s = .next t ∧ t.nodes = s.nodes ∧
      (b = 0xE5 → (s.port p).haltRun < 5 →
        (t.port p).haltRun = (s.port p).haltRun + 1 ∧ t.raised = s.raised) ∧
      (b = 0xE5 → 5 ≤ (s.port p).haltRun →
        (t.port p).haltRun = 0 ∧
        t.raised = s.raised ++ [(if p = .f then .patternF else .patternS, CauseDetail.empty)]) ∧
      (b ≠ 0xE5 → (t.port p).haltRun = 0)) ∧
  ∀ (p : PortId) (s : State), s.inReset = false → Shape s →
    ∃ t : State, exec (.receiveByte p 0xE5) s = .next t ∧
      (t.port p).haltRun = (if (s.port p).haltRun < 5 then (s.port p).haltRun + 1 else 0) ∧
      ((s.port p).rx = .collect ∧ (s.port p).coll ≠ [] ∨ (s.port p).rx = .escape →
        Discarded p .patternByte .hunt s t) ∧
      ((s.port p).rx = .collect ∧ (s.port p).coll = [] ∨ (s.port p).rx = .hunt →
        (t.port p).rx = (s.port p).rx ∧ (t.port p).coll = (s.port p).coll ∧
        (t.port p).rxErrors = (s.port p).rxErrors ∧ t.mgmt = s.mgmt)

/-- The receiver judges an escape at its code byte, a header at its sixth content byte, a body at the byte beyond LEN + 2,
and a collection at the delimiter that closes it (R4 to R6; a raw halt byte in ESCAPE is R10's, in HaltBytesAreTaken). -/
def Obligations.ReceiverJudgesFrames : Prop :=
  ∀ (p : PortId) (b : Byte) (s : State), s.inReset = false → Shape s →
    ∃ t : State, exec (.receiveByte p b) s = .next t ∧
      let coll := (s.port p).coll
      (∀ x, contentOf (s.port p).rx b = some x → coll.length = 5 →
        let h := coll ++ [x]
        let bad := h.foldl (· + ·) 0 ≠ 0 ∨ 63 < (h.getD 0 0).toNat ∨ 63 < (h.getD 1 0).toNat
        (bad → Discarded p .hdrCheck .hunt s t) ∧
        (¬bad → 48 < (h.getD 4 0).toNat → Discarded p .long .hunt s t) ∧
        (¬bad → (h.getD 4 0).toNat ≤ 48 →
          (t.port p).rx = .collect ∧ (t.port p).coll = h ∧ (t.port p).rxErrors = (s.port p).rxErrors)) ∧
      (∀ x, contentOf (s.port p).rx b = some x → 6 ≤ coll.length → coll.length = (coll.getD 4 0).toNat + 8 →
        Discarded p .long .hunt s t) ∧
      (b = 0xC7 → (s.port p).rx = .escape → Discarded p .badEscape .collect s t) ∧
      ((s.port p).rx = .escape → b ∉ [0x31, 0x32, 0x33, 0xC7, 0xE5] → Discarded p .badEscape .hunt s t) ∧
      (b = 0xC7 → (s.port p).rx = .collect → coll ≠ [] →
        coll.length < 6 ∨ coll.length < (coll.getD 4 0).toNat + 8 → Discarded p .short .collect s t) ∧
      (b = 0xC7 → (s.port p).rx = .collect → 6 ≤ coll.length → coll.length = (coll.getD 4 0).toNat + 8 →
        coll.drop (coll.length - 2) ≠ be16 (crc (coll.take (coll.length - 2))).toNat →
        Discarded p .crc .collect s t)

/-- A receiver that hunts, or waits with an empty collection, reads back the frame a transmission puts on the line and
offers it to the inbound queue: no bit of a frame is lost on the way (R3 to R7, R16). -/
def Obligations.ReceiverReadsWhatTransmitterWrites : Prop :=
  ∀ (p : PortId) (f : Frame) (opens : Bool) (s : State), f.wf = true → s.inReset = false →
    ((s.port p).rx = .collect ∧ (s.port p).coll = [] ∨ (s.port p).rx = .hunt ∧ opens = true) →
    Runs ((Sending.wire { frame := f, opens := opens }).map (.receiveByte p)) s
      ((s.setPort p { s.port p with rx := .collect, coll := [], haltRun := 0 }).offerInbound p f)

/-- A complete frame takes its class from its sender's role or from a FORCE_HALT request, and joins the inbound queue or
is dropped by its class and the queue's fill; Port F asks the hub to hold back at PAUSE_AT (R11, R12, R14). -/
def Obligations.InboundQueueAdmitsByClass : Prop :=
  ∀ (p : PortId) (f : Frame) (s : State), Shape s →
    (s.safetyClass .f f = true ↔
      (s.node f.src.toNat).role ∈
        [.encoder, .estop, .drive, .entryEye, .checkEye, .exitEye, .wheelSwitch]) ∧
    (s.safetyClass .s f = true ↔ f.kind = 0x40 ∧ f.dest = 1 ∧ ∃ rest, f.payload = 6 :: rest) ∧
    let n := (s.port p).inq.length
    let joined := s.setPort p
      { s.port p with inq := (s.port p).inq ++ [{ frame := f, safety := s.safetyClass p f }] }
    (n < 24 ∨ n < 32 ∧ s.safetyClass p f = true →
      (p = .s ∨ n + 1 < s.param .pauseAt ∨ s.portF.paused = true → s.offerInbound p f = joined) ∧
      (p = .f → s.param .pauseAt ≤ n + 1 → s.portF.paused = false →
        s.offerInbound p f =
          (joined.setPort .f { joined.portF with paused := true }).offerUrgent .f (ownFrame 62 0x38 []))) ∧
    (32 ≤ n ∨ 24 ≤ n ∧ s.safetyClass p f = false →
      ((s.offerInbound p f).port p) = { s.port p with overflow := min 255 ((s.port p).overflow + 1) } ∧
      Noticed .link { reason 7 with arg := some (portNumber p) } (s.offerInbound p f))

/-- TRANSMIT_END frees the line, and the transmitter begins the head of the urgent queue, or of the normal queue when
the urgent one is empty: an own frame takes SRC 1 and the outgoing SEQ, a forwarded one goes as it arrived (R16 to
R18). On an idle line, where no run leaves a frame waiting, it begins what waits (log 9). -/
def Obligations.TransmitterTakesUrgentFirst : Prop :=
  ∀ (p : PortId) (s : State), s.inReset = false → ∃ t : State, exec (.transmitEnd p) s = .next t ∧
    SameExcept [portPart p] s t ∧
    let q := s.port p
    let q' := t.port p
    let ended := q.lastDelim || q.line.isSome
    (∀ f rest, q.urgent = f :: rest →
      q' = { q with
        urgent := rest, line := some { frame := completed f q.outSeq, opens := !ended }, lastDelim := ended,
        outSeq := if f.own then (q.outSeq + 1) % 256 else q.outSeq }) ∧
    (q.urgent = [] → ∀ f rest, q.normal = f :: rest →
      q' = { q with
        normal := rest, line := some { frame := completed f q.outSeq, opens := !ended }, lastDelim := ended,
        outSeq := if f.own then (q.outSeq + 1) % 256 else q.outSeq }) ∧
    (q.urgent = [] → q.normal = [] → q' = { q with line := none, lastDelim := ended })

/-- An offered frame joins its queue at the tail or is dropped: a normal queue holds 32 frames and a lost report is
noticed; an urgent queue holds 16, takes no second waiting HALT_BCAST, raises URGENT_OVERFLOW for a drop, and a RETRACT
or STOP that joins removes the waiting commands it supersedes (R17, R19 to R22). -/
def Obligations.OffersJoinOrDrop : Prop :=
  ∀ (p : PortId) (f : OutFrame) (s : State), Shape s →
    let q := s.port p
    let dropped := { q with drop := min 255 (q.drop + 1) }
    (q.normal.length < 32 → s.offerNormal p f = s.setPort p (Port.transmit { q with normal := q.normal ++ [f] })) ∧
    (32 ≤ q.normal.length →
      (s.offerNormal p f).port p = dropped ∧
      Noticed .link { reason 8 with arg := some (portNumber p) } (s.offerNormal p f) ∧
      (f.frame.kind = 0x42 → ∀ tag lane rest, f.frame.payload = 2 :: tag :: lane :: rest →
        Noticed .reportLost { reason 2 with tag := some tag.toNat } (s.offerNormal p f)) ∧
      (f.frame.kind = 0x42 → ∀ (c : Car) (removed : Bool), f.frame.payload = completion c removed →
        Noticed .reportLost { reason 1 with tag := some (c.tag % 256), arg := c.order.map (· % 256) }
          (s.offerNormal p f))) ∧
    let waits := q.urgent.any fun g => g.frame.kind == 0x33
    (f.frame.kind = 0x33 → waits = true → s.offerUrgent p f = s) ∧
    (f.frame.kind ≠ 0x33 ∨ waits = false → q.urgent.length < 16 →
      ∃ kept, s.offerUrgent p f = s.setPort p (Port.transmit { q with urgent := q.urgent ++ [f], normal := kept }) ∧
        kept = q.normal.filter fun g => !(g.frame.dest == f.frame.dest &&
          (f.frame.kind == 0x30 && subcommand f.frame == 3 && g.frame.kind == 0x30 &&
              (subcommand g.frame == 1 || subcommand g.frame == 2) ||
            f.frame.kind == 0x31 && subcommand f.frame == 2 && g.frame.kind == 0x31 && subcommand g.frame == 1))) ∧
    (f.frame.kind ≠ 0x33 ∨ waits = false → 16 ≤ q.urgent.length →
      s.offerUrgent p f = (s.setPort p dropped).setRaised (s.raised ++
        [(.urgentOverflow, { CauseDetail.empty with arg := some (portNumber p * 256 + f.frame.kind.toNat) })]))

/-- SITE_FIELD_FRAME passes the mode interlock by Table 1-7 to the Port F normal queue, or is blocked and counted; a
change of mode sweeps from that queue every site frame the new mode blocks (R25, R26). -/
def Obligations.InterlockJudgesSiteFrames : Prop :=
  (∀ (f : Frame) (s : State), Taken (.siteFieldFrame f) s → Shape s →
    let passes := f.kind = 0x50 ∨ s.halt.mode = .offline ∨
      s.halt.mode = .halted ∧ (f.kind = 0x32 ∨ f.kind = 0x30 ∧ (subcommand f = 3 ∨ subcommand f = 4))
    (passes → exec (.siteFieldFrame f) s =
      .next ((s.without (.siteFieldFrame f)).offerNormal .f { own := false, frame := f })) ∧
    (¬passes → ∃ t : State, exec (.siteFieldFrame f) s = .next t ∧ t.portF = s.portF ∧
      t.portS = { s.portS with blocked := min 255 (s.portS.blocked + 1) } ∧
      Noticed .link { reason 9 with arg := some 0 } t)) ∧
  ∀ (m : Mode) (s : State), s.portS.blocked ≤ 255 →
    let t := s.enterMode m
    let blocks := fun g : OutFrame => !g.own && g.frame.src == 0 && !interlockPasses m g.frame
    t.halt.mode = m ∧ t.halt.permit = (m == .armed) ∧
    t.portF = { s.portF with normal := s.portF.normal.filter fun g => !blocks g } ∧
    t.portS.blocked = min 255 (s.portS.blocked + s.portF.normal.countP blocks)

/-- PORT_RESET restarts the named port, keeping its outgoing SEQ and the frame on the line, raises REPORT_LOST for each
REPORT it discards from the outbound queues (the last of the urgent queue and then the normal one leaves its detail, the
model's choice, log 32), and answers OK; Port F is reset in OFFLINE and HALTED alone (R21, R28). -/
def Obligations.PortResetRestartsThePort : Prop :=
  ∀ (seq b : Byte) (rest : List Byte) (s : State), Taken (.portReset seq (b :: rest)) s →
    let c := Instr.portReset seq (b :: rest)
    let cleared := fun q : Port => { Port.cleared with line := q.line, lastDelim := q.lastDelim, outSeq := q.outSeq }
    (b = 0 → ∃ u : State, exec c s = .next (u.reply seq 18 .ok []) ∧ (s.portS.paused = false → u.portS = cleared s.portS) ∧
      u.portF = s.portF ∧ u.mgmt.params = s.mgmt.params ∧ (Shape s → ReportsLost (s.portS.urgent ++ s.portS.normal) s u)) ∧
    (b = 1 → s.halt.mode = .offline ∨ s.halt.mode = .halted →
      ∃ u : State, exec c s = .next (u.reply seq 18 .ok []) ∧ u.portS = s.portS ∧
        (s.portF.paused = false → u.portF = cleared s.portF) ∧
        (s.portF.paused = true → u.portF =
          Port.transmit { cleared s.portF with urgent := [ownFrame 62 0x39 []] }) ∧
        (Shape s → ReportsLost (s.portF.urgent ++ s.portF.normal) s u)) ∧
    (b = 1 → s.halt.mode = .armed ∨ s.halt.mode = .halting ∨ s.halt.mode = .recovering →
      exec c s = .next ((s.without c).reply seq 18 .wrongMode [])) ∧
    (1 < b.toNat → exec c s = .next ((s.without c).reply seq 18 .badValue []))

/-! ## The Node Table -/

/-- The six checks of R33 refuse a frame in their order; a refused frame is discarded and counted against its sender,
with notice NODE (R33, R34, R35; for a sender whose silence is not due, log 6). -/
def Obligations.RefusedFrameIsCounted : Prop :=
  (∀ (p : PortId) (f : Frame) (s : State),
    let r := s.node f.src.toNat
    let wrong := f.src = 1 ∨ p = .f ∧ f.src = 0 ∨ p = .s ∧ f.src ≠ 0
    let permitted := permits r.role (s.touchStation r) f.kind = true
    let long := (kindSize f.kind).getD 0 ≤ f.payload.length
    let behind := r.synced = true ∧ 128 ≤ (f.seq.toNat + 256 - r.expected) % 256
    (r.role = .none → s.refusalOf p f = some .unknownSrc) ∧
    (r.role ≠ .none → wrong → s.refusalOf p f = some .wrongPort) ∧
    (r.role ≠ .none → ¬wrong → destAllowed p f = false → s.refusalOf p f = some .badDest) ∧
    (r.role ≠ .none → ¬wrong → destAllowed p f = true → ¬permitted → s.refusalOf p f = some .kindRefused) ∧
    (r.role ≠ .none → ¬wrong → destAllowed p f = true → permitted → ¬long → s.refusalOf p f = some .payload) ∧
    (r.role ≠ .none → ¬wrong → destAllowed p f = true → permitted → long → behind →
      s.refusalOf p f = some .staleSeq) ∧
    (r.role ≠ .none → ¬wrong → destAllowed p f = true → permitted → long → ¬behind → s.refusalOf p f = none)) ∧
  ∀ (p : PortId) (f : InFrame) (rest : List InFrame) (e : NodeError) (s : State), s.inReset = false → Shape s →
    (s.port p).inq = f :: rest → f.frame.src.toNat ≤ 63 → (s.node f.frame.src.toNat).silenceDue = false →
    s.refusalOf p f.frame = some e →
    let a := f.frame.src.toNat
    ∃ t : State, exec (.nodeFrameTake p) s = .next t ∧ (t.port p).inq = rest ∧
      t.node a = { s.node a with errors := min 15 ((s.node a).errors + 1), lastError := some e } ∧
      (∀ b, b ≠ a → t.node b = s.node b) ∧ Noticed .node { reason (nodeErrorNumber e) with node := some a } t ∧
      t.handed = s.handed ∧ t.portS.normal = s.portS.normal

/-- NODE_FRAME_TAKE of an acceptable frame brings its sender's record up to date, raises ENCODER_GAP for frames lost
from the encoder, lets the hub go on with a RESUME at RESUME_AT, evaluates the arbiter for a merge eye that is heard again,
and routes the frame: handed over, copied, forwarded, or counted as PAYLOAD where it carries a code no table lists (R13,
R15, R23, R24, R35 to R38, R44, R193; logs 3, 6, 14, 27, 35 and 43 for what the model reads into them). -/
def Obligations.AcceptedFrameIsRouted : Prop :=
  ∀ (p : PortId) (g : InFrame) (rest : List InFrame) (s : State), s.inReset = false → Shape s →
    (s.port p).inq = g :: rest → g.frame.src.toNat ≤ 63 → (s.node g.frame.src.toNat).silenceDue = false →
    s.refusalOf p g.frame = none →
    let f := g.frame
    let a := f.src.toNat
    let r := s.node a
    let d := (f.seq.toNat + 256 - r.expected) % 256
    let copied := f.dest = 1 ∧ r.forward = true ∨ p = .f ∧ f.dest ≠ 1
    let begun := s.setPort p { s.port p with inq := rest }
    let w := if p = .f ∧ s.portF.paused = true ∧ rest.length ≤ s.param .resumeAt then
        (begun.setPort .f { begun.portF with paused := false }).offerUrgent .f (ownFrame 62 0x39 [])
      else begun
    let heard := { r with
      silence := 0, silent := false, synced := true, expected := (f.seq.toNat + 1) % 256,
      gaps := if r.synced = true ∧ d ≠ 0 then min 255 (r.gaps + d) else r.gaps }
    let heardAgain := r.role = .mergeEye ∧ r.silent = true
    ∃ t : State, exec (.nodeFrameTake p) s = .next t ∧ (t.port p).inq = rest ∧
      { t.node a with errors := r.errors, lastError := r.lastError } = heard ∧
      (∀ b, b ≠ a → t.node b = s.node b) ∧
      t.raised = w.raised ++ (if r.synced = true ∧ d ≠ 0 ∧ r.role = .encoder then
        [(.encoderGap, { CauseDetail.empty with node := some a })] else []) ∧
      (p = .f → t.portF.paused = (s.portF.paused && !decide (rest.length ≤ s.param .resumeAt))) ∧
      (¬heardAgain → t.portF = w.portF ∧ t.sales = s.sales ∧ t.merge = s.merge ∧ t.track = s.track) ∧
      (heardAgain → let x := (w.setNode a heard).review
        t.portF = x.portF ∧ t.sales = x.sales ∧ t.merge = x.merge ∧ t.track = x.track) ∧
      (f.dest = 1 → ∀ l, handover r f = some l →
        t.handed = s.handed ++ l ∧ (t.node a).errors = r.errors ∧ (t.node a).lastError = r.lastError) ∧
      (f.dest = 1 → handover r f = none → t.handed = s.handed ∧ (t.node a).errors = min 15 (r.errors + 1) ∧
        (t.node a).lastError = some .payload ∧ Noticed .node { reason 5 with node := some a } t) ∧
      (f.dest ≠ 1 → (t.node a).errors = r.errors ∧ (t.node a).lastError = r.lastError) ∧
      (p = .s → f.dest ≠ 1 → t.handed = s.handed ++ [.siteFieldFrame f]) ∧
      (p = .f → f.dest ≠ 1 → t.handed = s.handed) ∧
      (copied → s.portS.normal.length < 32 → t.portS = Port.transmit { s.portS with
        inq := if p = .s then rest else s.portS.inq, normal := s.portS.normal ++ [{ own := false, frame := f }] })

/-- The payload of every field frame, of a MEMBER_DATA and of three management requests (CLEAR_CAUSE, a PARAM write, an
unknown code) is handed over with its operands, byte by byte (Tables 2-7, 10-2, 10-3). -/
def Obligations.HandoverReadsThePayload : Prop :=
  ∀ (r : NodeRecord) (f : Frame) (b x y z u v w : Byte) (rest : List Byte),
    let a := f.src.toNat
    (f.kind = 0x10 → f.payload = b :: rest → handover r f = some [.step a b none]) ∧
    (f.kind = 0x11 → (f.payload = 1 :: rest ∨ f.payload = 2 :: rest) →
      let blocked := f.payload.headD 0 == 1
      (r.role = .entryEye → handover r f = some [if blocked then .entryEyeBlocked a else .entryEyeClear a]) ∧
      (r.role = .checkEye → handover r f = some [.checkEyeEdge a blocked]) ∧
      (r.role = .exitEye → handover r f = some [if blocked then .exitEyeBlocked a else .exitEyeClear a]) ∧
      (r.role = .wheelSwitch → handover r f = some [.wheelSwitchEdge a blocked]) ∧
      (r.role = .mergeEye →
        handover r f = some [if blocked then .mergeEyeBlocked r.lane else .mergeEyeClear r.lane])) ∧
    (f.kind = 0x12 → f.payload = b :: x :: rest →
      handover r f = some [.current r.station (b.toNat * 256 + x.toNat)]) ∧
    (f.kind = 0x13 → f.payload = b :: rest →
      (b = 1 → handover r f = some [.actState r.station .engaged]) ∧
      (b = 2 → handover r f = some [.actState r.station .retracted]) ∧
      (b = 3 → handover r f = some [.actState r.station .parked]) ∧
      (b = 4 → handover r f = some [.actStateFault r.station]) ∧
      (b = 0 ∨ 4 < b.toNat → handover r f = none)) ∧
    (f.kind = 0x14 → f.payload = b :: x :: y :: rest →
      (b = 1 → 1 ≤ x.toNat → x.toNat ≤ 4 → handover r f =
        some [.driveState a .running x.toNat (y != 0), .haltDriveConfirm a .running]) ∧
      (b = 1 → x = 0 ∨ 4 < x.toNat → handover r f = none) ∧
      (b = 2 → handover r f = some [.driveState a .stopped 0 (y != 0), .haltDriveConfirm a .stopped]) ∧
      (b = 3 → handover r f = some [.driveState a .fault 0 (y != 0), .haltDriveConfirm a .fault])) ∧
    (f.kind = 0x15 → f.payload = b :: rest →
      (b = 1 → handover r f = some [.stopActive a]) ∧ (b = 2 → handover r f = some [.stopReleased a])) ∧
    (f.kind = 0x16 → f.payload = b :: rest →
      (b = 1 → handover r f = some [.gateState r.lane true]) ∧
      (b = 2 → handover r f = some [.gateState r.lane false])) ∧
    (f.kind = 0x17 → handover r f = some []) ∧
    (f.kind = 0x20 → f.payload = b :: x :: y :: u :: v :: w :: rest → handover r f =
      some [.quote r.lane b.toNat (x ++ y) (u.toNat * 65536 + v.toNat * 256 + w.toNat)]) ∧
    (f.kind = 0x21 → f.payload = b :: x :: rest → handover r f = some [.paid r.lane b.toNat x.toNat]) ∧
    (f.kind = 0x22 → f.payload = b :: rest → handover r f = some [.cancel r.lane b.toNat]) ∧
    (f.kind = 0x40 → f.payload = 7 :: b :: rest → handover r f = some [.clearCause f.seq (b :: rest)]) ∧
    (f.kind = 0x40 → f.payload = 2 :: 3 :: b :: rest → handover r f = some [.writeParamEntry f.seq (3 :: b :: rest)]) ∧
    (f.kind = 0x40 → f.payload = b :: rest → b = 0 ∨ 20 < b.toNat →
      handover r f = some [.mgmtUnknownRequest f.seq b]) ∧
    (f.kind = 0x49 → f.payload = b :: x :: y :: z :: u :: v :: w :: rest → handover r f =
      some [.memberData (b.toNat * 65536 + x.toNat * 256 + y.toNat) z.toNat u.toNat v.toNat w.toNat])

/-- NODE_SILENT marks the record SILENT and unsynced with notice NODE, and takes the effect of its role: a cause, a
station out of service, or a lane closed, an open quote answered LANE_CLOSED for a gate and not at all for a kiosk (R41 to
R43, R50, Table 2-8). That an entry which is not used goes out of service too is the model's choice (log 19). -/
def Obligations.SilentNodeTakesItsEffect : Prop :=
  ∀ (a : Nat) (s : State), s.inReset = false → Shape s → a < 64 → (s.node a).silenceDue = true →
    let r := s.node a
    let halting := r.role ∈ [.drive, .estop, .entryEye, .exitEye, .checkEye, .wheelSwitch]
    let at_ := { CauseDetail.empty with node := some a }
    ∃ t : State, exec (.nodeSilent a) s = .next t ∧
      t.node a = { r with silent := true, synced := false, silenceDue := false } ∧
      (∀ b, b ≠ a → t.node b = s.node b) ∧ Noticed .node { reason 8 with node := some a } t ∧
      (r.role = .encoder → t.raised = s.raised ++ [(.encoderSilent, at_)]) ∧
      (halting → s.halt.mode ≠ .offline → t.raised = s.raised ++ [(.nodeSilent, at_)]) ∧
      (halting → s.halt.mode = .offline → t.raised = s.raised) ∧
      (r.role = .station → r.station < 24 →
        (t.station r.station).inService = false ∧ (t.station r.station).activity = .idle ∧
        (t.station r.station).car = none) ∧
      (r.role = .kiosk ∨ r.role = .gate → r.lane < 3 → (s.lane r.lane).isOpen = true →
        (t.lane r.lane).isOpen = false ∧ (t.slot r.lane).state = .empty ∧
        ((s.slot r.lane).state ≠ .empty → (t.slot r.lane).life = none) ∧
        (t.lane r.lane).queue = (s.lane r.lane).queue) ∧
      (r.role = .kiosk → t.portF = s.portF) ∧
      (r.role = .gate → r.lane < 3 → t.portF = (s.answerLanes fun l =>
        if l = r.lane ∧ (s.lane l).isOpen = true ∧ (s.slot l).state ≠ .empty then some (.laneClosed, 0) else none).portF) ∧
      (r.role = .mergeEye ∨ r.role = .site ∨ r.role = .hub → SameExcept [.nodes, .mgmt] s t)

/-! ## Sales -/

/-- A QUOTE is refused at the first step of R53 that fails, the slot left EMPTY and the token counter where it stood, and
with PRICE_LIMIT without a member above 65535 (R52, R53, R54). One without a member that passes takes the lane's next token
and is OFFERED at the plan's price plus its add-ons' prices (R52, R54). -/
def Obligations.CashQuoteIsOffered : Prop :=
  (∀ (lane plan : Nat) (addons : ServiceSet) (member : Nat) (s : State), lane < 3 → Shape s →
    Taken (.quote lane plan addons member) s →
    let c := Instr.quote lane plan addons member
    let u := s.without c
    let refused := fun r : Reply => ∃ v : State, exec c s = .next (v.quoteReply lane r none 0) ∧
      (v.slot lane).state = .empty ∧ (v.lane lane).token = (s.lane lane).token ∧
      (v.lane lane).queue = (s.lane lane).queue ∧ (∀ l, l ≠ lane → v.lane l = s.lane l) ∧
      v.sales.orders = s.sales.orders ∧ v.portF = s.portF
    let sold := plan ≤ 11 ∧ (s.plan plan).state = .isOpen ∧
      ∀ n, n < 16 → hasService (s.plan plan).base n = true → s.covered n = true
    let allowed := ∀ n, n < 16 → hasService addons n = true → hasService (s.plan plan).addons n = true
    let given := ∀ n, n < 16 → hasService addons n = true → s.covered n = true
    let room := (s.lane lane).queue.length ≤ 5
    (s.halt.mode = .offline → exec c s = .next (u.quoteReply lane .tunnelOffline none 0)) ∧
    (s.halt.mode ≠ .offline → (s.lane lane).isOpen = false → exec c s = .next (u.quoteReply lane .laneClosed none 0)) ∧
    (s.halt.mode ≠ .offline → (s.lane lane).isOpen = true →
      (¬room → refused .laneFull) ∧
      (room → ¬sold → refused .planClosed) ∧
      (room → sold → ¬allowed → refused .addonNotAllowed) ∧
      (room → sold → allowed → ¬given → refused .addonUnavailable) ∧
      (room → sold → allowed → given → member = 0 → 65535 < (s.plan plan).price + s.addonPrice addons →
        refused .priceLimit))) ∧
  ∀ (lane plan : Nat) (addons : ServiceSet) (s : State), lane < 3 → Shape s → Taken (.quote lane plan addons 0) s →
    s.halt.mode ≠ .offline → (s.lane lane).isOpen = true → (s.lane lane).queue.length ≤ 5 → plan ≤ 11 →
    (s.plan plan).state = .isOpen →
    (∀ n, n < 16 → hasService (s.plan plan).base n = true → s.covered n = true) →
    (∀ n, n < 16 → hasService addons n = true → hasService (s.plan plan).addons n = true ∧ s.covered n = true) →
    let price := (s.plan plan).price + s.addonPrice addons
    let token := ((s.lane lane).token + 1) % 256
    price ≤ 65535 →
    ∃ u : State, exec (.quote lane plan addons 0) s = .next (u.quoteReply lane .offered (some token) price) ∧
      u.lane lane = { s.lane lane with
        token := token,
        slot := { state := .offered, token := token, plan := plan, addons := addons, price := price, member := none,
                  life := some (s.param .quoteLife) } } ∧
      (∀ l, l ≠ lane → u.lane l = s.lane l) ∧ u.sales.orders = s.sales.orders ∧ u.sales.free = s.sales.free

/-- A QUOTE with a member that passes R53 is refused with PRICE_LIMIT where its add-ons' prices exceed 65535, the cache not
asked; or else it is answered by the Member Cache: OFFERED on a hit that passes, refused on one that fails, PENDING on a
fetch joined or started, refused while the site computer is SILENT or the Fetch Table full (R55, R76, R77). -/
def Obligations.MemberQuoteIsAnswered : Prop :=
  ∀ (lane plan : Nat) (addons : ServiceSet) (id : Nat) (s : State), lane < 3 → Shape s → id ≠ 0 →
    Taken (.quote lane plan addons id) s → s.halt.mode ≠ .offline → (s.lane lane).isOpen = true →
    (s.lane lane).queue.length ≤ 5 → plan ≤ 11 → (s.plan plan).state = .isOpen →
    (∀ n, n < 16 → hasService (s.plan plan).base n = true → s.covered n = true) →
    (∀ n, n < 16 → hasService addons n = true → hasService (s.plan plan).addons n = true ∧ s.covered n = true) →
    let c := Instr.quote lane plan addons id
    let v := (s.without c).voidQuote lane none
    let tier := (s.plan plan).tier
    let token := ((s.lane lane).token + 1) % 256
    let price := s.addonPrice addons
    let filled := fun (st : SlotState) (u : State) =>
      (u.slot lane).state = st ∧ (u.slot lane).token = token ∧ (u.slot lane).plan = plan ∧
      (u.slot lane).addons = addons ∧ (u.slot lane).price = price ∧ (u.slot lane).member = some id ∧
      (u.lane lane).token = token
    let refused := fun (r : Reply) => ∃ u : State, exec c s = .next (u.quoteReply lane r none 0) ∧
      (u.slot lane).state = .empty ∧ (u.lane lane).token = (s.lane lane).token
    (65535 < price → exec c s = .next (v.quoteReply lane .priceLimit none 0) ∧ (v.slot lane).state = .empty ∧
      (v.lane lane).token = (s.lane lane).token) ∧
    (price ≤ 65535 → ∀ n, v.memberIndex id = some n →
      let m := v.memberRec n
      (m.limit ≤ m.uses → refused .memberLimit) ∧
      (m.uses < m.limit → m.tier < tier → refused .memberTier) ∧
      (m.uses < m.limit → tier ≤ m.tier →
        ∃ u : State, exec c s = .next (u.quoteReply lane .offered (some token) price) ∧ filled .offered u ∧
          (u.slot lane).life = some (s.param .quoteLife) ∧ u.memberRec n = { m with refs := m.refs + 1 })) ∧
    (price ≤ 65535 → v.memberIndex id = none →
      ((s.node 0).silent = true → refused .memberUnavailable) ∧
      ((s.node 0).silent = false → ∀ n, v.fetchIndex id = some n →
        ∃ u : State, exec c s = .next (u.quoteReply lane .pending (some token) 0) ∧ filled .pending u ∧
          u.fetch n = { v.fetch n with waiting := (v.fetch n).waiting.set lane (some tier) }) ∧
      ((s.node 0).silent = false → v.fetchIndex id = none → ∀ n, v.freeFetch = some n →
        ∃ u : State, exec c s = .next (u.quoteReply lane .pending (some token) 0) ∧ filled .pending u ∧
          u.fetch n = { id := some id, waiting := (List.replicate 3 none).set lane (some tier),
                        timer := some (s.param .fetchWait) } ∧
          u.portS = (s.toSite 0x48 (be24 id)).portS) ∧
      ((s.node 0).silent = false → v.fetchIndex id = none → v.freeFetch = none → refused .memberBusy))

/-- A PAID that passes R58 makes an order: the free list's head, under the next tag not in use, joins the lane's queue,
a member use is spent and the quote's reference released, ORDER_REPLY carries the tag, and the order is staged where a car
waits unpaid (R59, R64, R88, R99). One that fails is refused with the code of the first step that fails: the slot stands
under QUOTE_EXPIRED and BAD_TENDER, and the quote is voided under MEMBER_LIMIT and PLAN_CLOSED (R58, Table 10-3). The
speed level and standby are judged once, after the arbiter (log 36). -/
def Obligations.PaymentMakesAnOrder : Prop :=
  (∀ (lane token tender r : Nat) (rest : List Nat) (s : State), lane < 3 → Shape s → Taken (.paid lane token tender) s →
    (s.slot lane).state = .offered → (s.slot lane).token = token → 1 ≤ tender → tender ≤ 3 →
    s.atLimit (s.slot lane).member = false → s.available (s.slot lane).plan = true →
    s.allCovered (s.slot lane).addons = true → s.sales.free = r :: rest → r < 40 →
    let q := s.slot lane
    let tag := nextTag s.orderTags s.sales.tag
    let stages := (s.lane lane).queue = [] ∧ (s.mergeLane lane).eye = true ∧ (s.mergeLane lane).unpaid = true
    ∃ u : State,
      (let w := u.toField (u.kioskAddr lane) 0x29 [1, byte tag]
       (stages → exec (.paid lane token tender) s = .next ((w.stage lane r).review)) ∧
       (¬stages → exec (.paid lane token tender) s = .next w.judgeConveyor)) ∧
      u.sales.free = rest ∧ u.sales.tag = tag ∧
      u.order r = { state := .queued, tag := tag, lane := lane, plan := q.plan,
                    services := (s.plan q.plan).base ||| q.addons, tier := (s.plan q.plan).tier,
                    cap := (s.plan q.plan).cap, price := q.price, tender := tender, member := q.member, car := none,
                    degraded := false } ∧
      u.lane lane = { s.lane lane with
        queue := (s.lane lane).queue ++ [r], slot := { q with state := .empty, life := none } } ∧
      (∀ id n, q.member = some id → s.memberIndex id = some n → u.memberRec n = { s.memberRec n with
        uses := (s.memberRec n).uses + 1, dirty := true, refs := (s.memberRec n).refs - 1 }) ∧
      (q.member = none → u.members = s.members)) ∧
  (∀ (lane token tender : Nat) (s : State), lane < 3 → Shape s → Taken (.paid lane token tender) s →
    let c := Instr.paid lane token tender
    let q := s.slot lane
    let refuses := fun (v : State) (code : Byte) => exec c s = .next (v.toField (s.kioskAddr lane) 0x29 [code, 0])
    let ended := fun code : Byte => ∃ v : State, QuoteVoided lane s v ∧ v.portF = s.portF ∧ refuses v code
    let open_ := q.state = .offered ∧ q.token = token
    let tendered := 1 ≤ tender ∧ tender ≤ 3
    (¬open_ → refuses (s.without c) 32) ∧
    (open_ → ¬tendered → refuses (s.without c) 33) ∧
    (open_ → tendered → ∀ id n, q.member = some id → s.memberIndex id = some n →
      (s.memberRec n).limit ≤ (s.memberRec n).uses → ended 24) ∧
    (open_ → tendered → s.atLimit q.member = false → s.available q.plan = false ∨ s.allCovered q.addons = false →
      ended 19)) ∧
  ∀ (used : List Nat) (c : Nat), used.length < 256 → ∃ k, 1 ≤ k ∧ k ≤ 256 ∧ nextTag used c = (c + k) % 256 ∧
    nextTag used c ∉ used ∧ ∀ j, 1 ≤ j → j < k → (c + j) % 256 ∈ used

/-- A CANCEL that names the lane's open quote voids it with QUOTE_REPLY CANCELLED and any other is ignored (R60); the
life timer's expiry voids an OFFERED quote with EXPIRED (R56, R57). -/
def Obligations.CancelAndExpiryVoidTheQuote : Prop :=
  (∀ (lane token : Nat) (s : State), lane < 3 → Shape s → Taken (.cancel lane token) s →
    ((s.slot lane).state ≠ .empty → (s.slot lane).token = token →
      ∃ u : State, exec (.cancel lane token) s = .next (u.quoteReply lane .cancelled (some token) 0) ∧
        QuoteVoided lane s u) ∧
    ((s.slot lane).state = .empty ∨ (s.slot lane).token ≠ token →
      exec (.cancel lane token) s = .next (s.without (.cancel lane token)))) ∧
  ∀ (lane : Nat) (s : State), lane < 3 → Shape s → s.inReset = false → (s.slot lane).state = .offered →
    (s.slot lane).life = some 0 →
    ∃ u : State, exec (.quoteLifeExpiry lane) s =
        .next (u.quoteReply lane .expired (some (s.slot lane).token) 0) ∧ QuoteVoided lane s u

/-- CANCEL_ORDER voids the order that a tag names: out of its queue, its grant ended, its use returned, a VOID report
sent, its record free; a BOUND order is refused (R65 to R67, R89). Only the end of a grant evaluates the arbiter (R102);
the speed level and standby are judged once after it (log 36). -/
def Obligations.CancelOrderVoidsTheOrder : Prop :=
  ∀ (seq tag : Byte) (rest : List Byte) (s : State), Shape s → Taken (.cancelOrder seq (tag :: rest)) s →
    let c := Instr.cancelOrder seq (tag :: rest)
    (s.orderOfTag tag.toNat = none → exec c s = .next ((s.without c).reply seq 10 .notFound [])) ∧
    ∀ r, s.orderOfTag tag.toNat = some r →
      let o := s.order r
      (o.state = .bound → exec c s = .next ((s.without c).reply seq 10 .wrongMode [])) ∧
      (o.state ≠ .bound →
        ∃ u : State,
          (o.state = .granted → exec c s = .next (((u.judgeVoid o.lane).review).reply seq 10 .ok [])) ∧
          (o.state ≠ .granted → exec c s = .next (((u.judgeVoid o.lane).judgeConveyor).reply seq 10 .ok [])) ∧
          u.order r = .blank ∧ u.sales.free = r :: s.sales.free ∧
          (u.lane o.lane).queue = (s.lane o.lane).queue.erase r ∧
          (o.state = .granted → u.merge.grant = none ∧ u.merge.admitTimer = none) ∧
          (o.state ≠ .granted → u.merge = s.merge) ∧
          (∀ id n, o.member = some id → s.memberIndex id = some n →
            u.memberRec n = { s.memberRec n with uses := (s.memberRec n).uses - 1, dirty := true }) ∧
          u.portS = ((s.returnUse o.member).voidReport o 1).portS)

/-- LANE_OPEN opens a present lane whose kiosk and gate are heard; LANE_CLOSE closes a lane with its quote voided and
QUOTE_REPLY LANE_CLOSED sent for it, and with purge voids every order of its queue from head to tail, each with its use
returned and a VOID report (R50, R51, R65, R68). -/
def Obligations.LaneRequestsOpenAndClose : Prop :=
  (∀ (seq b : Byte) (rest : List Byte) (s : State), Taken (.laneOpen seq (b :: rest)) s → b.toNat ≤ 2 →
    s.halt.mode ≠ .offline → s.present b.toNat = true → s.laneSilent .kiosk b.toNat = false →
    s.laneSilent .gate b.toNat = false →
    let u := s.without (.laneOpen seq (b :: rest))
    exec (.laneOpen seq (b :: rest)) s =
      .next ((u.setLane b.toNat { u.lane b.toNat with isOpen := true }).reply seq 8 .ok [])) ∧
  ∀ (seq b : Byte) (purge : Bool) (rest : List Byte) (s : State), Shape s → PoolLaw s → b.toNat ≤ 2 →
    Taken (.laneClose seq (b :: flag purge :: rest)) s →
    let l := b.toNat
    ∃ u : State, exec (.laneClose seq (b :: flag purge :: rest)) s = .next (u.reply seq 9 .ok []) ∧
      (u.lane l).isOpen = false ∧
      ((s.lane l).isOpen = true → (u.slot l).state = .empty ∧
        ((s.slot l).state ≠ .empty → (u.slot l).life = none)) ∧
      (purge = false → (u.lane l).queue = (s.lane l).queue ∧ u.sales.orders = s.sales.orders ∧ u.portS = s.portS ∧
        u.portF = (s.answerLanes fun m =>
          if m = l ∧ (s.lane l).isOpen = true ∧ (s.slot l).state ≠ .empty then some (.laneClosed, 0) else none).portF) ∧
      (purge = true → (u.lane l).queue = [] ∧
        (∀ r ∈ (s.lane l).queue, (u.order r).state = .free ∧ r ∈ u.sales.free) ∧
        u.portS = ((s.lane l).queue.foldl (fun (v : State) r =>
          (v.returnUse (s.order r).member).voidReport (s.order r) 2) s).portS)

/-! ## Member accounts -/

/-- MEMBER_DATA answers the account's fetch: a known account fills the victim's record and each waiting lane is judged
against it, an unknown one refuses them; the fetch's expiry refuses them too; every waiting lane's kiosk is sent its
QUOTE_REPLY, in lane order. Data that no fetch awaits replaces or withdraws a cached account or is discarded, and bad data
is discarded (R75, R76, R79, R81 to R87). -/
def Obligations.MemberDataAnswersTheFetch : Prop :=
  (∀ (id known tier limit uses : Nat) (s : State), Shape s → Taken (.memberData id known tier limit uses) s →
    let c := Instr.memberData id known tier limit uses
    let bad := id = 0 ∨ 1 < known ∨ known = 1 ∧ (7 < tier ∨ 15 < limit ∨ 15 < uses)
    (bad → exec c s = .next ((s.without c).notifyMember 4 id)) ∧
    (¬bad → known = 0 → ∀ n, s.fetchIndex id = some n → ∃ t : State, exec c s = .next t ∧ t.fetch n = .blank ∧
      t.members.records = s.members.records ∧ WaitersRefused .memberUnknown (s.fetch n).waiting s t) ∧
    (¬bad → known = 1 → ∀ n v, s.fetchIndex id = some n → s.victim = some v → v < 32 → ∃ t : State, exec c s = .next t ∧
      t.fetch n = .blank ∧ t.members.recency.head? = some v ∧
      (t.memberRec v).state = .cached ∧ (t.memberRec v).id = id ∧ (t.memberRec v).tier = tier ∧
      (t.memberRec v).limit = limit ∧ (t.memberRec v).uses = min uses limit ∧ (t.memberRec v).dirty = false ∧
      (t.memberRec v).refs = acceptedOf tier limit uses (s.fetch n).waiting ∧
      t.portS = (if (s.memberRec v).state ≠ .free ∧ (s.memberRec v).dirty = true then
        (s.writeBack (s.memberRec v)).portS else s.portS) ∧
      WaitersJudged tier limit uses (s.fetch n).waiting s t) ∧
    (¬bad → s.fetchIndex id = none →
      (s.memberIndex id = none → exec c s = .next ((s.without c).notifyMember 3 id)) ∧
      ∀ n, s.memberIndex id = some n → ∃ t : State, exec c s = .next t ∧
        (known = 1 → t.memberRec n = { s.memberRec n with
          tier := tier, limit := limit, uses := min uses limit, dirty := false }) ∧
        (known = 0 → Noticed .member { reason 2 with arg := some id } t ∧
          ((s.memberRec n).state = .cached → (s.memberRec n).refs = 0 → t.memberRec n = .blank) ∧
          ((s.memberRec n).state = .pinned ∨ (s.memberRec n).refs ≠ 0 →
            t.memberRec n = { s.memberRec n with limit := 0, uses := 0, dirty := false })))) ∧
  ∀ (n : Nat) (s : State), n < 4 → Shape s → s.inReset = false → (s.fetch n).timer = some 0 →
    ∃ t : State, exec (.fetchTimerExpiry n) s = .next t ∧ t.fetch n = .blank ∧
      t.members.records = s.members.records ∧
      Noticed .member { reason 1 with arg := some ((s.fetch n).id.getD 0) } t ∧
      WaitersRefused .memberUnavailable (s.fetch n).waiting s t

/-- MEMBER_LOAD replaces the account's record or fills the victim's, its dirty uses written back, PINNED or at the front of
the recency list, and resolves an outstanding fetch, each waiting lane's kiosk sent its QUOTE_REPLY in lane order;
MEMBER_PIN and MEMBER_UNPIN move a record off and onto that list; a ninth pin is BUSY (R74, R76, R86, R87, R90, R91). -/
def Obligations.MemberRequestsPlaceRecords : Prop :=
  (∀ (seq a b d tier limit uses : Byte) (pin : Bool) (rest : List Byte) (s : State), Shape s →
    let c := Instr.memberLoad seq (a :: b :: d :: tier :: limit :: uses :: flag pin :: rest)
    let id := a.toNat * 65536 + b.toNat * 256 + d.toNat
    let waiting := (s.fetchIndex id).elim [] fun k => (s.fetch k).waiting
    let loaded := fun (u : State) (n refs : Nat) =>
      (u.memberRec n).state = (if pin then .pinned else .cached) ∧ (u.memberRec n).id = id ∧
      (u.memberRec n).tier = tier.toNat ∧ (u.memberRec n).limit = limit.toNat ∧
      (u.memberRec n).uses = uses.toNat ∧ (u.memberRec n).dirty = false ∧
      (u.memberRec n).refs = refs + acceptedOf tier.toNat limit.toNat uses.toNat waiting ∧
      WaitersJudged tier.toNat limit.toNat uses.toNat waiting s u ∧
      (pin = false → u.members.recency.head? = some n) ∧ ∀ k, s.fetchIndex id = some k → u.fetch k = .blank
    Taken c s → id ≠ 0 → tier.toNat ≤ 7 → limit.toNat ≤ 15 → uses.toNat ≤ limit.toNat →
    (∀ n, s.memberIndex id = some n → pin = false ∨ (s.memberRec n).state = .pinned ∨ s.pinned < 8 →
      ∃ u : State, exec c s = .next (u.reply seq 13 .ok []) ∧ loaded u n (s.memberRec n).refs ∧ u.portS = s.portS) ∧
    (∀ v, s.memberIndex id = none → s.victim = some v → v < 32 → pin = false ∨ s.pinned < 8 →
      ∃ u : State, exec c s = .next (u.reply seq 13 .ok []) ∧ loaded u v 0 ∧
        u.portS = (if (s.memberRec v).state ≠ .free ∧ (s.memberRec v).dirty = true then
          (s.writeBack (s.memberRec v)).portS else s.portS)) ∧
    (pin = true → 8 ≤ s.pinned → (∀ n, s.memberIndex id = some n → (s.memberRec n).state = .cached) →
      exec c s = .next ((s.without c).reply seq 13 .busy []))) ∧
  ∀ (seq a b d : Byte) (rest : List Byte) (n : Nat) (s : State), Shape s →
    let args := a :: b :: d :: rest
    s.memberIndex (a.toNat * 65536 + b.toNat * 256 + d.toNat) = some n →
    (Taken (.memberPin seq args) s →
      let u := s.without (.memberPin seq args)
      ((s.memberRec n).state = .pinned → exec (.memberPin seq args) s = .next (u.reply seq 14 .ok [])) ∧
      ((s.memberRec n).state = .cached → s.pinned < 8 → exec (.memberPin seq args) s =
        .next (((u.setMember n { s.memberRec n with state := .pinned }).offList n).reply seq 14 .ok [])) ∧
      ((s.memberRec n).state = .cached → 8 ≤ s.pinned →
        exec (.memberPin seq args) s = .next (u.reply seq 14 .busy []))) ∧
    (Taken (.memberUnpin seq args) s →
      let u := s.without (.memberUnpin seq args)
      ((s.memberRec n).state = .pinned → exec (.memberUnpin seq args) s =
        .next (((u.setMember n { s.memberRec n with state := .cached }).toFront n).reply seq 15 .ok [])) ∧
      ((s.memberRec n).state = .cached → exec (.memberUnpin seq args) s = .next (u.reply seq 15 .ok [])))

/-- DAY_RESET clears the uses and the dirty flag of every held record, sends no frame but its reply, and leaves
references, pins, the recency list and the Fetch Table (R92). MEMBER_FLUSH sends a WRITEBACK for every dirty record in
record order and cleans it, then replies OK (R93). -/
def Obligations.DayResetAndFlushCleanTheRecords : Prop :=
  (∀ (seq : Byte) (args : List Byte) (s : State), Shape s → Taken (.dayReset seq args) s →
    ∃ u : State, exec (.dayReset seq args) s = .next (u.reply seq 16 .ok []) ∧
      SameExcept [.members, .handed] s u ∧ u.members.recency = s.members.recency ∧
      u.members.fetches = s.members.fetches ∧
      ∀ n, n < 32 → u.memberRec n = (if (s.memberRec n).state = .free then s.memberRec n
        else { s.memberRec n with uses := 0, dirty := false })) ∧
  ∀ (seq : Byte) (args : List Byte) (s : State), Shape s → Taken (.memberFlush seq args) s →
    let dirty := fun n => (s.memberRec n).state != .free && (s.memberRec n).dirty
    ∃ u : State, exec (.memberFlush seq args) s = .next (u.reply seq 17 .ok []) ∧
      u.members.recency = s.members.recency ∧ u.members.fetches = s.members.fetches ∧
      (∀ n, n < 32 → u.memberRec n = (if dirty n then { s.memberRec n with dirty := false } else s.memberRec n)) ∧
      u.portS = (((List.range 32).filter dirty).foldl
        (fun (v : State) n => v.toSite 0x4A ([1] ++ be24 (s.memberRec n).id ++ [byte (s.memberRec n).uses])) s).portS



/-! ## Merge and Entry -/

/-- A BLOCKED edge at a merge eye stages a QUEUED head order and hands the start request of R101, marks an empty lane
unpaid with notice SALES, and changes no STAGED or GRANTED head; a CLEAR edge unstages and clears the flag (R97, R98,
R101; the start request is one flag, log 5). -/
def Obligations.MergeEyeStagesAndUnstages : Prop :=
  ∀ (l : Nat) (s : State), l < 3 → Shape s →
    let m := s.mergeLane l
    (Taken (.mergeEyeBlocked l) s →
      let c := Instr.mergeEyeBlocked l
      let u := s.without c
      (s.headOrder l = none → exec c s = .next
        ((u.setMergeLane l { m with eye := true, unpaid := true }).notify .sales { reason 1 with place := some l })) ∧
      (∀ r, s.headOrder l = some r → r < 40 → (s.order r).state = .queued →
        ∃ w : State, exec c s = .next w.review ∧ SameExcept [.merge, .sales, .start, .handed] s w ∧
          w.order r = { s.order r with state := .staged } ∧ (∀ q, q ≠ r → w.order q = s.order q) ∧
          w.sales.lanes = s.sales.lanes ∧ w.sales.free = s.sales.free ∧
          w.mergeLane l = { m with eye := true, unpaid := false } ∧
          (∀ k, k ≠ l → w.mergeLane k = s.mergeLane k) ∧ w.merge.grant = s.merge.grant ∧
          w.startRequested = (s.startRequested || decide (s.halt.mode = .armed ∧
            (s.track.conveyor = .stopped ∨ s.track.conveyor = .stopping)))) ∧
      (∀ r, s.headOrder l = some r → (s.order r).state ≠ .queued →
        exec c s = .next (u.setMergeLane l { m with eye := true }))) ∧
    (Taken (.mergeEyeClear l) s →
      let c := Instr.mergeEyeClear l
      let v := (s.without c).setMergeLane l { m with eye := false, unpaid := false }
      (s.headOrder l = none → exec c s = .next v) ∧
      (∀ r, s.headOrder l = some r → (s.order r).state = .staged →
        exec c s = .next ((v.setOrder r { s.order r with state := .queued }).judgeConveyor)) ∧
      (∀ r, s.headOrder l = some r → (s.order r).state ≠ .staged → exec c s = .next v))

/-- One evaluation of the arbiter: where conditions 1 to 6 of R102 hold it grants the first candidate after the
last-granted lane while MOVING, asks for a start while STOPPED or STOPPING, and does nothing while STARTING; where one
fails it does nothing (R102 to R105; the request is one flag, log 5). -/
def Obligations.ArbiterGrantsInTurn : Prop :=
  ∀ s : State, Shape s →
    let ready := s.halt.mode = .armed ∧ s.merge.grant = none ∧ s.track.cars.length < 16 ∧
      s.merge.entryBlocked = false ∧
      ∀ c, s.track.cars.getLast? = some c → ∃ n, c.length = some n ∧ s.param .entryGap + n ≤ c.front
    let waits := fun l => s.present l = true ∧ s.suspended l = false ∧
      ∃ r, s.headOrder l = some r ∧ (s.order r).state = .staged
    (¬ready ∨ (∀ l, l < 3 → ¬waits l) → s.arbitrate = s) ∧
    (ready → (∃ l, l < 3 ∧ waits l) → s.track.conveyor = .stopped ∨ s.track.conveyor = .stopping →
      s.arbitrate = s.setStartRequested true) ∧
    (s.track.conveyor = .starting → s.arbitrate = s) ∧
    (ready → s.track.conveyor = .moving → ∀ k, 1 ≤ k → k ≤ 3 →
      let l := (s.merge.lastGranted + k) % 3
      waits l → (∀ j, 1 ≤ j → j < k → ¬waits ((s.merge.lastGranted + j) % 3)) →
      ∀ r, s.headOrder l = some r → r < 40 →
        let t := s.arbitrate
        SameExcept [.merge, .sales, .portF, .mgmt] s t ∧
        t.merge.grant = some { lane := l, tag := (s.order r).tag } ∧
        t.merge.admitTimer = some (s.param .admitWindow) ∧ t.merge.lastGranted = l ∧
        t.mergeLane l = { s.mergeLane l with gate := .opening } ∧
        t.order r = { s.order r with state := .granted } ∧ (∀ q, q ≠ r → t.order q = s.order q) ∧
        t.portF = (s.toField (s.gateAddr l) 0x32 [1]).portF)

/-- The speed level is the lowest of the pressure level and every cap in force, a MOVING conveyor is commanded to it,
and the idle timer runs while the conveyor is MOVING with no car, no grant and no STAGED order (R121, R122). -/
def Obligations.SpeedAndStandbyAreJudged : Prop :=
  ∀ s : State,
    let demand := s.sales.orders.countP fun o => o.state == .queued || o.state == .staged || o.state == .granted
    let press := if demand ≤ 1 then 2 else if demand ≤ 5 then 3 else 4
    let inForce := fun k => (∃ c ∈ s.track.cars, c.cap = some k) ∨
      ∃ g r, s.merge.grant = some g ∧ s.headOrder g.lane = some r ∧ (s.order r).cap = k
    let standing := s.track.conveyor = .moving ∧ s.track.cars = [] ∧ s.merge.grant = none ∧
      ∀ o ∈ s.sales.orders, o.state ≠ .staged
    (s.speedLevel ≤ press ∧ (∀ k, inForce k → s.speedLevel ≤ k) ∧ (s.speedLevel = press ∨ inForce s.speedLevel)) ∧
    (s.track.conveyor = .moving → s.speedLevel ≠ s.track.commanded → s.judgeSpeed =
      (s.setTrack { s.track with commanded := s.speedLevel }).toField s.driveAddr 0x31 [1, byte s.speedLevel]) ∧
    (s.track.conveyor ≠ .moving ∨ s.speedLevel = s.track.commanded → s.judgeSpeed = s) ∧
    (standing → s.track.idle = none →
      s.judgeStandby = s.setTrack { s.track with idle := some (s.param .idleTicks) }) ∧
    (standing → s.track.idle ≠ none → s.judgeStandby = s) ∧
    (¬standing → s.judgeStandby = s.setTrack { s.track with idle := none })

/-- A gate report moves the lane's gate record by Table 5-3, an uncommanded opening being noticed and, in ARMED without
the grant and in RECOVERING, answered with GATE_CMD CLOSE; the admit window's expiry withdraws the grant, and
the arbiter, the speed level and standby are judged once after it (R106 to R108, R121; log 36). -/
def Obligations.GateReportsAndAdmitExpiry : Prop :=
  (∀ (l : Nat) (opens : Bool) (s : State), l < 3 → Shape s → Taken (.gateState l opens) s →
    let c := Instr.gateState l opens
    let u := s.without c
    let m := s.mergeLane l
    let noticed := u.notify .sales { reason 2 with place := some l }
    let holds := ∃ g, s.merge.grant = some g ∧ g.lane = l
    (m.gate = .closed → opens = true →
      (s.halt.mode = .armed → holds → exec c s = .next (u.setMergeLane l { m with gate := .isOpen })) ∧
      (s.halt.mode = .armed ∧ ¬holds ∨ s.halt.mode = .recovering → exec c s =
        .next ((noticed.toField (s.gateAddr l) 0x32 [2]).setMergeLane l { m with gate := .closing })) ∧
      (s.halt.mode = .offline ∨ s.halt.mode = .halted ∨ s.halt.mode = .halting →
        exec c s = .next (noticed.setMergeLane l { m with gate := .isOpen }))) ∧
    (m.gate = .opening → opens = true → exec c s = .next (u.setMergeLane l { m with gate := .isOpen })) ∧
    (m.gate = .closing → opens = false → exec c s = .next (u.setMergeLane l { m with gate := .closed })) ∧
    (m.gate = .isOpen → opens = false → exec c s = .next (noticed.setMergeLane l { m with gate := .closed })) ∧
    (m.gate = .isOpen ∨ m.gate = .closing → opens = true → exec c s = .next u) ∧
    (m.gate = .closed ∨ m.gate = .opening → opens = false → exec c s = .next u)) ∧
  ∀ (g : Grant) (r : Nat) (s : State), g.lane < 3 → Shape s → s.inReset = false → s.merge.admitTimer = some 0 →
    s.merge.grant = some g → s.headOrder g.lane = some r → r < 40 →
    ∃ w : State, exec .admitWindowExpiry s =
        .next ((w.notify .sales { reason 3 with place := some g.lane, tag := some g.tag }).review) ∧
      SameExcept [.merge, .sales, .portF, .mgmt, .start] s w ∧
      w.merge.grant = none ∧ w.merge.admitTimer = none ∧ w.merge.lastGranted = s.merge.lastGranted ∧
      w.mergeLane g.lane = { s.mergeLane g.lane with gate := .closing } ∧
      w.order r = { s.order r with state := if (s.mergeLane g.lane).eye then .staged else .queued } ∧
      w.sales.lanes = s.sales.lanes ∧ w.portF = (s.toField (s.gateAddr g.lane) 0x32 [2]).portF

/-- A front edge at the entry eye: repeated, in OFFLINE, with a full list or behind a tail at travel 0 it makes no
record; otherwise a car joins at the tail, bound to the granted order or unannounced, with ENTRY_CRUSH raised for a
tail too close (R99, R110 to R114, R124; the start request is one flag, log 5; under a grant whose lane has no order, which
no run reaches, the car is unannounced, log 26; the record is created before the halt, log 37). -/
def Obligations.FrontEdgeCreatesACar : Prop :=
  ∀ (src : Nat) (s : State), Shape s → Taken (.entryEyeBlocked src) s →
    let c := Instr.entryEyeBlocked src
    let u := s.without c
    let v := u.setMerge { s.merge with entryBlocked := true }
    let at_ := { CauseDetail.empty with node := some src }
    let tag := nextTag s.carTags s.track.carTag
    let halted := decide (s.halt.mode = .halting ∨ s.halt.mode = .halted ∨ s.halt.mode = .recovering)
    let close := fun d : Car => ∀ n, d.length = some n → d.front < s.param .collisionGap + n
    let crushes := fun raised => (∀ d, s.tailCar = some d → close d →
        raised = s.raised ++ [(.entryCrush, { at_ with car := some d.tag })]) ∧
      ((∀ d, s.tailCar = some d → ¬close d) → raised = s.raised)
    (s.merge.entryBlocked = true → exec c s = .next (u.notify .track (reason 3))) ∧
    (s.merge.entryBlocked = false → s.halt.mode = .offline → exec c s = .next (v.notify .track (reason 4))) ∧
    (s.merge.entryBlocked = false → s.halt.mode ≠ .offline →
      (16 ≤ s.track.cars.length →
        exec c s = .next ((v.raiseCause .overfill at_).notify .track (reason 2))) ∧
      (s.track.cars.length < 16 → ∀ d, s.tailCar = some d → d.front = 0 →
        exec c s = .next (v.raiseCause .entryCrush { at_ with car := some d.tag })) ∧
      (s.track.cars.length < 16 → (∀ d, s.tailCar = some d → d.front ≠ 0) →
        (s.merge.grant = none ∨ (∃ g, s.merge.grant = some g ∧ s.headOrder g.lane = none) →
          ∃ t : State, exec c s = .next t ∧ t.sales = s.sales ∧ crushes t.raised ∧
          t.track.cars = s.track.cars ++
            [{ tag := tag, order := none, lane := none, plan := none, cap := none, services := 0, price := 0,
               tender := 0, member := none, state := .entering, front := 0, length := none, roller := .waiting,
               nextEye := 0, nearMiss := 0, done := 0, unannounced := true, degraded := false,
               haltedDuring := halted }] ∧
          t.track.carTag = tag ∧ t.merge = { s.merge with entryBlocked := true } ∧
          Noticed .track { reason 1 with tag := some tag } t ∧
          t.startRequested = (s.startRequested || decide (s.halt.mode = .armed ∧
            (s.track.conveyor = .stopped ∨ s.track.conveyor = .stopping)))) ∧
        (∀ g r, s.merge.grant = some g → g.lane < 3 → s.headOrder g.lane = some r → r < 40 →
          let o := s.order r
          ∃ w : State, exec c s = .next w.review ∧ crushes w.raised ∧
            w.track.cars = s.track.cars ++
              [{ tag := tag, order := some o.tag, lane := some o.lane, plan := some o.plan, cap := some o.cap,
                 services := o.services, price := o.price, tender := o.tender, member := o.member,
                 state := .entering, front := 0, length := none, roller := .waiting, nextEye := 0, nearMiss := 0,
                 done := 0, unannounced := false, degraded := o.degraded, haltedDuring := halted }] ∧
            w.track.carTag = tag ∧ w.order r = { o with state := .bound, car := some tag } ∧
            (w.lane g.lane).queue = (s.lane g.lane).queue.tail ∧ w.merge.grant = none ∧ w.merge.admitTimer = none ∧
            w.merge.entryBlocked = true ∧ (w.mergeLane g.lane).gate = .closing ∧
            w.portF = (s.toField (s.gateAddr g.lane) 0x32 [2]).portF ∧
            ((s.mergeLane g.lane).eye = true → (s.lane g.lane).queue = [r] →
              (w.mergeLane g.lane).unpaid = true ∧ Noticed .sales { reason 1 with place := some g.lane } w) ∧
            (∀ q rest, (s.mergeLane g.lane).eye = true → (s.lane g.lane).queue = r :: q :: rest → q ≠ r → q < 40 →
              (s.order q).state = .queued → w.order q = { s.order q with state := .staged } ∧
                (w.mergeLane g.lane).unpaid = false))))

/-! ## Conveyor and Tracking -/

/-- A STEP of 1 to 15 advances every car by the delta, cut so that the head stays within 4095 + SLIP_LIMIT, counts
drift, raises the causes whose tests hold, passes missed eyes and hands the movements to Stations; 0 changes nothing
and 16 or more is an encoder gap (R125 to R129; one cause may be taken before the movements, log 4; the arbiter follows
the movements, log 42). -/
def Obligations.StepMovesEveryCar : Prop :=
  ∀ (src : Nat) (delta : Byte) (s : State), Taken (.step src delta none) s →
    let c := Instr.step src delta none
    let u := s.without c
    let d := delta.toNat
    let cut := fun h : Car => min d (4095 + s.param .slipLimit - h.front)
    let a := (s.track.cars.head?.map cut).getD d
    let drifting := s.halt.mode = .offline ∨ s.halt.mode = .halting ∨ s.halt.mode = .halted ∨
      s.track.conveyor = .stopped ∨ s.track.conveyor = .stopping
    let missed := fun (x : Car) (p : Nat × Nat) =>
      s.track.eyes[x.nextEye]? = some p ∧ p.2 + s.param .slipLimit < x.front + a
    (d = 0 → exec c s = .next u) ∧
    (15 < d → exec c s = .next ((u.raiseCause .encoderGap
      { CauseDetail.empty with node := some src, arg := some d }).notify .track { reason 7 with arg := some d })) ∧
    (1 ≤ d → d ≤ 15 →
      let moves := s.track.cars.map fun x : Car =>
        { tag := x.tag, front0 := x.front, front1 := x.front + a, rear0 := x.length.map fun n : Nat => (x.front : Int) - n,
          rear1 := x.length.map fun n : Nat => ((x.front + a : Nat) : Int) - n }
      ∃ (v : State) (causes : List (CauseKind × CauseDetail)),
        exec c s = .next ((v.handMoves moves (some d)).review) ∧ SameExcept [.track, .raised, .handed] s v ∧
        (∀ (i : Nat) (k : CauseKind) (e : CauseDetail), causes[i]? = some (k, e) →
          exec (.step src delta (some i)) s = .next ((((v.setRaised (v.raised.erase (k, e))).takeCause k e).handMoves
            moves (some d)).review)) ∧
        v.raised = s.raised ++ causes ∧
        v.track.drift = (if drifting then min 4095 (s.track.drift + d) else s.track.drift) ∧
        v.track.conveyor = s.track.conveyor ∧ v.track.cars.length = s.track.cars.length ∧
        (∀ (j : Nat) (x : Car), s.track.cars[j]? = some x →
          ((∃ p, missed x p) →
            v.track.cars[j]? = some { x with front := x.front + a, nextEye := x.nextEye + 1 }) ∧
          ((∀ p, ¬missed x p) → v.track.cars[j]? = some { x with front := x.front + a })) ∧
        ∀ (k : CauseKind) (e : CauseDetail), (k, e) ∈ causes ↔
          (k = .drift ∧ drifting ∧ s.param .driftLimit < v.track.drift ∧ s.track.cars ≠ [] ∧
            e = { CauseDetail.empty with arg := some v.track.drift }) ∨
          ∃ (j : Nat) (x : Car), s.track.cars[j]? = some x ∧
            let named := { CauseDetail.empty with car := some x.tag }
            ((k = .overlength ∧ x.state = .entering ∧ s.param .maxCarLen < x.front + a ∧
                e = { named with arg := some (x.front + a) }) ∨
              (k = .noRoller ∧ s.param .rollerLimit < x.front + a ∧ x.roller ≠ .engaged ∧ e = named) ∨
              (k = .trackFault ∧ ∃ p, missed x p ∧ e = { named with node := some p.1, arg := some x.nextEye }) ∨
              (k = .exitMissing ∧ j = 0 ∧ x.state ≠ .exiting ∧ s.track.exitBlocked = false ∧
                s.param .exitPos + s.param .slipLimit < x.front + a ∧ e = named)))

/-- Stations takes a handover station by station (in number order, log 31): a start crossing engages an idle station on
a car that is to have its service, an end crossing lets go and credits an ENGAGED station's service, and a step counts
the backoff down to the next ENGAGE (R145 to R148, R151). -/
def Obligations.StationsTakeCrossings : Prop :=
  (∀ (moves : List Move) (delta : Option Nat) (s : State),
    s.handMoves moves delta = (List.range 24).foldl (fun t i => t.judgeStation i moves delta) s) ∧
  ∀ (i : Nat) (moves : List Move) (delta : Option Nat) (s : State), i < 24 → Shape s →
    let st := s.station i
    let t := s.judgeStation i moves delta
    let start : Int := (st.position : Int) + st.startOff
    let stop : Int := (st.position : Int) + st.endOff
    let ends := fun m : Move => st.car = some m.tag ∧
      ∃ a b : Int, m.rear0 = some a ∧ m.rear1 = some b ∧ a < stop ∧ stop ≤ b
    let starts := fun m : Move => (m.front0 : Int) < start ∧ start ≤ (m.front1 : Int) ∧
      (∀ b : Int, m.rear1 = some b → b < stop) ∧
      ∃ x, s.car? m.tag = some x ∧ hasService x.services st.service = true ∧ hasService x.done st.service = false
    (st.actuator = none → t = s) ∧
    (st.actuator ≠ none → st.activity = .idle → st.inService = true → s.halt.mode = .armed →
      ((∀ m ∈ moves, ¬starts m) → t = s) ∧
      ∀ before m after, moves = before ++ m :: after → starts m → (∀ b ∈ before, ¬starts b) →
        t = (s.toField st.actuator 0x30 [1, byte st.preload]).setStation i
          { st with active := st.preload, activity := .engaged, car := some m.tag, backoffs := 0, stepsLeft := 0 }) ∧
    (st.actuator ≠ none → st.activity = .idle → st.inService = false ∨ s.halt.mode ≠ .armed → t = s) ∧
    (st.actuator ≠ none → st.activity = .engaged → (∃ m ∈ moves, ends m) →
      SameExcept [.stations, .track, .portF, .raised] s t ∧
      t.station i = { st with activity := .retracting, stepsLeft := 0 } ∧
      t.portF = (s.toFieldUrgent st.actuator 0x30 [3, 0]).portF ∧
      t.track.cars = s.track.cars.map fun x =>
        if st.car = some x.tag then { x with done := addService x.done st.service } else x) ∧
    (st.actuator ≠ none → st.activity = .backoff → (∃ m ∈ moves, ends m) →
      t = (s.toFieldUrgent st.actuator 0x30 [3, 0]).setStation i { st with activity := .retracting, stepsLeft := 0 }) ∧
    (st.actuator ≠ none → st.activity = .engaged → (∀ m ∈ moves, ¬ends m) → t = s) ∧
    (st.actuator ≠ none → st.activity = .backoff → (∀ m ∈ moves, ¬ends m) →
      (delta = none → t = s) ∧
      ∀ d, delta = some d →
        (st.stepsLeft ≤ d → t = (s.toField st.actuator 0x30 [1, byte st.active]).setStation i
          { st with activity := .engaged, stepsLeft := 0 }) ∧
        (d < st.stepsLeft → t = s.setStation i { st with stepsLeft := st.stepsLeft - d })) ∧
    (st.actuator ≠ none → st.activity = .retracting → t = s)

/-- The entry eye's CLEAR edge gives an ENTERING tail its length, OVERLENGTH being raised above MAX_CAR_LEN; the wheel
switch calls the tail's roller up to ROLLER_LIMIT (R130, R131; a length above 4095 stands as it is, log 40). -/
def Obligations.RearEdgeAndWheelSwitchActOnTheTail : Prop :=
  (∀ (src : Nat) (s : State), Taken (.entryEyeClear src) s →
    let c := Instr.entryEyeClear src
    let v := (s.without c).setMerge { s.merge with entryBlocked := false }
    (∀ d, s.tailCar = some d → d.state = .entering →
      let w := v.setCars (s.track.cars.dropLast ++ [{ d with length := some d.front, state := .riding }])
      (d.front ≤ s.param .maxCarLen → exec c s = .next w.review) ∧
      (s.param .maxCarLen < d.front → exec c s = .next ((w.raiseCause .overlength
        { CauseDetail.empty with car := some d.tag, arg := some d.front }).review))) ∧
    ((∀ d, s.tailCar = some d → d.state ≠ .entering) →
      (s.halt.mode = .offline → exec c s = .next v.review) ∧
      (s.halt.mode ≠ .offline → exec c s = .next ((v.notify .track (reason 8)).review)))) ∧
  ∀ (src : Nat) (blocked : Bool) (s : State), Taken (.wheelSwitchEdge src blocked) s →
    let c := Instr.wheelSwitchEdge src blocked
    let u := s.without c
    (blocked = false ∨ s.halt.mode = .offline → exec c s = .next u) ∧
    (blocked = true → s.halt.mode ≠ .offline →
      (s.tailCar = none → exec c s = .next (u.notify .track (reason 9))) ∧
      ∀ d, s.tailCar = some d →
        (d.roller = .waiting → d.front ≤ s.param .rollerLimit → exec c s =
          .next ((u.setCars (s.track.cars.dropLast ++ [{ d with roller := .called }])).toField s.driveAddr 0x31
            [3, 0])) ∧
        (d.roller ≠ .waiting ∨ s.param .rollerLimit < d.front →
          exec c s = .next (u.notify .track { reason 9 with tag := some d.tag })))

/-- A check eye's BLOCKED edge finds the head-most car expected there, corrects its travel under the ordering guard,
counts a near-miss beyond TRACK_TOL, and raises TRACK_FAULT beyond SLIP_LIMIT or without a candidate (R133 to R135;
with TRACK_TOL below SLIP_LIMIT, which ARM asks for; a car ahead of unknown rear counts as at 0, log 16; a correction is no
occasion for the arbiter, log 24; an edge of an eye that is not in the check-eye list has no effect, the model's choice,
log 26). -/
def Obligations.SightingCorrectsTheCar : Prop :=
  (∀ (src : Nat) (blocked : Bool) (s : State), Taken (.checkEyeEdge src blocked) s →
    blocked = false ∨ s.halt.mode = .offline ∨ (∀ e ∈ s.track.eyes, e.1 ≠ src) →
    exec (.checkEyeEdge src blocked) s = .next (s.without (.checkEyeEdge src blocked))) ∧
  ∀ (src k pos : Nat) (s : State), Shape s → Taken (.checkEyeEdge src true) s → s.halt.mode ≠ .offline →
    s.track.eyes.findIdx? (fun e => e.1 == src) = some k → s.track.eyes[k]? = some (src, pos) →
    s.param .trackTol < s.param .slipLimit →
    let c := Instr.checkEyeEdge src true
    let u := s.without c
    let eye : CauseDetail := { CauseDetail.empty with node := some src, arg := some k }
    ((∀ x ∈ s.track.cars, x.nextEye ≠ k) → exec c s = .next (u.raiseCause .trackFault eye)) ∧
    ∀ (j : Nat) (x : Car), s.track.cars[j]? = some x → x.nextEye = k →
      (∀ i y, i < j → s.track.cars[i]? = some y → y.nextEye ≠ k) →
      let e : Int := (pos : Int) - x.front
      let near := decide (s.param .trackTol < e.natAbs)
      let seen := { x with nearMiss := if near then min 15 (x.nearMiss + 1) else x.nearMiss }
      let noticed := fun w : State => (near = true →
          Noticed .track { reason 11 with tag := some x.tag, arg := some (k * 256 + (e % 256).toNat) } w) ∧
        (near = false → w.mgmt = s.mgmt)
      let hitsAhead := fun y : Car => 0 < j ∧ s.track.cars[j - 1]? = some y ∧
        ((y.length.map fun n : Nat => (y.front : Int) - n).getD 0) - s.param .collisionGap ≤ (pos : Int)
      let hitsBehind := fun y : Car => s.track.cars[j + 1]? = some y ∧
        ∃ n, x.length = some n ∧ (pos : Int) - n - s.param .collisionGap ≤ (y.front : Int)
      let crush := fun y : Car => (CauseKind.crush, { CauseDetail.empty with car := some x.tag, arg := some y.tag })
      (s.param .slipLimit < e.natAbs → exec c s = .next ((u.setCars (s.track.cars.set j
        { x with nextEye := k + 1 })).raiseCause .trackFault { eye with car := some x.tag })) ∧
      (e.natAbs ≤ s.param .slipLimit →
        ((∃ y, hitsAhead y) ∨ (∃ y, hitsBehind y) → ∃ t : State, exec c s = .next t ∧
          SameExcept [.track, .raised, .mgmt, .handed] s t ∧ noticed t ∧
          t.track.cars = s.track.cars.set j { seen with nextEye := k + 1 } ∧
          (∀ y, hitsAhead y → t.raised = s.raised ++ [crush y]) ∧
          (∀ y, (∀ z, ¬hitsAhead z) → hitsBehind y → t.raised = s.raised ++ [crush y])) ∧
        ((∀ y, ¬hitsAhead y) → (∀ y, ¬hitsBehind y) → ∃ w : State,
          SameExcept [.track, .mgmt, .handed] s w ∧ noticed w ∧
          w.track.cars = s.track.cars.set j { seen with front := pos } ∧
          let m : Move :=
            { tag := x.tag, front0 := x.front, front1 := pos, rear0 := x.length.map fun n : Nat => (x.front : Int) - n,
              rear1 := x.length.map fun n : Nat => (pos : Int) - n }
          let v := if pos = x.front then w else w.handMoves [m] none
          exec c s = .next (v.setCars (v.track.cars.modify j fun y => { y with nextEye := k + 1 }))))

/-- The exit eye's BLOCKED edge matches the head car, which becomes EXITING with its travel corrected to EXIT_POS under
the guard toward the car behind; an unexpected edge raises TRACK_FAULT or is noticed as repeated (R135, R136; the correction
is no occasion for the arbiter, log 24; a head still ENTERING is matched without a length, log 34). -/
def Obligations.ExitEyeMatchesTheHead : Prop :=
  ∀ (src : Nat) (s : State), Shape s → Taken (.exitEyeBlocked src) s →
    let c := Instr.exitEyeBlocked src
    let v := (s.without c).setTrack { s.track with exitBlocked := true }
    let fault : CauseDetail := { CauseDetail.empty with node := some src, arg := some 8 }
    let pos := s.param .exitPos
    (s.halt.mode = .offline → exec c s = .next v) ∧
    (s.halt.mode ≠ .offline → s.track.cars = [] → exec c s = .next (v.raiseCause .trackFault fault)) ∧
    ∀ (x : Car) (rest : List Car), s.halt.mode ≠ .offline → s.track.cars = x :: rest →
      let e : Int := (pos : Int) - x.front
      let near := decide (s.param .trackTol < e.natAbs)
      let seen := { x with nearMiss := if near then min 15 (x.nearMiss + 1) else x.nearMiss }
      let noticed := fun w : State => (near = true →
          Noticed .track { reason 11 with tag := some x.tag, arg := some (8 * 256 + (e % 256).toNat) } w) ∧
        (near = false → w.mgmt = s.mgmt)
      let hits := fun y : Car => rest.head? = some y ∧
        ∃ n, x.length = some n ∧ (pos : Int) - n - s.param .collisionGap ≤ (y.front : Int)
      (s.param .slipLimit < e.natAbs →
        exec c s = .next (v.raiseCause .trackFault { fault with car := some x.tag })) ∧
      (e.natAbs ≤ s.param .slipLimit → x.state = .exiting → exec c s = .next (v.notify .track (reason 12))) ∧
      (e.natAbs ≤ s.param .slipLimit → x.state ≠ .exiting →
        (∀ y, hits y → ∃ t : State, exec c s = .next t ∧ SameExcept [.track, .raised, .mgmt, .handed] s t ∧
          noticed t ∧ t.track.exitBlocked = true ∧ t.track.cars = { seen with state := .exiting } :: rest ∧
          t.raised = s.raised ++ [(.crush, { CauseDetail.empty with car := some x.tag, arg := some y.tag })]) ∧
        ((∀ y, ¬hits y) → ∃ w : State, SameExcept [.track, .mgmt, .handed] s w ∧ noticed w ∧
          w.track.exitBlocked = true ∧ w.track.cars = { seen with front := pos } :: rest ∧
          let m : Move :=
            { tag := x.tag, front0 := x.front, front1 := pos, rear0 := x.length.map fun n : Nat => (x.front : Int) - n,
              rear1 := x.length.map fun n : Nat => (pos : Int) - n }
          let z := if pos = x.front then w else w.handMoves [m] none
          exec c s = .next (z.setCars (z.track.cars.modify 0 fun y => { y with state := .exiting }))))

/-- A car leaves at the exit eye's CLEAR edge, or in HALTED by REMOVE_CAR: every station is released from it, its
completion report is offered to Port S, its record leaves the list and its BOUND order is freed (R137 to R139, R153; a
released station keeps its backoff fields, log 25). -/
def Obligations.CarsLeaveTheTunnel : Prop :=
  let left := fun (x : Car) (removed : Bool) (s w : State) =>
    w.portS = (s.toSite 0x42 (completion x removed)).portS ∧
    (∀ i, i < 24 → (s.station i).car = some x.tag → w.station i = { s.station i with
      car := none, activity := if Station.working (s.station i) then .retracting else (s.station i).activity }) ∧
    (∀ i, i < 24 → (s.station i).car ≠ some x.tag → w.station i = s.station i) ∧
    (∀ i, i < 24 → (s.station i).car = some x.tag → Station.working (s.station i) = true →
      (Mgmt.notice w.mgmt .station).pending = true) ∧
    (x.order = none → w.sales = s.sales) ∧
    (∀ tag r, x.order = some tag → r < 40 → (s.order r).state = .bound → (s.order r).tag = tag →
      (∀ q, q < r → (s.order q).state ≠ .bound ∨ (s.order q).tag ≠ tag) →
      w.order r = .blank ∧ w.sales.free = r :: s.sales.free ∧ (∀ q, q ≠ r → w.order q = s.order q))
  (∀ (src : Nat) (s : State), Shape s → Taken (.exitEyeClear src) s →
    let c := Instr.exitEyeClear src
    let v := (s.without c).setTrack { s.track with exitBlocked := false }
    (∀ x rest, s.track.cars = x :: rest → x.state = .exiting → ∃ w : State, exec c s = .next w.review ∧
      w.track.cars = rest ∧ w.track.exitBlocked = false ∧ left x false s w) ∧
    ((∀ x rest, s.track.cars = x :: rest → x.state ≠ .exiting) →
      (s.halt.mode = .offline → exec c s = .next v) ∧
      (s.halt.mode ≠ .offline → exec c s = .next (v.notify .track (reason 13))))) ∧
  ∀ (seq tag : Byte) (more : List Byte) (s : State), Shape s → Taken (.removeCar seq (tag :: more)) s →
    let c := Instr.removeCar seq (tag :: more)
    let u := s.without c
    (s.halt.mode ≠ .halted → exec c s = .next (u.reply seq 12 .wrongMode [])) ∧
    (s.halt.mode = .halted → (∀ x ∈ s.track.cars, x.tag ≠ tag.toNat) →
      exec c s = .next (u.reply seq 12 .notFound [])) ∧
    (s.halt.mode = .halted → ∀ before x after, s.track.cars = before ++ x :: after → x.tag = tag.toNat →
      (∀ y ∈ before, y.tag ≠ tag.toNat) → ∃ w : State, exec c s = .next (w.review.reply seq 12 .ok []) ∧
        w.track.cars = before ++ after ∧ left x true s w)

/-- A DRIVE_STATE is recorded, its roller flag judged first, and acts on the conveyor state by Table 6-2 (R118,
R132). -/
def Obligations.DriveReportsFollowTable : Prop :=
  ∀ (src : Nat) (report : DriveReport) (level : Nat) (roller : Bool) (s : State), Shape s →
    Taken (.driveState src report level roller) s →
    let c := Instr.driveState src report level roller
    let confirmed := roller = true ∧ s.track.roller = false
    ∃ v : State, SameExcept [.track, .mgmt, .handed] s v ∧
      (∃ cars, v.track = { s.track with
          lastReport := some report, roller := roller, cars := cars,
          reported := if report = .running then level else s.track.reported } ∧
        (¬confirmed → cars = s.track.cars) ∧
        (confirmed → (∀ x ∈ s.track.cars, x.roller ≠ .called) → cars = s.track.cars) ∧
        (confirmed → ∀ before x after, s.track.cars = before ++ x :: after → x.roller = .called →
          (∀ y ∈ before, y.roller ≠ .called) → cars = before ++ { x with roller := .engaged } :: after)) ∧
      (confirmed → (∀ x ∈ s.track.cars, x.roller ≠ .called) → Noticed .track (reason 10) v) ∧
      (¬confirmed ∨ (∃ x ∈ s.track.cars, x.roller = .called) → v.mgmt = s.mgmt) ∧
      (report = .fault →
        exec c s = .next (v.raiseCause .driveFault { CauseDetail.empty with node := some src })) ∧
      (report = .running →
        (s.track.conveyor = .stopped → s.halt.mode = .armed → exec c s = .next
          (((v.notify .track (reason 5)).setTrack { v.track with
            conveyor := .stopping, stopWait := some (s.param .stopWait), idle := none }).toFieldUrgent s.driveAddr 0x31
              [2, 0])) ∧
        (s.track.conveyor = .stopped → s.halt.mode ≠ .armed → exec c s = .next v) ∧
        (s.track.conveyor = .starting → exec c s =
          .next ((v.setTrack { v.track with conveyor := .moving, startWait := none }).judgeSpeed.review)) ∧
        (s.track.conveyor = .moving ∨ s.track.conveyor = .stopping → exec c s = .next v)) ∧
      (report = .stopped →
        (s.track.conveyor = .stopped ∨ s.track.conveyor = .starting → exec c s = .next v) ∧
        (s.track.conveyor = .moving →
          let t := (v.setTrack { v.track with conveyor := .stopped, idle := none }).notify .track (reason 6)
          let nobody := s.track.cars = [] ∧ s.merge.grant = none ∧ ∀ o ∈ s.sales.orders, o.state ≠ .staged
          (nobody → exec c s = .next t) ∧ (¬nobody → exec c s = .next t.takeStart)) ∧
        (s.track.conveyor = .stopping →
          let t := v.setTrack { v.track with conveyor := .stopped, stopWait := none, pendingStart := false }
          (s.track.pendingStart = true → s.halt.mode = .armed → exec c s = .next t.takeStart) ∧
          (s.track.pendingStart = false ∨ s.halt.mode ≠ .armed → exec c s = .next t)))

/-- A start request taken in ARMED starts a STOPPED conveyor with DRIVE_CMD RUN at the speed level, is remembered while
STOPPING, and changes nothing while STARTING, MOVING or outside ARMED; START_WAIT and STOP_WAIT expire into causes, the
idle timer into a stop (R117, R119, R122; the start request is one flag, log 5). -/
def Obligations.StartRequestAndConveyorTimers : Prop :=
  (∀ s : State,
    (s.halt.mode ≠ .armed ∨ s.track.conveyor = .starting ∨ s.track.conveyor = .moving → s.takeStart = s) ∧
    (s.halt.mode = .armed → s.track.conveyor = .stopping →
      s.takeStart = s.setTrack { s.track with pendingStart := true }) ∧
    (s.halt.mode = .armed → s.track.conveyor = .stopped → s.takeStart = (s.setTrack { s.track with
        conveyor := .starting, drift := 0, commanded := s.speedLevel,
        startWait := some (s.param .startWait) }).toField s.driveAddr 0x31 [1, byte s.speedLevel])) ∧
  ∀ s : State, s.inReset = false →
    let drive := { CauseDetail.empty with node := s.driveAddr }
    (s.startRequested = true → exec .startRequest s = .next (s.setStartRequested false).takeStart) ∧
    (s.track.startWait = some 0 → exec .startWaitExpiry s =
      .next ((s.setTrack { s.track with startWait := none }).raiseCause .driveNoStart drive)) ∧
    (s.track.stopWait = some 0 → exec .stopWaitExpiry s =
      .next ((s.setTrack { s.track with stopWait := none }).raiseCause .driveNoStop drive)) ∧
    (s.track.idle = some 0 → exec .idleTimerExpiry s = .next ((s.setTrack { s.track with
      conveyor := .stopping, stopWait := some (s.param .stopWait), idle := none }).toFieldUrgent s.driveAddr 0x31
        [2, 0]))

/-! ## Stations -/

/-- An actuator's report moves the station by Table 7-2, an uncommanded closing being retracted with notice, and a
RETRACTED or PARKED report confirms an awaited station; a FAULT puts the station out of service, with the withdrawal
cascade where its service is lost (R69, R149, R154, R155, R169). -/
def Obligations.ActuatorReportsMoveTheStation : Prop :=
  (∀ (i : Nat) (rep : ActReport) (s : State), i < 24 → Shape s → Taken (.actState i rep) s →
    let c := Instr.actState i rep
    let u := s.without c
    let st := s.station i
    let w := if st.activity = .retracting then
      u.setStation i { st with activity := .idle, car := none, backoffs := 0, stepsLeft := 0 } else u
    (st.actuator = none → exec c s = .next u) ∧
    (st.actuator ≠ none → rep = .engaged →
      (st.activity = .idle → s.halt.mode ≠ .offline → exec c s =
        .next (((u.notify .station { reason 5 with place := some i }).toFieldUrgent st.actuator 0x30
          [3, 0]).setStation i { st with activity := .retracting })) ∧
      (st.activity ≠ .idle ∨ s.halt.mode = .offline → exec c s = .next u)) ∧
    (st.actuator ≠ none → rep = .retracted ∨ rep = .parked →
      (s.halt.mode ≠ .halting ∨ i ∉ s.halt.awaitStations → exec c s = .next w) ∧
      (s.halt.mode = .halting → i ∈ s.halt.awaitStations → exec c s =
        .next (w.setHalt { s.halt with awaitStations := s.halt.awaitStations.erase i }).endWait))) ∧
  ∀ (i : Nat) (s : State), i < 24 → Shape s → Taken (.actStateFault i) s →
    let c := Instr.actStateFault i
    let st := s.station i
    (st.actuator = none → exec c s = .next (s.without c)) ∧
    (st.actuator ≠ none → ∃ t : State, exec c s = .next t ∧ t.halt = s.halt ∧
      t.station i =
        { st with inService := false, activity := .idle, car := none, backoffs := 0, stepsLeft := 0 } ∧
      (∀ k, k ≠ i → t.station k = s.station k) ∧ Noticed .station { reason 1 with place := some i } t ∧
      t.portF = (if st.activity = .engaged ∨ st.activity = .backoff then
        (s.toFieldUrgent st.actuator 0x30 [3, 0]).portF else s.portF) ∧
      (st.inService = false ∨ t.covered st.service = true → t.sales = s.sales) ∧
      (st.inService = true → t.covered st.service = false →
        let newly := fun o : Order => (o.state == .queued || o.state == .staged || o.state == .granted) &&
          hasService o.services st.service && !o.degraded
        t.sales = { s.sales with
          orders := s.sales.orders.map fun o => if newly o then { o with degraded := true } else o } ∧
        Noticed .sales { reason 4 with place := some st.service, arg := some (s.sales.orders.countP newly) } t))

/-- A CURRENT of a used TOUCH station is recorded; above the limit it backs an ENGAGED brush off, raising BRUSH_BIND
at the bind limit, and puts an IDLE station in service out of it as jammed; STATION_SERVICE takes a used station out of
service, PARK following in every case, or back in while its actuator is heard (R150, R152, R155, R156; a station taken out
at work keeps its car tag and backoff fields, log 25; a value above 2000 is recorded as it came, log 33). -/
def Obligations.CurrentAndServiceMoveTheStation : Prop :=
  (∀ (i value : Nat) (s : State), i < 24 → Shape s → Taken (.current i value) s →
    let c := Instr.current i value
    let u := s.without c
    let st := s.station i
    let watched := st.actuator ≠ none ∧ st.kind = .touch
    let n := min 7 (st.backoffs + 1)
    let v := (u.toField st.actuator 0x30 [2, 0]).setStation i
      { st with lastCurrent := value, activity := .backoff, backoffs := n, stepsLeft := st.backLen }
    (¬watched → exec c s = .next u) ∧
    (watched → st.activity = .engaged → st.limit < value →
      (n < st.bind → exec c s = .next v) ∧
      (st.bind ≤ n → exec c s = .next (v.raiseCause .brushBind
        { CauseDetail.empty with station := some i, car := st.car }))) ∧
    (watched → st.activity = .idle → st.limit < value → st.inService = true → ∃ t : State,
      exec c s = .next t ∧ t.station i = { st with
        lastCurrent := value, inService := false, car := none, backoffs := 0, stepsLeft := 0 } ∧
      (∀ k, k ≠ i → t.station k = s.station k) ∧ t.portF = s.portF ∧
      Noticed .station { reason 2 with place := some i } t) ∧
    (watched → value ≤ st.limit ∨ st.activity = .backoff ∨ st.activity = .retracting ∨
        st.activity = .idle ∧ st.inService = false →
      exec c s = .next (u.setStation i { st with lastCurrent := value }))) ∧
  ∀ (seq b dir : Byte) (rest : List Byte) (s : State), Shape s → Taken (.stationService seq (b :: dir :: rest)) s →
    let c := Instr.stationService seq (b :: dir :: rest)
    let u := s.without c
    let i := b.toNat
    let st := s.station i
    (23 < i → exec c s = .next (u.reply seq 11 .badIndex [b])) ∧
    (i ≤ 23 → dir ≠ 1 → dir ≠ 2 → exec c s = .next (u.reply seq 11 .badValue [])) ∧
    (i ≤ 23 → dir = 1 ∨ dir = 2 → st.actuator = none → exec c s = .next (u.reply seq 11 .notFound [])) ∧
    ∀ a, i ≤ 23 → st.actuator = some a →
      (dir = 1 → (s.node a).silent = true → exec c s = .next (u.reply seq 11 .conditionPresent [])) ∧
      (dir = 1 → (s.node a).silent = false →
        exec c s = .next ((u.setStation i { st with inService := true }).reply seq 11 .ok [])) ∧
      (dir = 2 → st.inService = false → exec c s =
        .next ((u.toField (some a) 0x30 [4, 0]).reply seq 11 .ok [])) ∧
      (dir = 2 → st.inService = true → ∃ w : State, exec c s =
          .next ((w.toField (some a) 0x30 [4, 0]).reply seq 11 .ok []) ∧
        w.station i = { st with
          inService := false,
          activity := if st.activity = .engaged ∨ st.activity = .backoff then .retracting else st.activity } ∧
        (∀ k, k ≠ i → w.station k = s.station k) ∧
        w.portF = (if st.activity = .engaged ∨ st.activity = .backoff then
          (s.toFieldUrgent (some a) 0x30 [3, 0]).portF else s.portF) ∧
        (w.covered st.service = true → w.sales = s.sales ∧ w.mgmt = s.mgmt))

/-! ## Halting and recovery -/

/-- A cause is taken by the mode: outside ARMED and RECOVERING it joins the set with its detail and notice HALT, and
the first cause, the awaiting set and the timers stand; a raised cause, a STOP ACTIVE, the ESTOP line's assertion and
FORCE_HALT are each taken so (R163 to R165, R174; a raised cause waits in the model's own list, log 4). -/
def Obligations.CauseIsTakenByMode : Prop :=
  (∀ (k : CauseKind) (d : CauseDetail) (s : State),
    s.halt.mode = .offline ∨ s.halt.mode = .halting ∨ s.halt.mode = .halted →
    s.takeCause k d = (s.setHalt { s.halt with
        causes := if k ∈ s.halt.causes then s.halt.causes else s.halt.causes ++ [k],
        lastDetails := s.halt.lastDetails.set (causeNumber k - 1) (some d) }).notify .halt
      { reason 0 with arg := some (causeNumber k) }) ∧
  (∀ (k : CauseKind) (d : CauseDetail) (s : State), s.inReset = false → (k, d) ∈ s.raised →
    exec (.raiseCause k d) s = .next ((s.setRaised (s.raised.erase (k, d))).takeCause k d)) ∧
  (∀ (src : Nat) (s : State), Taken (.stopActive src) s → ∃ active,
    exec (.stopActive src) s = .next (((s.without (.stopActive src)).setHalt
      { s.halt with estopActive := active }).takeCause .estopNode { CauseDetail.empty with node := some src }) ∧
    ∀ a, a ∈ active ↔ a = src ∨ a ∈ s.halt.estopActive) ∧
  (∀ s : State, s.inReset = false →
    (s.halt.estopLine = false → exec .estopLineAsserted s =
      .next ((s.setHalt { s.halt with estopLine := true }).takeCause .estopLine CauseDetail.empty)) ∧
    (s.halt.estopLine = true → exec .estopLineAsserted s = .next s)) ∧
  ∀ (seq : Byte) (args : List Byte) (s : State), Taken (.forceHalt seq args) s →
    exec (.forceHalt seq args) s =
      .next (((s.without (.forceHalt seq args)).takeCause .manual CauseDetail.empty).reply seq 6 .ok [])

/-- Halt entry stops the whole tunnel in one event: PERMIT off, HALT_BCAST and DRIVE STOP heading an empty urgent queue
behind a frame on the line, the conveyor STOPPING,
busy stations retracted, the grant withdrawn, open gates closed, every car flagged, and the awaiting set formed; with
nobody to await the halt is HALTED at once (R120, R157, R165 to R167; log 15). -/
def Obligations.HaltEntryStopsTheTunnel : Prop :=
  ∀ (k : CauseKind) (d : CauseDetail) (s : State), Shape s →
    s.halt.mode = .armed ∨ s.halt.mode = .recovering →
    let t := s.takeCause k d
    let busy := (List.range 24).filter fun i => (s.station i).actuator.isSome && (s.station i).activity != .idle
    let drive := s.track.conveyor != .stopped
    t.halt.permit = false ∧ t.halt.first = some (k, d) ∧ t.halt.hold = none ∧
    t.halt.causes = (if k ∈ s.halt.causes then s.halt.causes else s.halt.causes ++ [k]) ∧
    t.halt.lastDetails = s.halt.lastDetails.set (causeNumber k - 1) (some d) ∧
    t.halt.awaitDrive = drive ∧ t.halt.awaitStations = busy ∧
    (drive = true ∨ busy ≠ [] → t.halt.mode = .halting ∧ t.halt.bcast = some (s.param .bcastEvery) ∧
      t.halt.haltWait = some (s.param .haltWait) ∧
      Noticed .halt { reason 3 with arg := some (causeNumber k) } t) ∧
    (drive = false → busy = [] → t.halt.mode = .halted ∧ t.halt.bcast = none ∧ t.halt.haltWait = none ∧
      Noticed .halt (reason 4) t) ∧
    t.track = { s.track with
      conveyor := if s.track.conveyor = .stopped then .stopped else .stopping, startWait := none, stopWait := none,
      idle := none, pendingStart := false,
      cars := s.track.cars.map fun c => { c with haltedDuring := true } } ∧
    (∀ i, i < 24 → t.station i =
      if i ∈ busy then { s.station i with activity := .retracting, stepsLeft := 0 } else s.station i) ∧
    t.merge.grant = none ∧ (s.merge.grant ≠ none → t.merge.admitTimer = none) ∧
    t.merge.lastGranted = s.merge.lastGranted ∧
    (∀ l, l < 3 → (s.mergeLane l).gate = .opening ∨ (s.mergeLane l).gate = .isOpen →
      (t.mergeLane l).gate = .closing) ∧
    t.sales.lanes = s.sales.lanes ∧ t.sales.free = s.sales.free ∧
    (s.merge.grant = none → t.sales = s.sales) ∧
    (∀ g r, s.merge.grant = some g → s.headOrder g.lane = some r → r < 40 →
      t.order r = { s.order r with state := if (s.mergeLane g.lane).eye then .staged else .queued }) ∧
    (∃ more, t.raised = s.raised ++ more ∧ ∀ e ∈ more, e.1 = .urgentOverflow) ∧
    (∀ a, s.portF.line ≠ none → s.portF.urgent = [] → s.driveAddr = some a →
      t.portF.urgent.take 2 = [ownFrame 63 0x33 [byte (causeNumber k)], ownFrame a 0x31 [2, 0]])

/-- CLEAR_CAUSE takes a latched kind out of the set unless its condition holds, its last detail and the awaiting set
kept (R171). -/
def Obligations.ClearCauseNeedsTheConditionGone : Prop :=
  ∀ (seq n : Byte) (rest : List Byte) (s : State), Taken (.clearCause seq (n :: rest)) s →
    let c := Instr.clearCause seq (n :: rest)
    let u := s.without c
    (n = 0 ∨ 22 < n.toNat → exec c s = .next (u.reply seq 7 .badValue [])) ∧
    ∀ k, n.toNat = causeNumber k →
      let present := k = .estopLine ∧ s.halt.estopLine = true ∨
        k = .estopNode ∧ (∃ a ∈ s.halt.estopActive, (s.node a).role = .estop) ∨
        k = .nodeSilent ∧ (∃ r ∈ s.nodes, r.silent = true ∧
          r.role ∈ [.drive, .estop, .entryEye, .exitEye, .checkEye, .wheelSwitch]) ∨
        k = .driveFault ∧ s.track.lastReport = some .fault
      (k ∉ s.halt.causes → exec c s = .next (u.reply seq 7 .notFound [])) ∧
      (k ∈ s.halt.causes → present → exec c s = .next (u.reply seq 7 .conditionPresent [])) ∧
      (k ∈ s.halt.causes → ¬present → exec c s =
        .next ((u.setHalt { s.halt with causes := s.halt.causes.erase k }).reply seq 7 .ok []))

/-- A STOP RELEASED and the ESTOP line's return end their conditions alone; the drive's confirmation, the broadcast's
repetition and the end of the wait bring HALTING to HALTED, and the halt wait's expiry forces it with STOP_UNCONFIRMED,
the awaited stations out of service and the conveyor STOPPED (R164, R168 to R170). -/
def Obligations.HaltWaitIsConfirmedOrForced : Prop :=
  (∀ (src : Nat) (s : State), Taken (.stopReleased src) s → exec (.stopReleased src) s =
    .next ((s.without (.stopReleased src)).setHalt
      { s.halt with estopActive := s.halt.estopActive.filter fun a => a != src })) ∧
  (∀ s : State, s.inReset = false →
    exec .estopLineDeasserted s = .next (s.setHalt { s.halt with estopLine := false })) ∧
  (∀ s : State, Shape s →
    (s.halt.awaitDrive = true ∨ s.halt.awaitStations ≠ [] → s.endWait = s) ∧
    (s.halt.awaitDrive = false → s.halt.awaitStations = [] →
      s.endWait.halt = { s.halt with mode := .halted, permit := false, bcast := none, haltWait := none } ∧
      Noticed .halt (reason 4) s.endWait ∧ SameExcept [.halt, .portF, .portS, .mgmt] s s.endWait)) ∧
  (∀ (src : Nat) (report : DriveReport) (s : State), Taken (.haltDriveConfirm src report) s →
    let c := Instr.haltDriveConfirm src report
    let u := s.without c
    (report = .stopped → s.halt.mode = .halting → s.halt.awaitDrive = true → exec c s =
      .next ((u.setHalt { s.halt with awaitDrive := false }).setTrack { s.track with
        conveyor := .stopped, stopWait := none, pendingStart := false }).endWait) ∧
    (report ≠ .stopped ∨ s.halt.mode ≠ .halting ∨ s.halt.awaitDrive = false → exec c s = .next u)) ∧
  (∀ s : State, s.inReset = false → s.halt.bcast = some 0 → ∃ t : State, exec .broadcastTimerExpiry s = .next t ∧
    SameExcept [.halt, .portF, .raised] s t ∧ t.halt = { s.halt with bcast := some (s.param .bcastEvery) } ∧
    ∀ k d, s.halt.first = some (k, d) →
      t.portF = (s.offerUrgent .f (ownFrame 63 0x33 [byte (causeNumber k)])).portF) ∧
  ∀ s : State, Shape s → s.inReset = false → s.halt.mode = .halting → s.halt.haltWait = some 0 →
    let h := s.halt
    ∃ t : State, exec .haltWaitExpiry s = .next t ∧
      t.halt = { h with
        mode := .halted, permit := false,
        causes := if CauseKind.stopUnconfirmed ∈ h.causes then h.causes else h.causes ++ [.stopUnconfirmed],
        lastDetails := h.lastDetails.set 18 (some
          { node := if h.awaitDrive then s.driveAddr else none, station := h.awaitStations.min?, car := none,
            arg := some h.awaitStations.length }),
        awaitDrive := false, awaitStations := [], bcast := none, haltWait := none } ∧
      (∀ i, i < 24 → t.station i = if i ∈ h.awaitStations then
        { s.station i with inService := false, activity := .idle, car := none, backoffs := 0, stepsLeft := 0 }
        else s.station i) ∧
      t.track = (if h.awaitDrive then { s.track with conveyor := .stopped, stopWait := none, pendingStart := false }
        else s.track) ∧
      Noticed .halt { reason 4 with arg := some 19 } t

/-- RELEASE takes HALTED with no cause left to RECOVERING, WARN urgent and open gates closed; the hold timer's expiry
arms the tunnel, starts the conveyor for the cars in the list and engages each idle station on the head-most car whose
window is open, its active pace kept (R109, R120, R158, R172, R173). -/
def Obligations.ReleaseHoldAndResume : Prop :=
  (∀ (seq : Byte) (args : List Byte) (s : State), Shape s → Taken (.release seq args) s →
    let c := Instr.release seq args
    let u := s.without c
    (s.halt.mode ≠ .halted → exec c s = .next (u.reply seq 5 .wrongMode [])) ∧
    (s.halt.mode = .halted → s.halt.causes ≠ [] → exec c s = .next (u.reply seq 5 .causeLatched [])) ∧
    (s.halt.mode = .halted → s.halt.causes = [] → ∃ w : State, exec c s = .next (w.reply seq 5 .ok []) ∧
      w.halt = { s.halt with mode := .recovering, permit := false, hold := some (s.param .holdTicks) } ∧
      (∀ l, l < 3 → w.mergeLane l = if (s.mergeLane l).gate = .opening ∨ (s.mergeLane l).gate = .isOpen then
        { s.mergeLane l with gate := .closing } else s.mergeLane l) ∧
      w.track = s.track ∧ w.stations = s.stations ∧ Noticed .halt (reason 5) w ∧
      (s.portF.line ≠ none → s.portF.urgent.length < 16 →
        w.portF.urgent = s.portF.urgent ++ [ownFrame 63 0x34 [byte (s.param .holdTicks)]]))) ∧
  ∀ s : State, Shape s → s.inReset = false → s.halt.hold = some 0 →
    let opened := fun (st : Station) (x : Car) => (st.position : Int) + st.startOff ≤ (x.front : Int) ∧
      (∀ n, x.length = some n → (x.front : Int) - n < (st.position : Int) + st.endOff) ∧
      hasService x.services st.service = true ∧ hasService x.done st.service = false
    ∃ w : State, exec .holdTimerExpiry s = .next w.review ∧
      w.halt = { s.halt with mode := .armed, permit := true, hold := none } ∧ w.track.drift = 0 ∧
      w.track.cars = s.track.cars ∧ Noticed .halt (reason 2) w ∧
      (s.track.conveyor = .stopped → s.track.cars ≠ [] →
        w.track.conveyor = .starting ∧ w.track.startWait = some (s.param .startWait)) ∧
      (s.track.cars = [] → w.track = { s.track with drift := 0 }) ∧
      ∀ i, i < 24 →
        let st := s.station i
        let ready := st.actuator ≠ none ∧ st.activity = .idle ∧ st.inService = true
        (¬ready ∨ (∀ x ∈ s.track.cars, ¬opened st x) → w.station i = st) ∧
        (ready → ∀ before x after, s.track.cars = before ++ x :: after → opened st x →
          (∀ y ∈ before, ¬opened st y) →
          w.station i = { st with activity := .engaged, car := some x.tag, backoffs := 0, stepsLeft := 0 })

/-- ARM in OFFLINE with no cause and no failing check builds the check-eye list, opens the present lanes and arms the
tunnel; DISARM closes the lanes with QUOTE_REPLY TUNNEL_OFFLINE for each open quote, withdraws the grant, closes open gates
and returns to OFFLINE, and is refused while cars stand or the ARMED conveyor is not STOPPED (R50, R109, R120, R133, R175,
R176; the order of the lanes is the model's choice, log 31, and so is the sweep before the replies, log 39). -/
def Obligations.ArmAndDisarmChangeTheMode : Prop :=
  (∀ (seq : Byte) (args : List Byte) (s : State), Shape s → Taken (.arm seq args) s →
    let c := Instr.arm seq args
    let u := s.without c
    (s.halt.mode ≠ .offline → exec c s = .next (u.reply seq 3 .wrongMode [])) ∧
    (s.halt.mode = .offline → s.halt.causes ≠ [] → exec c s = .next (u.reply seq 3 .causeLatched [])) ∧
    (s.halt.mode = .offline → s.halt.causes = [] → ∀ d, s.armRefusal = some d →
      exec c s = .next (u.reply seq 3 .badValue d)) ∧
    (s.halt.mode = .offline → s.halt.causes = [] → s.armRefusal = none → ∃ w : State,
      exec c s = .next (w.review.reply seq 3 .ok []) ∧
      w.halt = { s.halt with mode := .armed, permit := true } ∧ w.track.drift = 0 ∧ w.track.cars = s.track.cars ∧
      w.track.eyes.Pairwise (fun e f => e.2 ≤ f.2) ∧
      (∀ a pos, (a, pos) ∈ w.track.eyes ↔ a < 64 ∧ (s.node a).role = .checkEye ∧ (s.node a).position = pos) ∧
      (∀ l, l < 3 → w.lane l = { s.lane l with isOpen := s.present l || (s.lane l).isOpen }) ∧
      w.merge = s.merge ∧ Noticed .halt (reason 2) w)) ∧
  ∀ (seq : Byte) (args : List Byte) (s : State), Shape s → Taken (.disarm seq args) s →
    let c := Instr.disarm seq args
    let u := s.without c
    let barred := s.track.cars ≠ [] ∨ s.halt.mode = .armed ∧ s.track.conveyor ≠ .stopped
    (s.halt.mode ≠ .armed → s.halt.mode ≠ .halted → exec c s = .next (u.reply seq 4 .wrongMode [])) ∧
    (s.halt.mode = .armed ∨ s.halt.mode = .halted →
      (barred → exec c s = .next (u.reply seq 4 .conditionPresent [])) ∧
      (¬barred → ∃ w : State, exec c s = .next (w.reply seq 4 .ok []) ∧
        w.halt = { s.halt with mode := .offline, permit := false } ∧ w.track = s.track ∧
        (∀ l, l < 3 → (w.lane l).isOpen = false ∧ (w.lane l).queue = (s.lane l).queue ∧
          ((s.lane l).isOpen = true → (w.slot l).state = .empty ∧
            ((s.slot l).state ≠ .empty → (w.slot l).life = none))) ∧
        w.merge.grant = none ∧ (s.merge.grant ≠ none → w.merge.admitTimer = none) ∧
        (∀ l, l < 3 → (s.mergeLane l).gate = .opening ∨ (s.mergeLane l).gate = .isOpen →
          (w.mergeLane l).gate = .closing) ∧
        (let told := (s.enterMode .offline).answerLanes fun l =>
            if (s.lane l).isOpen = true ∧ (s.slot l).state ≠ .empty then some (.tunnelOffline, 0) else none
          let first := (s.merge.grant.map (·.lane)).toList
          let shut := first ++ [0, 1, 2].filter fun l =>
            l ∉ first ∧ ((s.mergeLane l).gate = .opening ∨ (s.mergeLane l).gate = .isOpen)
          w.portF = (shut.foldl (fun (v : State) l => v.toField (v.gateAddr l) 0x32 [2]) told).portF) ∧
        Noticed .halt (reason 1) w))

/-- The ARM checks of Table 8-5: no check fails exactly when the configuration makes a whole tunnel; a failing SLIP_ORDER,
QUEUE_ORDER or ROLE_COUNT of the encoder is named, in that order, with its table, index and role (R144, R175, Table
10-10). -/
def Obligations.ArmChecksTheConfiguration : Prop :=
  ∀ s : State, Shape s →
    let lone := fun r : Role => ∃ a, a < 64 ∧ (s.node a).role = r ∧ ∀ b, b < 64 → (s.node b).role = r → b = a
    let slip := s.param .trackTol < s.param .slipLimit
    let queue := s.param .resumeAt < s.param .pauseAt
    let eyes := s.nodes.countP fun n => n.role == .checkEye
    (s.armRefusal = none ↔ slip ∧ queue ∧
      (∀ r ∈ [Role.encoder, .drive, .entryEye, .exitEye, .wheelSwitch], lone r) ∧
      (∀ a, a < 64 → (s.node a).role = .wheelSwitch → (s.node a).position < s.param .rollerLimit) ∧
      eyes ≤ 8 ∧
      (∀ a b, a < 64 → b < 64 → (s.node a).role = .checkEye → (s.node b).role = .checkEye →
        (s.node a).position = (s.node b).position → a = b) ∧
      (∀ a, a < 64 → (s.node a).role = .checkEye → (s.node a).position < s.param .exitPos) ∧
      (∀ i, i < 24 → (s.station i).actuator ≠ none → 1 ≤ ((s.station i).position : Int) + (s.station i).startOff ∧
        1 ≤ ((s.station i).position : Int) + (s.station i).endOff ∧ (s.station i).position < s.param .exitPos) ∧
      (∀ i a, i < 24 → (s.station i).actuator = some a → (s.node a).role = .station ∧ (s.node a).station = i) ∧
      (∀ a, a < 64 → (s.node a).role = .station → (s.station (s.node a).station).actuator = some a) ∧
      ∀ a, a < 64 → (s.node a).role ∈ [.encoder, .drive, .estop, .entryEye, .exitEye, .checkEye, .wheelSwitch] →
        (s.node a).silent = false) ∧
    (¬slip → s.armRefusal = some [1, 3, 6, 0]) ∧
    (slip → ¬queue → s.armRefusal = some [2, 3, 18, 0]) ∧
    (slip → queue → (∀ a, a < 64 → (s.node a).role ≠ .encoder) → s.armRefusal = some [3, 1, 64, 5]) ∧
    (slip → queue → ∀ a b, a < b → b < 64 → (s.node a).role = .encoder → (s.node b).role = .encoder →
      (∀ n, n < b → n ≠ a → (s.node n).role ≠ .encoder) → s.armRefusal = some [3, 1, byte b, 5])

/-! ## Management -/

/-- READ_ENTRY returns the image of the named entry, refuses an unknown table or index, and changes nothing else;
WRITE_ENTRY of an unknown or read-only table and an unknown request are refused (R180 to R182, Tables 9-3, 10-6,
10-9); the images of the writable tables and of CAUSE have the lengths the spec gives. -/
def Obligations.ReadEntryReturnsTheImage : Prop :=
  (∀ (seq t i : Byte) (rest : List Byte) (s : State), Taken (.readEntry seq (t :: i :: rest)) s →
    let c := Instr.readEntry seq (t :: i :: rest)
    let u := s.without c
    (t = 0 ∨ 14 < t.toNat → exec c s = .next (u.reply seq 1 .badTable [])) ∧
    ∀ n, [64, 24, 19, 12, 16, 3, 40, 32, 4, 16, 1, 23, 2, 9][t.toNat - 1]? = some n → t ≠ 0 →
      (n ≤ i.toNat → exec c s = .next (u.reply seq 1 .badIndex [i])) ∧
      (i.toNat < n → exec c s = .next (u.reply seq 1 .ok (s.image t.toNat i.toNat)))) ∧
  (∀ (seq : Byte) (args : List Byte) (s : State), args.length < 2 →
    (Taken (.readEntry seq args) s →
      exec (.readEntry seq args) s = .next ((s.without (.readEntry seq args)).reply seq 1 .badRequest [])) ∧
    (Taken (.writeEntry seq args) s →
      exec (.writeEntry seq args) s = .next ((s.without (.writeEntry seq args)).reply seq 2 .badRequest []))) ∧
  (∀ (seq t i : Byte) (rest : List Byte) (s : State), Taken (.writeEntry seq (t :: i :: rest)) s →
    let c := Instr.writeEntry seq (t :: i :: rest)
    exec c s = .next ((s.without c).reply seq 2 .badTable [])) ∧
  (∀ (seq code : Byte) (s : State), Taken (.mgmtUnknownRequest seq code) s →
    let c := Instr.mgmtUnknownRequest seq code
    exec c s = .next ((s.without c).toSite 0x41 [seq, code, 1])) ∧
  ∀ (s : State) (i : Nat), (s.image 1 i).length = 14 ∧ (s.image 2 i).length = 22 ∧ (s.image 3 i).length = 2 ∧
    (s.image 4 i).length = 10 ∧ (s.image 5 i).length = 3 ∧ (s.image 12 0).length = 25 ∧
    (1 ≤ i → i ≤ 22 → (s.image 12 i).length = 8)

/-- A NODE image in OFFLINE and a STATION image, every field in range, replace the entry's written fields, a NODE
record's dynamic fields starting afresh and a station's state fields kept; the reply's image begins with the bytes
written, and a STATION write that leaves a service uncovered runs the withdrawal cascade (R30, R32, R69, R143, R182). A
write outside its mode is WRONG_MODE; a field out of range, a fixed role, flag or period broken, and a lane or station
already held are BAD_VALUE naming the field (R32, R143, R194). The forward flag is 0 or 1 (log 10); the order in which a
fixed role and the flag and period of records 1 and 63 are judged is the model's reading (log 18). -/
def Obligations.NodeAndStationWritesAreTaken : Prop :=
  (∀ (seq t i b0 b1 b2 b3 b4 b5 b6 : Byte) (rest : List Byte) (s : State), Shape s →
    let c := Instr.writeNodeEntry seq (t :: i :: b0 :: b1 :: b2 :: b3 :: b4 :: b5 :: b6 :: rest)
    let a := i.toNat
    let refused := fun field : Byte => exec c s = .next ((s.without c).reply seq 2 .badValue [field])
    let position := b3.toNat * 256 + b4.toNat
    let quiet := a = 1 ∨ a = 63
    let may := fun r : Role => (a = 0 → r = .site) ∧ (a = 1 → r = .self) ∧ (a = 62 → r = .hub) ∧ (a = 63 → r = .none) ∧
      (a ≠ 0 → a ≠ 1 → a ≠ 62 → r ≠ .site ∧ r ≠ .self ∧ r ≠ .hub)
    let role := ∃ r, b0.toNat = roleNumber r ∧ may r
    let place := b1.toNat ≤ 2 ∧ b2.toNat ≤ 23 ∧ position ≤ 4095
    let forward := b5.toNat ≤ 1 ∧ (quiet → b5 = 0)
    let watch := quiet → b6 = 0
    Taken c s → 7 ≤ rest.length → a < 64 → s.halt.mode = .offline →
    (¬role → refused 1) ∧
    (role → 2 < b1.toNat → refused 2) ∧
    (role → b1.toNat ≤ 2 → 23 < b2.toNat → refused 3) ∧
    (role → b1.toNat ≤ 2 → b2.toNat ≤ 23 → 4095 < position → refused 4) ∧
    (role → place → ¬forward → refused 5) ∧
    (role → place → forward → ¬watch → refused 6) ∧
    (role → place → forward → watch → ∀ n, n < 64 → n ≠ a → b0.toNat = roleNumber (s.node n).role →
      ((s.node n).role ∈ [.mergeEye, .gate, .kiosk] ∧ (s.node n).lane = b1.toNat ∨
        (s.node n).role = .station ∧ (s.node n).station = b2.toNat) → refused 1)) ∧
  (∀ (seq t i b0 b1 b2 b3 b4 b5 b6 b7 b8 b9 b10 b11 : Byte) (rest : List Byte) (s : State),
    let c := Instr.writeStationEntry seq (t :: i :: ([b0, b1, b2, b3, b4, b5, b6, b7, b8, b9, b10, b11] ++ rest))
    let beyond := fun b : Byte => b.toInt < -64 ∨ 63 < b.toInt
    let field : Nat :=
      if b0 = 0 ∨ 3 < b0.toNat then 1 else if 15 < b1.toNat then 2 else if 4095 < b2.toNat * 256 + b3.toNat then 3
      else if beyond b4 then 4 else if beyond b5 then 5 else if b6.toNat < 2 ∨ 61 < b6.toNat ∧ b6 ≠ 0xFF then 6
      else if 2000 < b8.toNat * 256 + b9.toNat then 8 else if b10 = 0 ∨ 7 < b10.toNat then 9
      else if b11 = 0 ∨ 63 < b11.toNat then 10 else 0
    Taken c s → 10 ≤ rest.length → i.toNat < 24 → field ≠ 0 →
    exec c s = .next ((s.without c).reply seq 2 .badValue [byte field])) ∧
  (∀ (seq t i b0 b1 b2 b3 b4 b5 b6 : Byte) (rest : List Byte) (role : Role) (s : State), Shape s →
    let args := t :: i :: b0 :: b1 :: b2 :: b3 :: b4 :: b5 :: b6 :: rest
    let c := Instr.writeNodeEntry seq args
    let u := s.without c
    let a := i.toNat
    let pos := b3.toNat * 256 + b4.toNat
    let fixed := fun (x : Nat) (r : Role) => a = x → role = r
    let rec_ : NodeRecord :=
      { role := role, lane := b1.toNat, station := b2.toNat, position := pos, forward := b5 == 1, watch := b6.toNat,
        silence := 0, silent := false, synced := false, expected := 0, gaps := 0, errors := 0, lastError := none,
        silenceDue := false }
    Taken c s → 7 ≤ rest.length → a < 64 →
    (s.halt.mode ≠ .offline → exec c s = .next (u.reply seq 2 .wrongMode [])) ∧
    (s.halt.mode = .offline → b0.toNat = roleNumber role → b1.toNat ≤ 2 → b2.toNat ≤ 23 → pos ≤ 4095 →
      b5.toNat ≤ 1 → (a = 1 ∨ a = 63 → b5 = 0 ∧ b6 = 0) →
      fixed 0 .site → fixed 1 .self → fixed 62 .hub → fixed 63 .none →
      (a ≠ 0 → a ≠ 1 → a ≠ 62 → role ≠ .site ∧ role ≠ .self ∧ role ≠ .hub) →
      (∀ n, n < 64 → n ≠ a → (s.node n).role = role →
        (role = .mergeEye ∨ role = .gate ∨ role = .kiosk → (s.node n).lane ≠ b1.toNat) ∧
        (role = .station → (s.node n).station ≠ b2.toNat)) →
      let w := u.setNode a rec_
      exec c s = .next (w.reply seq 2 .ok (w.image 1 a)) ∧ w.node a = rec_ ∧
      (w.image 1 a).take 7 = [b0, b1, b2, b3, b4, b5, b6])) ∧
  ∀ (seq t i b0 b1 b2 b3 b4 b5 b6 b7 b8 b9 b10 b11 : Byte) (rest : List Byte) (kind : StationKind) (s : State),
    Shape s →
    let image := [b0, b1, b2, b3, b4, b5, b6, b7, b8, b9, b10, b11]
    let args := t :: i :: (image ++ rest)
    let c := Instr.writeStationEntry seq args
    let u := s.without c
    let n := i.toNat
    let old := s.station n
    let pos := b2.toNat * 256 + b3.toNat
    let st := { old with
      kind := kind, service := b1.toNat, position := pos, startOff := b4.toInt, endOff := b5.toInt,
      actuator := if b6 = 0xFF then none else some b6.toNat, preload := b7.toNat,
      limit := b8.toNat * 256 + b9.toNat, bind := b10.toNat, backLen := b11.toNat }
    let geometry := st.kind = old.kind ∧ st.service = old.service ∧ st.position = old.position ∧
      st.startOff = old.startOff ∧ st.endOff = old.endOff ∧ st.actuator = old.actuator
    Taken c s → 10 ≤ rest.length → n < 24 → b0.toNat = stationKindCode kind → b1.toNat ≤ 15 → pos ≤ 4095 →
    -64 ≤ b4.toInt → b4.toInt ≤ 63 → -64 ≤ b5.toInt → b5.toInt ≤ 63 →
    (b6 = 0xFF ∨ 2 ≤ b6.toNat ∧ b6.toNat ≤ 61) → st.limit ≤ 2000 → 1 ≤ st.bind → st.bind ≤ 7 → 1 ≤ st.backLen →
    st.backLen ≤ 63 →
    (s.halt.mode ≠ .offline → ¬geometry → exec c s = .next (u.reply seq 2 .wrongMode [])) ∧
    (s.halt.mode = .offline ∨ geometry → ∃ w : State, exec c s = .next (w.reply seq 2 .ok (w.image 2 n)) ∧
      w.station n = st ∧ (∀ k, k ≠ n → w.station k = s.station k) ∧ (w.image 2 n).take 12 = image ∧
      let gives := fun x : Station => x.actuator ≠ none ∧ x.inService = true ∧ x.service = old.service
      let lost := gives old ∧ ¬gives st ∧ ∀ k, k < 24 → k ≠ n → ¬gives (s.station k)
      let newly := fun o : Order => (o.state == .queued || o.state == .staged || o.state == .granted) &&
        hasService o.services old.service && !o.degraded
      (lost → w.sales = { s.sales with
          orders := s.sales.orders.map fun o => if newly o then { o with degraded := true } else o } ∧
        Noticed .sales { reason 4 with place := some old.service, arg := some (s.sales.orders.countP newly) } w) ∧
      (¬lost → w = u.setStation n st))

/-- PARAM, PLAN and SERVICE images within their rules replace the entry, and the reply's image begins with the bytes
written (R47, R48, R182, R183). A PARAM write outside OFFLINE is WRONG_MODE; a field out of range, an empty base set, an
add-on that is in the base set or not addable, and the addable flag of a service that a plan allows as an add-on taken
away are BAD_VALUE naming the field (R47, R48, R183, R194). The addable flag is 0 or 1 (log 10); that an add-on
set which shares a service with the base set is the set named is the model's reading (log 45). -/
def Obligations.ParamPlanAndServiceWritesAreTaken : Prop :=
  (∀ (seq t i hi lo : Byte) (rest : List Byte) (row : Config.ParamRow) (s : State), Shape s →
    let c := Instr.writeParamEntry seq (t :: i :: hi :: lo :: rest)
    let u := s.without c
    let v := hi.toNat * 256 + lo.toNat
    Taken c s → Config.paramTable[i.toNat]? = some row →
    (s.halt.mode ≠ .offline → exec c s = .next (u.reply seq 2 .wrongMode [])) ∧
    (s.halt.mode = .offline → v < row.low ∨ row.high < v → exec c s = .next (u.reply seq 2 .badValue [1])) ∧
    (s.halt.mode = .offline → row.low ≤ v → v ≤ row.high → exec c s =
      .next ((u.setMgmt { s.mgmt with params := s.mgmt.params.set i.toNat v }).reply seq 2 .ok [hi, lo]))) ∧
  (∀ (seq t i b0 b1 b2 b3 b4 b5 b6 b7 b8 : Byte) (rest : List Byte) (st : PlanState) (s : State), Shape s →
    let image := [b0, b1, b2, b3, b4, b5, b6, b7, b8]
    let c := Instr.writePlanEntry seq (t :: i :: (image ++ rest))
    let u := s.without c
    let p : PlanEntry :=
      { state := st, base := b1 ++ b2, addons := b3 ++ b4, price := b5.toNat * 256 + b6.toNat, tier := b7.toNat,
        cap := b8.toNat }
    Taken c s → rest ≠ [] → i.toNat < 12 → b0.toNat = planStateCode st → p.tier ≤ 7 → 1 ≤ p.cap → p.cap ≤ 4 →
    (st ≠ .absent → p.base ≠ 0 ∧ p.addons &&& p.base = 0 ∧
      ∀ n, n < 16 → hasService p.addons n = true → (s.service n).addable = true) →
    let w := u.setSales { s.sales with plans := s.sales.plans.set i.toNat p }
    exec c s = .next (w.reply seq 2 .ok (w.image 4 i.toNat)) ∧ (w.image 4 i.toNat).take 9 = image) ∧
  (∀ (seq t i b0 b1 b2 b3 b4 b5 b6 b7 b8 : Byte) (rest : List Byte) (s : State), Shape s →
    let c := Instr.writePlanEntry seq (t :: i :: ([b0, b1, b2, b3, b4, b5, b6, b7, b8] ++ rest))
    let refused := fun field : Byte => exec c s = .next ((s.without c).reply seq 2 .badValue [field])
    let base : ServiceSet := b1 ++ b2
    let addons : ServiceSet := b3 ++ b4
    let ranged := 1 ≤ b0.toNat ∧ b0.toNat ≤ 3 ∧ b7.toNat ≤ 7 ∧ 1 ≤ b8.toNat ∧ b8.toNat ≤ 4
    let sold := b0 = 2 ∨ b0 = 3
    Taken c s → rest ≠ [] → i.toNat < 12 →
    (b0 = 0 ∨ 3 < b0.toNat → refused 1) ∧
    (1 ≤ b0.toNat → b0.toNat ≤ 3 → 7 < b7.toNat → refused 5) ∧
    (1 ≤ b0.toNat → b0.toNat ≤ 3 → b7.toNat ≤ 7 → b8 = 0 ∨ 4 < b8.toNat → refused 6) ∧
    (ranged → sold → base = 0 → refused 2) ∧
    (ranged → sold → base ≠ 0 → addons &&& base ≠ 0 → refused 3) ∧
    (ranged → sold → base ≠ 0 → ∀ n, n < 16 → hasService addons n = true → (s.service n).addable = false →
      refused 3)) ∧
  (∀ (seq t i b hi lo : Byte) (rest : List Byte) (s : State), Shape s →
    let c := Instr.writeServiceEntry seq (t :: i :: b :: hi :: lo :: rest)
    let refused := exec c s = .next ((s.without c).reply seq 2 .badValue [1])
    Taken c s → i.toNat < 16 →
    (1 < b.toNat → refused) ∧
    (b = 0 → ∀ p ∈ s.sales.plans, p.state ≠ .absent → hasService p.addons i.toNat = true → refused)) ∧
  ∀ (seq t i hi lo : Byte) (addable : Bool) (rest : List Byte) (s : State), Shape s →
    let image := [flag addable, hi, lo]
    let c := Instr.writeServiceEntry seq (t :: i :: (image ++ rest))
    let u := s.without c
    Taken c s → i.toNat < 16 →
    (addable = false → ∀ p ∈ s.sales.plans, p.state ≠ .absent → hasService p.addons i.toNat = false) →
    let e : ServiceEntry := { addable := addable, price := hi.toNat * 256 + lo.toNat }
    exec c s = .next
      ((u.setSales { s.sales with services := s.sales.services.set i.toNat e }).reply seq 2 .ok image)

/-- TAKE_NOTICE returns the named class, or the first pending enabled one, with its count and detail, clears its
pending flag and count and judges ATTN again; with none to take it changes nothing (R186, R188). SET_NOTICE_MASK
replaces the mask as a whole and replies OK with it; pending flags, details and counts stand, ATTN is judged again, and
an image whose unused positions are not clear is refused (R189). -/
def Obligations.NoticesAreTakenAndMasked : Prop :=
  (∀ (seq b : Byte) (rest : List Byte) (s : State), Shape s → Taken (.takeNotice seq (b :: rest)) s →
    let c := Instr.takeNotice seq (b :: rest)
    let u := s.without c
    let rec_ := fun i => s.mgmt.notices.getD i .blank
    let taken := fun i => ∃ w : State,
      exec c s = .next (w.reply seq 19 .ok ([byte (i + 1), byte (rec_ i).count] ++ noticeImage (rec_ i).detail)) ∧
      SameExcept [.mgmt, .handed] s w ∧ w.mgmt.params = s.mgmt.params ∧ w.mgmt.lastReset = s.mgmt.lastReset ∧
      w.mgmt.notices.getD i .blank = { rec_ i with pending := false, count := 0 } ∧
      (∀ k, k ≠ i → w.mgmt.notices.getD k .blank = rec_ k) ∧
      (w.mgmt.attn = true ↔ ∃ k, k < 8 ∧ k ≠ i ∧ (rec_ k).pending = true ∧ (rec_ k).enabled = true)
    (8 < b.toNat → exec c s = .next (u.reply seq 19 .badValue [])) ∧
    (∀ i, b.toNat = i + 1 → i < 8 →
      ((rec_ i).pending = true → taken i) ∧
      ((rec_ i).pending = false → exec c s = .next (u.reply seq 19 .ok [0]))) ∧
    (b = 0 →
      (∀ i, i < 8 → (rec_ i).pending = true → (rec_ i).enabled = true →
        (∀ k, k < i → (rec_ k).pending = false ∨ (rec_ k).enabled = false) → taken i) ∧
      ((∀ k, k < 8 → (rec_ k).pending = false ∨ (rec_ k).enabled = false) →
        exec c s = .next (u.reply seq 19 .ok [0])))) ∧
  ∀ (seq hi lo : Byte) (rest : List Byte) (s : State), Shape s → Taken (.setNoticeMask seq (hi :: lo :: rest)) s →
    let c := Instr.setNoticeMask seq (hi :: lo :: rest)
    let rec_ := fun i => s.mgmt.notices.getD i .blank
    (hi ≠ 0 → exec c s = .next ((s.without c).reply seq 20 .badValue [])) ∧
    (hi = 0 → ∃ w : State, exec c s = .next (w.reply seq 20 .ok [hi, lo]) ∧ SameExcept [.mgmt, .handed] s w ∧
      w.mgmt.params = s.mgmt.params ∧ w.mgmt.lastReset = s.mgmt.lastReset ∧
      (∀ i, i < 8 → w.mgmt.notices.getD i .blank = { rec_ i with enabled := lo.getLsbD i }) ∧
      (w.mgmt.attn = true ↔ ∃ i, i < 8 ∧ (rec_ i).pending = true ∧ lo.getLsbD i = true))

/-! ## Laws that every step keeps -/

/-- Right after a power-on reset (its unstated values as logs 8, 9, 20 and 22 choose them) every law of the device holds. -/
def Obligations.ResetMeetsEveryLaw : Prop :=
  HaltLaw State.reset ∧ StandstillLaw State.reset ∧ GrantLaw State.reset ∧ PoolLaw State.reset ∧
    QuoteLaw State.reset ∧ PortLaw State.reset ∧ AttnLaw State.reset ∧ CarLaw State.reset ∧ TableLaw State.reset ∧
    BoundLaw State.reset ∧ HoldLaw State.reset ∧ LineLaw State.reset

/-- Every step keeps PERMIT asserted in ARMED alone with no cause in ARMED and RECOVERING, each halt timer in its own
mode, and the tunnel standing still outside ARMED (R157, R161, Table 8-1). -/
def Obligations.HaltAndStandstillAreKept : Prop :=
  ∀ s t : State, HaltLaw s → StandstillLaw s → step s = .next t → HaltLaw t ∧ StandstillLaw t

/-- Every step keeps each order record in exactly one place and at most one grant, made in ARMED, naming the GRANTED
order at the head of its lane (R61 to R63, R96); and each BOUND order bound to exactly one car of the Car List, each car
to at most one order, with order tags distinct (R61, R64, R123). -/
def Obligations.PoolAndGrantAreKept : Prop :=
  (∀ s t : State, HaltLaw s → PoolLaw s → GrantLaw s → Shape s → step s = .next t → PoolLaw t ∧ GrantLaw t) ∧
  ∀ s t : State, HaltLaw s → PoolLaw s → GrantLaw s → Shape s → CarLaw s → BoundLaw s → step s = .next t → BoundLaw t

/-- Every step keeps the Member Cache's limits, the Fetch Table's waiting lanes and the lanes' room (R50, R62, R73, R78),
each CACHED record once on the recency list and each reference count the number of OFFERED quotes of its account (R74, R75);
where these hold a victim is found: a FREE record, or a CACHED one that no quote holds (R86). -/
def Obligations.QuoteLawIsKept : Prop :=
  (∀ s t : State, PoolLaw s → QuoteLaw s → step s = .next t → QuoteLaw t) ∧
  (∀ s t : State, PoolLaw s → QuoteLaw s → HoldLaw s → step s = .next t → HoldLaw t) ∧
  ∀ s : State, QuoteLaw s → HoldLaw s → ∃ v, v < 32 ∧ s.victim = some v ∧
    ((s.memberRec v).state = .free ∨ (s.memberRec v).state = .cached ∧ (s.memberRec v).refs = 0)

/-- Every step keeps both ports' queues, collections and halt run counts within their bounds (Table 1-1, R9, R12, R20
to R22), and lets no frame wait on an idle line (R17, R18; after the two resets by the model's reading, log 9). -/
def Obligations.PortBoundsAreKept : Prop :=
  ∀ s t : State, PortLaw s → step s = .next t → PortLaw t

/-- Every step keeps ATTN asserted exactly while some class is both pending and enabled (R186); and the tables keep their
sizes, the Node Table its fixed roles and every parameter its range (R30, R32, R183). -/
def Obligations.TablesAndAttnAreKept : Prop :=
  (∀ s t : State, AttnLaw s → step s = .next t → AttnLaw t) ∧
  ∀ s t : State, TableLaw s → step s = .next t → TableLaw t

/-- Every step keeps at most 16 cars, no two of one tag, each with its done set within its service set (R123, R124,
R148); and the cars in line: only the tail ENTERING, only the head EXITING, front travels strictly decreasing behind every
car whose length is known (R123, R130, R134 to R136; a head matched at the exit without a length is log 34). -/
def Obligations.CarListIsKept : Prop :=
  (∀ s t : State, StandstillLaw s → HaltLaw s → CarLaw s → step s = .next t → CarLaw t) ∧
  ∀ s t : State, LineLaw s → step s = .next t → LineLaw t
end

