-- ==== Sys2Proof/Laws/State.lean ====
section
/-!
SUPPORT. Beside State: one lemma per field per update, each true by rfl, so that no proof unfolds a record update.
-/
namespace Sys2Proof.Machine

/-! ## setNodes -/

@[simp] theorem State.setNodes_portS (s : State) (v : List NodeRecord) : (s.setNodes v).portS = s.portS := rfl
@[simp] theorem State.setNodes_portF (s : State) (v : List NodeRecord) : (s.setNodes v).portF = s.portF := rfl
@[simp] theorem State.setNodes_nodes (s : State) (v : List NodeRecord) : (s.setNodes v).nodes = v := rfl
@[simp] theorem State.setNodes_sales (s : State) (v : List NodeRecord) : (s.setNodes v).sales = s.sales := rfl
@[simp] theorem State.setNodes_members (s : State) (v : List NodeRecord) : (s.setNodes v).members = s.members := rfl
@[simp] theorem State.setNodes_merge (s : State) (v : List NodeRecord) : (s.setNodes v).merge = s.merge := rfl
@[simp] theorem State.setNodes_track (s : State) (v : List NodeRecord) : (s.setNodes v).track = s.track := rfl
@[simp] theorem State.setNodes_stations (s : State) (v : List NodeRecord) : (s.setNodes v).stations = s.stations := rfl
@[simp] theorem State.setNodes_halt (s : State) (v : List NodeRecord) : (s.setNodes v).halt = s.halt := rfl
@[simp] theorem State.setNodes_mgmt (s : State) (v : List NodeRecord) : (s.setNodes v).mgmt = s.mgmt := rfl
@[simp] theorem State.setNodes_handed (s : State) (v : List NodeRecord) : (s.setNodes v).handed = s.handed := rfl
@[simp] theorem State.setNodes_raised (s : State) (v : List NodeRecord) : (s.setNodes v).raised = s.raised := rfl
@[simp] theorem State.setNodes_startRequested (s : State) (v : List NodeRecord) : (s.setNodes v).startRequested = s.startRequested := rfl
@[simp] theorem State.setNodes_inReset (s : State) (v : List NodeRecord) : (s.setNodes v).inReset = s.inReset := rfl
@[simp] theorem State.setNodes_pending (s : State) (v : List NodeRecord) : (s.setNodes v).pending = s.pending := rfl

/-! ## setSales -/

@[simp] theorem State.setSales_portS (s : State) (v : Sales) : (s.setSales v).portS = s.portS := rfl
@[simp] theorem State.setSales_portF (s : State) (v : Sales) : (s.setSales v).portF = s.portF := rfl
@[simp] theorem State.setSales_nodes (s : State) (v : Sales) : (s.setSales v).nodes = s.nodes := rfl
@[simp] theorem State.setSales_sales (s : State) (v : Sales) : (s.setSales v).sales = v := rfl
@[simp] theorem State.setSales_members (s : State) (v : Sales) : (s.setSales v).members = s.members := rfl
@[simp] theorem State.setSales_merge (s : State) (v : Sales) : (s.setSales v).merge = s.merge := rfl
@[simp] theorem State.setSales_track (s : State) (v : Sales) : (s.setSales v).track = s.track := rfl
@[simp] theorem State.setSales_stations (s : State) (v : Sales) : (s.setSales v).stations = s.stations := rfl
@[simp] theorem State.setSales_halt (s : State) (v : Sales) : (s.setSales v).halt = s.halt := rfl
@[simp] theorem State.setSales_mgmt (s : State) (v : Sales) : (s.setSales v).mgmt = s.mgmt := rfl
@[simp] theorem State.setSales_handed (s : State) (v : Sales) : (s.setSales v).handed = s.handed := rfl
@[simp] theorem State.setSales_raised (s : State) (v : Sales) : (s.setSales v).raised = s.raised := rfl
@[simp] theorem State.setSales_startRequested (s : State) (v : Sales) : (s.setSales v).startRequested = s.startRequested := rfl
@[simp] theorem State.setSales_inReset (s : State) (v : Sales) : (s.setSales v).inReset = s.inReset := rfl
@[simp] theorem State.setSales_pending (s : State) (v : Sales) : (s.setSales v).pending = s.pending := rfl

/-! ## setMembers -/

@[simp] theorem State.setMembers_portS (s : State) (v : Members) : (s.setMembers v).portS = s.portS := rfl
@[simp] theorem State.setMembers_portF (s : State) (v : Members) : (s.setMembers v).portF = s.portF := rfl
@[simp] theorem State.setMembers_nodes (s : State) (v : Members) : (s.setMembers v).nodes = s.nodes := rfl
@[simp] theorem State.setMembers_sales (s : State) (v : Members) : (s.setMembers v).sales = s.sales := rfl
@[simp] theorem State.setMembers_members (s : State) (v : Members) : (s.setMembers v).members = v := rfl
@[simp] theorem State.setMembers_merge (s : State) (v : Members) : (s.setMembers v).merge = s.merge := rfl
@[simp] theorem State.setMembers_track (s : State) (v : Members) : (s.setMembers v).track = s.track := rfl
@[simp] theorem State.setMembers_stations (s : State) (v : Members) : (s.setMembers v).stations = s.stations := rfl
@[simp] theorem State.setMembers_halt (s : State) (v : Members) : (s.setMembers v).halt = s.halt := rfl
@[simp] theorem State.setMembers_mgmt (s : State) (v : Members) : (s.setMembers v).mgmt = s.mgmt := rfl
@[simp] theorem State.setMembers_handed (s : State) (v : Members) : (s.setMembers v).handed = s.handed := rfl
@[simp] theorem State.setMembers_raised (s : State) (v : Members) : (s.setMembers v).raised = s.raised := rfl
@[simp] theorem State.setMembers_startRequested (s : State) (v : Members) : (s.setMembers v).startRequested = s.startRequested := rfl
@[simp] theorem State.setMembers_inReset (s : State) (v : Members) : (s.setMembers v).inReset = s.inReset := rfl
@[simp] theorem State.setMembers_pending (s : State) (v : Members) : (s.setMembers v).pending = s.pending := rfl

/-! ## setMerge -/

@[simp] theorem State.setMerge_portS (s : State) (v : Merge) : (s.setMerge v).portS = s.portS := rfl
@[simp] theorem State.setMerge_portF (s : State) (v : Merge) : (s.setMerge v).portF = s.portF := rfl
@[simp] theorem State.setMerge_nodes (s : State) (v : Merge) : (s.setMerge v).nodes = s.nodes := rfl
@[simp] theorem State.setMerge_sales (s : State) (v : Merge) : (s.setMerge v).sales = s.sales := rfl
@[simp] theorem State.setMerge_members (s : State) (v : Merge) : (s.setMerge v).members = s.members := rfl
@[simp] theorem State.setMerge_merge (s : State) (v : Merge) : (s.setMerge v).merge = v := rfl
@[simp] theorem State.setMerge_track (s : State) (v : Merge) : (s.setMerge v).track = s.track := rfl
@[simp] theorem State.setMerge_stations (s : State) (v : Merge) : (s.setMerge v).stations = s.stations := rfl
@[simp] theorem State.setMerge_halt (s : State) (v : Merge) : (s.setMerge v).halt = s.halt := rfl
@[simp] theorem State.setMerge_mgmt (s : State) (v : Merge) : (s.setMerge v).mgmt = s.mgmt := rfl
@[simp] theorem State.setMerge_handed (s : State) (v : Merge) : (s.setMerge v).handed = s.handed := rfl
@[simp] theorem State.setMerge_raised (s : State) (v : Merge) : (s.setMerge v).raised = s.raised := rfl
@[simp] theorem State.setMerge_startRequested (s : State) (v : Merge) : (s.setMerge v).startRequested = s.startRequested := rfl
@[simp] theorem State.setMerge_inReset (s : State) (v : Merge) : (s.setMerge v).inReset = s.inReset := rfl
@[simp] theorem State.setMerge_pending (s : State) (v : Merge) : (s.setMerge v).pending = s.pending := rfl

/-! ## setTrack -/

@[simp] theorem State.setTrack_portS (s : State) (v : Track) : (s.setTrack v).portS = s.portS := rfl
@[simp] theorem State.setTrack_portF (s : State) (v : Track) : (s.setTrack v).portF = s.portF := rfl
@[simp] theorem State.setTrack_nodes (s : State) (v : Track) : (s.setTrack v).nodes = s.nodes := rfl
@[simp] theorem State.setTrack_sales (s : State) (v : Track) : (s.setTrack v).sales = s.sales := rfl
@[simp] theorem State.setTrack_members (s : State) (v : Track) : (s.setTrack v).members = s.members := rfl
@[simp] theorem State.setTrack_merge (s : State) (v : Track) : (s.setTrack v).merge = s.merge := rfl
@[simp] theorem State.setTrack_track (s : State) (v : Track) : (s.setTrack v).track = v := rfl
@[simp] theorem State.setTrack_stations (s : State) (v : Track) : (s.setTrack v).stations = s.stations := rfl
@[simp] theorem State.setTrack_halt (s : State) (v : Track) : (s.setTrack v).halt = s.halt := rfl
@[simp] theorem State.setTrack_mgmt (s : State) (v : Track) : (s.setTrack v).mgmt = s.mgmt := rfl
@[simp] theorem State.setTrack_handed (s : State) (v : Track) : (s.setTrack v).handed = s.handed := rfl
@[simp] theorem State.setTrack_raised (s : State) (v : Track) : (s.setTrack v).raised = s.raised := rfl
@[simp] theorem State.setTrack_startRequested (s : State) (v : Track) : (s.setTrack v).startRequested = s.startRequested := rfl
@[simp] theorem State.setTrack_inReset (s : State) (v : Track) : (s.setTrack v).inReset = s.inReset := rfl
@[simp] theorem State.setTrack_pending (s : State) (v : Track) : (s.setTrack v).pending = s.pending := rfl

/-! ## setStations -/

@[simp] theorem State.setStations_portS (s : State) (v : List Station) : (s.setStations v).portS = s.portS := rfl
@[simp] theorem State.setStations_portF (s : State) (v : List Station) : (s.setStations v).portF = s.portF := rfl
@[simp] theorem State.setStations_nodes (s : State) (v : List Station) : (s.setStations v).nodes = s.nodes := rfl
@[simp] theorem State.setStations_sales (s : State) (v : List Station) : (s.setStations v).sales = s.sales := rfl
@[simp] theorem State.setStations_members (s : State) (v : List Station) : (s.setStations v).members = s.members := rfl
@[simp] theorem State.setStations_merge (s : State) (v : List Station) : (s.setStations v).merge = s.merge := rfl
@[simp] theorem State.setStations_track (s : State) (v : List Station) : (s.setStations v).track = s.track := rfl
@[simp] theorem State.setStations_stations (s : State) (v : List Station) : (s.setStations v).stations = v := rfl
@[simp] theorem State.setStations_halt (s : State) (v : List Station) : (s.setStations v).halt = s.halt := rfl
@[simp] theorem State.setStations_mgmt (s : State) (v : List Station) : (s.setStations v).mgmt = s.mgmt := rfl
@[simp] theorem State.setStations_handed (s : State) (v : List Station) : (s.setStations v).handed = s.handed := rfl
@[simp] theorem State.setStations_raised (s : State) (v : List Station) : (s.setStations v).raised = s.raised := rfl
@[simp] theorem State.setStations_startRequested (s : State) (v : List Station) : (s.setStations v).startRequested = s.startRequested := rfl
@[simp] theorem State.setStations_inReset (s : State) (v : List Station) : (s.setStations v).inReset = s.inReset := rfl
@[simp] theorem State.setStations_pending (s : State) (v : List Station) : (s.setStations v).pending = s.pending := rfl

/-! ## setHalt -/

@[simp] theorem State.setHalt_portS (s : State) (v : Halt) : (s.setHalt v).portS = s.portS := rfl
@[simp] theorem State.setHalt_portF (s : State) (v : Halt) : (s.setHalt v).portF = s.portF := rfl
@[simp] theorem State.setHalt_nodes (s : State) (v : Halt) : (s.setHalt v).nodes = s.nodes := rfl
@[simp] theorem State.setHalt_sales (s : State) (v : Halt) : (s.setHalt v).sales = s.sales := rfl
@[simp] theorem State.setHalt_members (s : State) (v : Halt) : (s.setHalt v).members = s.members := rfl
@[simp] theorem State.setHalt_merge (s : State) (v : Halt) : (s.setHalt v).merge = s.merge := rfl
@[simp] theorem State.setHalt_track (s : State) (v : Halt) : (s.setHalt v).track = s.track := rfl
@[simp] theorem State.setHalt_stations (s : State) (v : Halt) : (s.setHalt v).stations = s.stations := rfl
@[simp] theorem State.setHalt_halt (s : State) (v : Halt) : (s.setHalt v).halt = v := rfl
@[simp] theorem State.setHalt_mgmt (s : State) (v : Halt) : (s.setHalt v).mgmt = s.mgmt := rfl
@[simp] theorem State.setHalt_handed (s : State) (v : Halt) : (s.setHalt v).handed = s.handed := rfl
@[simp] theorem State.setHalt_raised (s : State) (v : Halt) : (s.setHalt v).raised = s.raised := rfl
@[simp] theorem State.setHalt_startRequested (s : State) (v : Halt) : (s.setHalt v).startRequested = s.startRequested := rfl
@[simp] theorem State.setHalt_inReset (s : State) (v : Halt) : (s.setHalt v).inReset = s.inReset := rfl
@[simp] theorem State.setHalt_pending (s : State) (v : Halt) : (s.setHalt v).pending = s.pending := rfl

/-! ## setMgmt -/

@[simp] theorem State.setMgmt_portS (s : State) (v : Mgmt) : (s.setMgmt v).portS = s.portS := rfl
@[simp] theorem State.setMgmt_portF (s : State) (v : Mgmt) : (s.setMgmt v).portF = s.portF := rfl
@[simp] theorem State.setMgmt_nodes (s : State) (v : Mgmt) : (s.setMgmt v).nodes = s.nodes := rfl
@[simp] theorem State.setMgmt_sales (s : State) (v : Mgmt) : (s.setMgmt v).sales = s.sales := rfl
@[simp] theorem State.setMgmt_members (s : State) (v : Mgmt) : (s.setMgmt v).members = s.members := rfl
@[simp] theorem State.setMgmt_merge (s : State) (v : Mgmt) : (s.setMgmt v).merge = s.merge := rfl
@[simp] theorem State.setMgmt_track (s : State) (v : Mgmt) : (s.setMgmt v).track = s.track := rfl
@[simp] theorem State.setMgmt_stations (s : State) (v : Mgmt) : (s.setMgmt v).stations = s.stations := rfl
@[simp] theorem State.setMgmt_halt (s : State) (v : Mgmt) : (s.setMgmt v).halt = s.halt := rfl
@[simp] theorem State.setMgmt_mgmt (s : State) (v : Mgmt) : (s.setMgmt v).mgmt = v := rfl
@[simp] theorem State.setMgmt_handed (s : State) (v : Mgmt) : (s.setMgmt v).handed = s.handed := rfl
@[simp] theorem State.setMgmt_raised (s : State) (v : Mgmt) : (s.setMgmt v).raised = s.raised := rfl
@[simp] theorem State.setMgmt_startRequested (s : State) (v : Mgmt) : (s.setMgmt v).startRequested = s.startRequested := rfl
@[simp] theorem State.setMgmt_inReset (s : State) (v : Mgmt) : (s.setMgmt v).inReset = s.inReset := rfl
@[simp] theorem State.setMgmt_pending (s : State) (v : Mgmt) : (s.setMgmt v).pending = s.pending := rfl

/-! ## setHanded -/

@[simp] theorem State.setHanded_portS (s : State) (v : List Instr) : (s.setHanded v).portS = s.portS := rfl
@[simp] theorem State.setHanded_portF (s : State) (v : List Instr) : (s.setHanded v).portF = s.portF := rfl
@[simp] theorem State.setHanded_nodes (s : State) (v : List Instr) : (s.setHanded v).nodes = s.nodes := rfl
@[simp] theorem State.setHanded_sales (s : State) (v : List Instr) : (s.setHanded v).sales = s.sales := rfl
@[simp] theorem State.setHanded_members (s : State) (v : List Instr) : (s.setHanded v).members = s.members := rfl
@[simp] theorem State.setHanded_merge (s : State) (v : List Instr) : (s.setHanded v).merge = s.merge := rfl
@[simp] theorem State.setHanded_track (s : State) (v : List Instr) : (s.setHanded v).track = s.track := rfl
@[simp] theorem State.setHanded_stations (s : State) (v : List Instr) : (s.setHanded v).stations = s.stations := rfl
@[simp] theorem State.setHanded_halt (s : State) (v : List Instr) : (s.setHanded v).halt = s.halt := rfl
@[simp] theorem State.setHanded_mgmt (s : State) (v : List Instr) : (s.setHanded v).mgmt = s.mgmt := rfl
@[simp] theorem State.setHanded_handed (s : State) (v : List Instr) : (s.setHanded v).handed = v := rfl
@[simp] theorem State.setHanded_raised (s : State) (v : List Instr) : (s.setHanded v).raised = s.raised := rfl
@[simp] theorem State.setHanded_startRequested (s : State) (v : List Instr) : (s.setHanded v).startRequested = s.startRequested := rfl
@[simp] theorem State.setHanded_inReset (s : State) (v : List Instr) : (s.setHanded v).inReset = s.inReset := rfl
@[simp] theorem State.setHanded_pending (s : State) (v : List Instr) : (s.setHanded v).pending = s.pending := rfl

/-! ## setRaised -/

@[simp] theorem State.setRaised_portS (s : State) (v : List (CauseKind × CauseDetail)) : (s.setRaised v).portS = s.portS := rfl
@[simp] theorem State.setRaised_portF (s : State) (v : List (CauseKind × CauseDetail)) : (s.setRaised v).portF = s.portF := rfl
@[simp] theorem State.setRaised_nodes (s : State) (v : List (CauseKind × CauseDetail)) : (s.setRaised v).nodes = s.nodes := rfl
@[simp] theorem State.setRaised_sales (s : State) (v : List (CauseKind × CauseDetail)) : (s.setRaised v).sales = s.sales := rfl
@[simp] theorem State.setRaised_members (s : State) (v : List (CauseKind × CauseDetail)) : (s.setRaised v).members = s.members := rfl
@[simp] theorem State.setRaised_merge (s : State) (v : List (CauseKind × CauseDetail)) : (s.setRaised v).merge = s.merge := rfl
@[simp] theorem State.setRaised_track (s : State) (v : List (CauseKind × CauseDetail)) : (s.setRaised v).track = s.track := rfl
@[simp] theorem State.setRaised_stations (s : State) (v : List (CauseKind × CauseDetail)) : (s.setRaised v).stations = s.stations := rfl
@[simp] theorem State.setRaised_halt (s : State) (v : List (CauseKind × CauseDetail)) : (s.setRaised v).halt = s.halt := rfl
@[simp] theorem State.setRaised_mgmt (s : State) (v : List (CauseKind × CauseDetail)) : (s.setRaised v).mgmt = s.mgmt := rfl
@[simp] theorem State.setRaised_handed (s : State) (v : List (CauseKind × CauseDetail)) : (s.setRaised v).handed = s.handed := rfl
@[simp] theorem State.setRaised_raised (s : State) (v : List (CauseKind × CauseDetail)) : (s.setRaised v).raised = v := rfl
@[simp] theorem State.setRaised_startRequested (s : State) (v : List (CauseKind × CauseDetail)) : (s.setRaised v).startRequested = s.startRequested := rfl
@[simp] theorem State.setRaised_inReset (s : State) (v : List (CauseKind × CauseDetail)) : (s.setRaised v).inReset = s.inReset := rfl
@[simp] theorem State.setRaised_pending (s : State) (v : List (CauseKind × CauseDetail)) : (s.setRaised v).pending = s.pending := rfl

/-! ## setStartRequested -/

@[simp] theorem State.setStartRequested_portS (s : State) (v : Bool) : (s.setStartRequested v).portS = s.portS := rfl
@[simp] theorem State.setStartRequested_portF (s : State) (v : Bool) : (s.setStartRequested v).portF = s.portF := rfl
@[simp] theorem State.setStartRequested_nodes (s : State) (v : Bool) : (s.setStartRequested v).nodes = s.nodes := rfl
@[simp] theorem State.setStartRequested_sales (s : State) (v : Bool) : (s.setStartRequested v).sales = s.sales := rfl
@[simp] theorem State.setStartRequested_members (s : State) (v : Bool) : (s.setStartRequested v).members = s.members := rfl
@[simp] theorem State.setStartRequested_merge (s : State) (v : Bool) : (s.setStartRequested v).merge = s.merge := rfl
@[simp] theorem State.setStartRequested_track (s : State) (v : Bool) : (s.setStartRequested v).track = s.track := rfl
@[simp] theorem State.setStartRequested_stations (s : State) (v : Bool) : (s.setStartRequested v).stations = s.stations := rfl
@[simp] theorem State.setStartRequested_halt (s : State) (v : Bool) : (s.setStartRequested v).halt = s.halt := rfl
@[simp] theorem State.setStartRequested_mgmt (s : State) (v : Bool) : (s.setStartRequested v).mgmt = s.mgmt := rfl
@[simp] theorem State.setStartRequested_handed (s : State) (v : Bool) : (s.setStartRequested v).handed = s.handed := rfl
@[simp] theorem State.setStartRequested_raised (s : State) (v : Bool) : (s.setStartRequested v).raised = s.raised := rfl
@[simp] theorem State.setStartRequested_startRequested (s : State) (v : Bool) : (s.setStartRequested v).startRequested = v := rfl
@[simp] theorem State.setStartRequested_inReset (s : State) (v : Bool) : (s.setStartRequested v).inReset = s.inReset := rfl
@[simp] theorem State.setStartRequested_pending (s : State) (v : Bool) : (s.setStartRequested v).pending = s.pending := rfl

/-! ## setPort -/

@[simp] theorem State.setPort_nodes (s : State) (p : PortId) (q : Port) : (s.setPort p q).nodes = s.nodes := by
  cases p <;> rfl
@[simp] theorem State.setPort_sales (s : State) (p : PortId) (q : Port) : (s.setPort p q).sales = s.sales := by
  cases p <;> rfl
@[simp] theorem State.setPort_members (s : State) (p : PortId) (q : Port) : (s.setPort p q).members = s.members := by
  cases p <;> rfl
@[simp] theorem State.setPort_merge (s : State) (p : PortId) (q : Port) : (s.setPort p q).merge = s.merge := by
  cases p <;> rfl
@[simp] theorem State.setPort_track (s : State) (p : PortId) (q : Port) : (s.setPort p q).track = s.track := by
  cases p <;> rfl
@[simp] theorem State.setPort_stations (s : State) (p : PortId) (q : Port) : (s.setPort p q).stations = s.stations := by
  cases p <;> rfl
@[simp] theorem State.setPort_halt (s : State) (p : PortId) (q : Port) : (s.setPort p q).halt = s.halt := by
  cases p <;> rfl
@[simp] theorem State.setPort_mgmt (s : State) (p : PortId) (q : Port) : (s.setPort p q).mgmt = s.mgmt := by
  cases p <;> rfl
@[simp] theorem State.setPort_handed (s : State) (p : PortId) (q : Port) : (s.setPort p q).handed = s.handed := by
  cases p <;> rfl
@[simp] theorem State.setPort_raised (s : State) (p : PortId) (q : Port) : (s.setPort p q).raised = s.raised := by
  cases p <;> rfl
@[simp] theorem State.setPort_startRequested (s : State) (p : PortId) (q : Port) : (s.setPort p q).startRequested = s.startRequested := by
  cases p <;> rfl
@[simp] theorem State.setPort_inReset (s : State) (p : PortId) (q : Port) : (s.setPort p q).inReset = s.inReset := by
  cases p <;> rfl
@[simp] theorem State.setPort_pending (s : State) (p : PortId) (q : Port) : (s.setPort p q).pending = s.pending := by
  cases p <;> rfl

@[simp] theorem State.setPort_s_portS (s : State) (q : Port) : (s.setPort .s q).portS = q := rfl
@[simp] theorem State.setPort_s_portF (s : State) (q : Port) : (s.setPort .s q).portF = s.portF := rfl
@[simp] theorem State.setPort_f_portF (s : State) (q : Port) : (s.setPort .f q).portF = q := rfl
@[simp] theorem State.setPort_f_portS (s : State) (q : Port) : (s.setPort .f q).portS = s.portS := rfl
@[simp] theorem State.port_setPort (s : State) (p : PortId) (q : Port) : (s.setPort p q).port p = q := by cases p <;> rfl

/-! ## setNode -/

@[simp] theorem State.setNode_portS (s : State) (a : Nat) (r : NodeRecord) : (s.setNode a r).portS = s.portS := rfl
@[simp] theorem State.setNode_portF (s : State) (a : Nat) (r : NodeRecord) : (s.setNode a r).portF = s.portF := rfl
@[simp] theorem State.setNode_sales (s : State) (a : Nat) (r : NodeRecord) : (s.setNode a r).sales = s.sales := rfl
@[simp] theorem State.setNode_members (s : State) (a : Nat) (r : NodeRecord) : (s.setNode a r).members = s.members := rfl
@[simp] theorem State.setNode_merge (s : State) (a : Nat) (r : NodeRecord) : (s.setNode a r).merge = s.merge := rfl
@[simp] theorem State.setNode_track (s : State) (a : Nat) (r : NodeRecord) : (s.setNode a r).track = s.track := rfl
@[simp] theorem State.setNode_stations (s : State) (a : Nat) (r : NodeRecord) : (s.setNode a r).stations = s.stations := rfl
@[simp] theorem State.setNode_halt (s : State) (a : Nat) (r : NodeRecord) : (s.setNode a r).halt = s.halt := rfl
@[simp] theorem State.setNode_mgmt (s : State) (a : Nat) (r : NodeRecord) : (s.setNode a r).mgmt = s.mgmt := rfl
@[simp] theorem State.setNode_handed (s : State) (a : Nat) (r : NodeRecord) : (s.setNode a r).handed = s.handed := rfl
@[simp] theorem State.setNode_raised (s : State) (a : Nat) (r : NodeRecord) : (s.setNode a r).raised = s.raised := rfl
@[simp] theorem State.setNode_startRequested (s : State) (a : Nat) (r : NodeRecord) : (s.setNode a r).startRequested = s.startRequested := rfl
@[simp] theorem State.setNode_inReset (s : State) (a : Nat) (r : NodeRecord) : (s.setNode a r).inReset = s.inReset := rfl
@[simp] theorem State.setNode_pending (s : State) (a : Nat) (r : NodeRecord) : (s.setNode a r).pending = s.pending := rfl

/-! ## setLane -/

@[simp] theorem State.setLane_portS (s : State) (l : Nat) (v : LaneSales) : (s.setLane l v).portS = s.portS := rfl
@[simp] theorem State.setLane_portF (s : State) (l : Nat) (v : LaneSales) : (s.setLane l v).portF = s.portF := rfl
@[simp] theorem State.setLane_nodes (s : State) (l : Nat) (v : LaneSales) : (s.setLane l v).nodes = s.nodes := rfl
@[simp] theorem State.setLane_members (s : State) (l : Nat) (v : LaneSales) : (s.setLane l v).members = s.members := rfl
@[simp] theorem State.setLane_merge (s : State) (l : Nat) (v : LaneSales) : (s.setLane l v).merge = s.merge := rfl
@[simp] theorem State.setLane_track (s : State) (l : Nat) (v : LaneSales) : (s.setLane l v).track = s.track := rfl
@[simp] theorem State.setLane_stations (s : State) (l : Nat) (v : LaneSales) : (s.setLane l v).stations = s.stations := rfl
@[simp] theorem State.setLane_halt (s : State) (l : Nat) (v : LaneSales) : (s.setLane l v).halt = s.halt := rfl
@[simp] theorem State.setLane_mgmt (s : State) (l : Nat) (v : LaneSales) : (s.setLane l v).mgmt = s.mgmt := rfl
@[simp] theorem State.setLane_handed (s : State) (l : Nat) (v : LaneSales) : (s.setLane l v).handed = s.handed := rfl
@[simp] theorem State.setLane_raised (s : State) (l : Nat) (v : LaneSales) : (s.setLane l v).raised = s.raised := rfl
@[simp] theorem State.setLane_startRequested (s : State) (l : Nat) (v : LaneSales) : (s.setLane l v).startRequested = s.startRequested := rfl
@[simp] theorem State.setLane_inReset (s : State) (l : Nat) (v : LaneSales) : (s.setLane l v).inReset = s.inReset := rfl
@[simp] theorem State.setLane_pending (s : State) (l : Nat) (v : LaneSales) : (s.setLane l v).pending = s.pending := rfl

/-! ## setOrder -/

@[simp] theorem State.setOrder_portS (s : State) (r : Nat) (v : Order) : (s.setOrder r v).portS = s.portS := rfl
@[simp] theorem State.setOrder_portF (s : State) (r : Nat) (v : Order) : (s.setOrder r v).portF = s.portF := rfl
@[simp] theorem State.setOrder_nodes (s : State) (r : Nat) (v : Order) : (s.setOrder r v).nodes = s.nodes := rfl
@[simp] theorem State.setOrder_members (s : State) (r : Nat) (v : Order) : (s.setOrder r v).members = s.members := rfl
@[simp] theorem State.setOrder_merge (s : State) (r : Nat) (v : Order) : (s.setOrder r v).merge = s.merge := rfl
@[simp] theorem State.setOrder_track (s : State) (r : Nat) (v : Order) : (s.setOrder r v).track = s.track := rfl
@[simp] theorem State.setOrder_stations (s : State) (r : Nat) (v : Order) : (s.setOrder r v).stations = s.stations := rfl
@[simp] theorem State.setOrder_halt (s : State) (r : Nat) (v : Order) : (s.setOrder r v).halt = s.halt := rfl
@[simp] theorem State.setOrder_mgmt (s : State) (r : Nat) (v : Order) : (s.setOrder r v).mgmt = s.mgmt := rfl
@[simp] theorem State.setOrder_handed (s : State) (r : Nat) (v : Order) : (s.setOrder r v).handed = s.handed := rfl
@[simp] theorem State.setOrder_raised (s : State) (r : Nat) (v : Order) : (s.setOrder r v).raised = s.raised := rfl
@[simp] theorem State.setOrder_startRequested (s : State) (r : Nat) (v : Order) : (s.setOrder r v).startRequested = s.startRequested := rfl
@[simp] theorem State.setOrder_inReset (s : State) (r : Nat) (v : Order) : (s.setOrder r v).inReset = s.inReset := rfl
@[simp] theorem State.setOrder_pending (s : State) (r : Nat) (v : Order) : (s.setOrder r v).pending = s.pending := rfl

/-! ## setMember -/

@[simp] theorem State.setMember_portS (s : State) (n : Nat) (v : Member) : (s.setMember n v).portS = s.portS := rfl
@[simp] theorem State.setMember_portF (s : State) (n : Nat) (v : Member) : (s.setMember n v).portF = s.portF := rfl
@[simp] theorem State.setMember_nodes (s : State) (n : Nat) (v : Member) : (s.setMember n v).nodes = s.nodes := rfl
@[simp] theorem State.setMember_sales (s : State) (n : Nat) (v : Member) : (s.setMember n v).sales = s.sales := rfl
@[simp] theorem State.setMember_merge (s : State) (n : Nat) (v : Member) : (s.setMember n v).merge = s.merge := rfl
@[simp] theorem State.setMember_track (s : State) (n : Nat) (v : Member) : (s.setMember n v).track = s.track := rfl
@[simp] theorem State.setMember_stations (s : State) (n : Nat) (v : Member) : (s.setMember n v).stations = s.stations := rfl
@[simp] theorem State.setMember_halt (s : State) (n : Nat) (v : Member) : (s.setMember n v).halt = s.halt := rfl
@[simp] theorem State.setMember_mgmt (s : State) (n : Nat) (v : Member) : (s.setMember n v).mgmt = s.mgmt := rfl
@[simp] theorem State.setMember_handed (s : State) (n : Nat) (v : Member) : (s.setMember n v).handed = s.handed := rfl
@[simp] theorem State.setMember_raised (s : State) (n : Nat) (v : Member) : (s.setMember n v).raised = s.raised := rfl
@[simp] theorem State.setMember_startRequested (s : State) (n : Nat) (v : Member) : (s.setMember n v).startRequested = s.startRequested := rfl
@[simp] theorem State.setMember_inReset (s : State) (n : Nat) (v : Member) : (s.setMember n v).inReset = s.inReset := rfl
@[simp] theorem State.setMember_pending (s : State) (n : Nat) (v : Member) : (s.setMember n v).pending = s.pending := rfl

/-! ## setFetch -/

@[simp] theorem State.setFetch_portS (s : State) (n : Nat) (v : Fetch) : (s.setFetch n v).portS = s.portS := rfl
@[simp] theorem State.setFetch_portF (s : State) (n : Nat) (v : Fetch) : (s.setFetch n v).portF = s.portF := rfl
@[simp] theorem State.setFetch_nodes (s : State) (n : Nat) (v : Fetch) : (s.setFetch n v).nodes = s.nodes := rfl
@[simp] theorem State.setFetch_sales (s : State) (n : Nat) (v : Fetch) : (s.setFetch n v).sales = s.sales := rfl
@[simp] theorem State.setFetch_merge (s : State) (n : Nat) (v : Fetch) : (s.setFetch n v).merge = s.merge := rfl
@[simp] theorem State.setFetch_track (s : State) (n : Nat) (v : Fetch) : (s.setFetch n v).track = s.track := rfl
@[simp] theorem State.setFetch_stations (s : State) (n : Nat) (v : Fetch) : (s.setFetch n v).stations = s.stations := rfl
@[simp] theorem State.setFetch_halt (s : State) (n : Nat) (v : Fetch) : (s.setFetch n v).halt = s.halt := rfl
@[simp] theorem State.setFetch_mgmt (s : State) (n : Nat) (v : Fetch) : (s.setFetch n v).mgmt = s.mgmt := rfl
@[simp] theorem State.setFetch_handed (s : State) (n : Nat) (v : Fetch) : (s.setFetch n v).handed = s.handed := rfl
@[simp] theorem State.setFetch_raised (s : State) (n : Nat) (v : Fetch) : (s.setFetch n v).raised = s.raised := rfl
@[simp] theorem State.setFetch_startRequested (s : State) (n : Nat) (v : Fetch) : (s.setFetch n v).startRequested = s.startRequested := rfl
@[simp] theorem State.setFetch_inReset (s : State) (n : Nat) (v : Fetch) : (s.setFetch n v).inReset = s.inReset := rfl
@[simp] theorem State.setFetch_pending (s : State) (n : Nat) (v : Fetch) : (s.setFetch n v).pending = s.pending := rfl

/-! ## setMergeLane -/

@[simp] theorem State.setMergeLane_portS (s : State) (l : Nat) (v : LaneMerge) : (s.setMergeLane l v).portS = s.portS := rfl
@[simp] theorem State.setMergeLane_portF (s : State) (l : Nat) (v : LaneMerge) : (s.setMergeLane l v).portF = s.portF := rfl
@[simp] theorem State.setMergeLane_nodes (s : State) (l : Nat) (v : LaneMerge) : (s.setMergeLane l v).nodes = s.nodes := rfl
@[simp] theorem State.setMergeLane_sales (s : State) (l : Nat) (v : LaneMerge) : (s.setMergeLane l v).sales = s.sales := rfl
@[simp] theorem State.setMergeLane_members (s : State) (l : Nat) (v : LaneMerge) : (s.setMergeLane l v).members = s.members := rfl
@[simp] theorem State.setMergeLane_track (s : State) (l : Nat) (v : LaneMerge) : (s.setMergeLane l v).track = s.track := rfl
@[simp] theorem State.setMergeLane_stations (s : State) (l : Nat) (v : LaneMerge) : (s.setMergeLane l v).stations = s.stations := rfl
@[simp] theorem State.setMergeLane_halt (s : State) (l : Nat) (v : LaneMerge) : (s.setMergeLane l v).halt = s.halt := rfl
@[simp] theorem State.setMergeLane_mgmt (s : State) (l : Nat) (v : LaneMerge) : (s.setMergeLane l v).mgmt = s.mgmt := rfl
@[simp] theorem State.setMergeLane_handed (s : State) (l : Nat) (v : LaneMerge) : (s.setMergeLane l v).handed = s.handed := rfl
@[simp] theorem State.setMergeLane_raised (s : State) (l : Nat) (v : LaneMerge) : (s.setMergeLane l v).raised = s.raised := rfl
@[simp] theorem State.setMergeLane_startRequested (s : State) (l : Nat) (v : LaneMerge) : (s.setMergeLane l v).startRequested = s.startRequested := rfl
@[simp] theorem State.setMergeLane_inReset (s : State) (l : Nat) (v : LaneMerge) : (s.setMergeLane l v).inReset = s.inReset := rfl
@[simp] theorem State.setMergeLane_pending (s : State) (l : Nat) (v : LaneMerge) : (s.setMergeLane l v).pending = s.pending := rfl

/-! ## setStation -/

@[simp] theorem State.setStation_portS (s : State) (i : Nat) (v : Station) : (s.setStation i v).portS = s.portS := rfl
@[simp] theorem State.setStation_portF (s : State) (i : Nat) (v : Station) : (s.setStation i v).portF = s.portF := rfl
@[simp] theorem State.setStation_nodes (s : State) (i : Nat) (v : Station) : (s.setStation i v).nodes = s.nodes := rfl
@[simp] theorem State.setStation_sales (s : State) (i : Nat) (v : Station) : (s.setStation i v).sales = s.sales := rfl
@[simp] theorem State.setStation_members (s : State) (i : Nat) (v : Station) : (s.setStation i v).members = s.members := rfl
@[simp] theorem State.setStation_merge (s : State) (i : Nat) (v : Station) : (s.setStation i v).merge = s.merge := rfl
@[simp] theorem State.setStation_track (s : State) (i : Nat) (v : Station) : (s.setStation i v).track = s.track := rfl
@[simp] theorem State.setStation_halt (s : State) (i : Nat) (v : Station) : (s.setStation i v).halt = s.halt := rfl
@[simp] theorem State.setStation_mgmt (s : State) (i : Nat) (v : Station) : (s.setStation i v).mgmt = s.mgmt := rfl
@[simp] theorem State.setStation_handed (s : State) (i : Nat) (v : Station) : (s.setStation i v).handed = s.handed := rfl
@[simp] theorem State.setStation_raised (s : State) (i : Nat) (v : Station) : (s.setStation i v).raised = s.raised := rfl
@[simp] theorem State.setStation_startRequested (s : State) (i : Nat) (v : Station) : (s.setStation i v).startRequested = s.startRequested := rfl
@[simp] theorem State.setStation_inReset (s : State) (i : Nat) (v : Station) : (s.setStation i v).inReset = s.inReset := rfl
@[simp] theorem State.setStation_pending (s : State) (i : Nat) (v : Station) : (s.setStation i v).pending = s.pending := rfl

/-! ## setCars -/

@[simp] theorem State.setCars_portS (s : State) (l : List Car) : (s.setCars l).portS = s.portS := rfl
@[simp] theorem State.setCars_portF (s : State) (l : List Car) : (s.setCars l).portF = s.portF := rfl
@[simp] theorem State.setCars_nodes (s : State) (l : List Car) : (s.setCars l).nodes = s.nodes := rfl
@[simp] theorem State.setCars_sales (s : State) (l : List Car) : (s.setCars l).sales = s.sales := rfl
@[simp] theorem State.setCars_members (s : State) (l : List Car) : (s.setCars l).members = s.members := rfl
@[simp] theorem State.setCars_merge (s : State) (l : List Car) : (s.setCars l).merge = s.merge := rfl
@[simp] theorem State.setCars_stations (s : State) (l : List Car) : (s.setCars l).stations = s.stations := rfl
@[simp] theorem State.setCars_halt (s : State) (l : List Car) : (s.setCars l).halt = s.halt := rfl
@[simp] theorem State.setCars_mgmt (s : State) (l : List Car) : (s.setCars l).mgmt = s.mgmt := rfl
@[simp] theorem State.setCars_handed (s : State) (l : List Car) : (s.setCars l).handed = s.handed := rfl
@[simp] theorem State.setCars_raised (s : State) (l : List Car) : (s.setCars l).raised = s.raised := rfl
@[simp] theorem State.setCars_startRequested (s : State) (l : List Car) : (s.setCars l).startRequested = s.startRequested := rfl
@[simp] theorem State.setCars_inReset (s : State) (l : List Car) : (s.setCars l).inReset = s.inReset := rfl
@[simp] theorem State.setCars_pending (s : State) (l : List Car) : (s.setCars l).pending = s.pending := rfl

/-! ## modCar -/

@[simp] theorem State.modCar_portS (s : State) (tag : Nat) (g : Car → Car) : (s.modCar tag g).portS = s.portS := rfl
@[simp] theorem State.modCar_portF (s : State) (tag : Nat) (g : Car → Car) : (s.modCar tag g).portF = s.portF := rfl
@[simp] theorem State.modCar_nodes (s : State) (tag : Nat) (g : Car → Car) : (s.modCar tag g).nodes = s.nodes := rfl
@[simp] theorem State.modCar_sales (s : State) (tag : Nat) (g : Car → Car) : (s.modCar tag g).sales = s.sales := rfl
@[simp] theorem State.modCar_members (s : State) (tag : Nat) (g : Car → Car) : (s.modCar tag g).members = s.members := rfl
@[simp] theorem State.modCar_merge (s : State) (tag : Nat) (g : Car → Car) : (s.modCar tag g).merge = s.merge := rfl
@[simp] theorem State.modCar_stations (s : State) (tag : Nat) (g : Car → Car) : (s.modCar tag g).stations = s.stations := rfl
@[simp] theorem State.modCar_halt (s : State) (tag : Nat) (g : Car → Car) : (s.modCar tag g).halt = s.halt := rfl
@[simp] theorem State.modCar_mgmt (s : State) (tag : Nat) (g : Car → Car) : (s.modCar tag g).mgmt = s.mgmt := rfl
@[simp] theorem State.modCar_handed (s : State) (tag : Nat) (g : Car → Car) : (s.modCar tag g).handed = s.handed := rfl
@[simp] theorem State.modCar_raised (s : State) (tag : Nat) (g : Car → Car) : (s.modCar tag g).raised = s.raised := rfl
@[simp] theorem State.modCar_startRequested (s : State) (tag : Nat) (g : Car → Car) : (s.modCar tag g).startRequested = s.startRequested := rfl
@[simp] theorem State.modCar_inReset (s : State) (tag : Nat) (g : Car → Car) : (s.modCar tag g).inReset = s.inReset := rfl
@[simp] theorem State.modCar_pending (s : State) (tag : Nat) (g : Car → Car) : (s.modCar tag g).pending = s.pending := rfl

end Sys2Proof.Machine
end

