-- ==== Sys2Proof/Laws/Frames.lean ====
section
/-!
SUPPORT. What each shared operation can touch, said once: notices, causes, offers, the link, the conveyor and the merge.
-/
namespace Sys2Proof.Machine

/-! ## Frames compose -/

theorem SameExcept.refl {l : List Part} {s : State} : SameExcept l s s := by
  constructor
  intro p _
  cases p <;> rfl

theorem SameExcept.trans {l : List Part} {s t u : State} (h : SameExcept l s t) (k : SameExcept l t u) :
    SameExcept l s u := by
  constructor
  intro p hp
  have a := h.same p hp
  have b := k.same p hp
  cases p <;> exact Eq.trans b a

theorem SameExcept.within {l m : List Part} {s t : State} (h : SameExcept l s t) (hl : ∀ p ∈ l, p ∈ m) :
    SameExcept m s t := ⟨fun p hp => h.same p fun hm => hp (hl p hm)⟩

theorem SameExcept.foldl {α : Type} {l : List Part} {g : State → α → State}
    (h : ∀ t x, SameExcept l t (g t x)) (xs : List α) : ∀ s, SameExcept l s (xs.foldl g s) := by
  induction xs with
  | nil => intro s; exact .refl
  | cons x xs ih => intro s; exact (h s x).trans (ih (g s x))

/-- A choice touches what either side touches. -/
theorem SameExcept.ite {l : List Part} {s t u : State} {c : Prop} [Decidable c] (h : SameExcept l s t)
    (k : SameExcept l s u) : SameExcept l s (if c then t else u) := by
  split
  · exact h
  · exact k

/-! ## Setters -/

theorem setNodes_frame (s : State) (v : List NodeRecord) : SameExcept [.nodes] s (s.setNodes v) := by
  constructor; intro p hp; cases p <;> first | rfl | simp at hp
theorem setSales_frame (s : State) (v : Sales) : SameExcept [.sales] s (s.setSales v) := by
  constructor; intro p hp; cases p <;> first | rfl | simp at hp
theorem setMembers_frame (s : State) (v : Members) : SameExcept [.members] s (s.setMembers v) := by
  constructor; intro p hp; cases p <;> first | rfl | simp at hp
theorem setMerge_frame (s : State) (v : Merge) : SameExcept [.merge] s (s.setMerge v) := by
  constructor; intro p hp; cases p <;> first | rfl | simp at hp
theorem setTrack_frame (s : State) (v : Track) : SameExcept [.track] s (s.setTrack v) := by
  constructor; intro p hp; cases p <;> first | rfl | simp at hp
theorem setStations_frame (s : State) (v : List Station) : SameExcept [.stations] s (s.setStations v) := by
  constructor; intro p hp; cases p <;> first | rfl | simp at hp
theorem setHalt_frame (s : State) (v : Halt) : SameExcept [.halt] s (s.setHalt v) := by
  constructor; intro p hp; cases p <;> first | rfl | simp at hp
theorem setMgmt_frame (s : State) (v : Mgmt) : SameExcept [.mgmt] s (s.setMgmt v) := by
  constructor; intro p hp; cases p <;> first | rfl | simp at hp
theorem setHanded_frame (s : State) (v : List Instr) : SameExcept [.handed] s (s.setHanded v) := by
  constructor; intro p hp; cases p <;> first | rfl | simp at hp
theorem setRaised_frame (s : State) (v : List (CauseKind × CauseDetail)) : SameExcept [.raised] s (s.setRaised v) := by
  constructor; intro p hp; cases p <;> first | rfl | simp at hp
theorem setStartRequested_frame (s : State) (v : Bool) : SameExcept [.start] s (s.setStartRequested v) := by
  constructor; intro p hp; cases p <;> first | rfl | simp at hp
theorem setPort_frame (s : State) (p : PortId) (q : Port) : SameExcept [portPart p] s (s.setPort p q) := by
  constructor; intro a ha
  cases p <;> cases a <;> first | rfl | simp [portPart] at ha

/-! ## Notices and causes -/

theorem notify_frame (s : State) (c : NoticeClass) (d : NoticeDetail) : SameExcept [.mgmt] s (s.notify c d) :=
  setMgmt_frame ..
theorem notifyHalt_frame (s : State) (m : Option Mode) (k : Option CauseKind) : SameExcept [.mgmt] s (s.notifyHalt m k) :=
  setMgmt_frame ..
theorem notifyLink_frame (s : State) (p : PortId) (n : Nat) : SameExcept [.mgmt] s (s.notifyLink p n) :=
  setMgmt_frame ..
theorem notifyNode_frame (s : State) (a n : Nat) (arg : Option Nat) : SameExcept [.mgmt] s (s.notifyNode a n arg) :=
  setMgmt_frame ..
theorem notifyTrack_frame (s : State) (n : Nat) (tag arg : Option Nat) :
    SameExcept [.mgmt] s (s.notifyTrack n tag arg) := setMgmt_frame ..
theorem notifyStation_frame (s : State) (n i : Nat) (tag : Option Nat) :
    SameExcept [.mgmt] s (s.notifyStation n i tag) := setMgmt_frame ..
theorem notifySales_frame (s : State) (n place : Nat) (tag arg : Option Nat) :
    SameExcept [.mgmt] s (s.notifySales n place tag arg) := setMgmt_frame ..
theorem notifyMember_frame (s : State) (n id : Nat) : SameExcept [.mgmt] s (s.notifyMember n id) := setMgmt_frame ..
theorem raiseCause_frame (s : State) (k : CauseKind) (d : CauseDetail) : SameExcept [.raised] s (s.raiseCause k d) :=
  setRaised_frame ..

/-! ## Offers -/

theorem noteLost_frame (s : State) (f : Frame) : SameExcept [.mgmt] s (s.noteLost f) := by
  unfold State.noteLost
  split
  · exact notify_frame ..
  · exact .refl

theorem offerNormal_frame (s : State) (p : PortId) (f : OutFrame) :
    SameExcept [portPart p, .mgmt] s (s.offerNormal p f) := by
  unfold State.offerNormal
  dsimp only
  split
  · exact (setPort_frame ..).within (by simp)
  · exact ((setPort_frame ..).within (by simp)).trans
      (((notifyLink_frame ..).within (by simp)).trans ((noteLost_frame ..).within (by simp)))

theorem offerUrgent_frame (s : State) (p : PortId) (f : OutFrame) :
    SameExcept [portPart p, .raised] s (s.offerUrgent p f) := by
  unfold State.offerUrgent
  dsimp only
  split
  · exact .refl
  · split
    · exact (setPort_frame ..).within (by simp)
    · exact ((setPort_frame ..).within (by simp)).trans ((raiseCause_frame ..).within (by simp))

theorem toSite_frame (s : State) (k : Byte) (l : List Byte) : SameExcept [.portS, .mgmt] s (s.toSite k l) :=
  offerNormal_frame s .s _

theorem reply_frame (s : State) (seq : Byte) (code : Nat) (st : Status) (l : List Byte) :
    SameExcept [.portS, .mgmt] s (s.reply seq code st l) := offerNormal_frame s .s _

theorem toField_frame (s : State) (d : Option Nat) (k : Byte) (l : List Byte) :
    SameExcept [.portF, .mgmt] s (s.toField d k l) := by
  unfold State.toField
  split
  · exact offerNormal_frame s .f _
  · exact .refl

theorem toFieldUrgent_frame (s : State) (d : Option Nat) (k : Byte) (l : List Byte) :
    SameExcept [.portF, .raised] s (s.toFieldUrgent d k l) := by
  unfold State.toFieldUrgent
  split
  · exact offerUrgent_frame s .f _
  · exact .refl

/-! ## The link (chapter 1) -/

theorem rxError_frame (s : State) (p : PortId) (e : RxError) : SameExcept [portPart p, .mgmt] s (s.rxError p e) :=
  ((setPort_frame ..).within (by simp)).trans ((notifyLink_frame ..).within (by simp))

theorem setRx_frame (s : State) (p : PortId) (rx : RxState) (l : List Byte) :
    SameExcept [portPart p] s (s.setRx p rx l) := setPort_frame ..

theorem abortFrame_frame (s : State) (p : PortId) (e : RxError) :
    SameExcept [portPart p, .mgmt] s (s.abortFrame p e) :=
  ((setRx_frame ..).within (by simp)).trans (rxError_frame ..)

theorem judgePause_frame (s : State) (p : PortId) : SameExcept [portPart p, .raised] s (s.judgePause p) := by
  cases p with
  | s => exact .refl
  | f =>
    unfold State.judgePause
    dsimp only
    split
    · exact ((setPort_frame ..).within (by simp)).trans (offerUrgent_frame ..)
    · exact .refl

theorem judgeResume_frame (s : State) (p : PortId) : SameExcept [portPart p, .raised] s (s.judgeResume p) := by
  cases p with
  | s => exact .refl
  | f =>
    unfold State.judgeResume
    dsimp only
    split
    · exact ((setPort_frame ..).within (by simp)).trans (offerUrgent_frame ..)
    · exact .refl

theorem offerInbound_frame (s : State) (p : PortId) (f : Frame) :
    SameExcept [portPart p, .mgmt, .raised] s (s.offerInbound p f) := by
  unfold State.offerInbound
  dsimp only
  split
  · exact ((setPort_frame ..).within (by simp)).trans ((judgePause_frame ..).within (by simp))
  · exact ((setPort_frame ..).within (by simp)).trans ((notifyLink_frame ..).within (by simp))

theorem content_frame (s : State) (p : PortId) (b : Byte) : SameExcept [portPart p, .mgmt] s (s.content p b) := by
  unfold State.content
  dsimp only
  split
  · exact (setRx_frame ..).within (by simp)
  · split
    · split
      · exact abortFrame_frame ..
      · exact (setRx_frame ..).within (by simp)
    · split
      · exact (setRx_frame ..).within (by simp)
      · exact abortFrame_frame ..

theorem closeFrame_frame (s : State) (p : PortId) : SameExcept [portPart p, .mgmt, .raised] s (s.closeFrame p) := by
  unfold State.closeFrame
  dsimp only
  have h := setRx_frame s p .collect []
  split
  · exact h.within (by simp)
  · split
    · exact (h.within (by simp)).trans ((rxError_frame ..).within (by simp))
    · exact (h.within (by simp)).trans (offerInbound_frame ..)

theorem receive_frame (s : State) (p : PortId) (b : Byte) : SameExcept [portPart p, .mgmt, .raised] s (s.receive p b) := by
  have content := fun c : Byte => (content_frame s p c).within (m := [portPart p, .mgmt, .raised]) (by simp)
  have abort := fun e => (abortFrame_frame s p e).within (m := [portPart p, .mgmt, .raised]) (by simp)
  have rx := fun r l => (setRx_frame s p r l).within (m := [portPart p, .mgmt, .raised]) (by simp)
  unfold State.receive
  split
  · exact .ite (rx ..) .refl
  · exact .ite (closeFrame_frame ..) (.ite (rx ..) (.ite (.ite .refl (abort ..)) (content ..)))
  · exact .ite (content ..) (.ite (content ..) (.ite (content ..)
      (.ite ((rx ..).trans ((rxError_frame ..).within (by simp))) (.ite (abort ..) (abort ..)))))

theorem countHalt_frame (s : State) (p : PortId) (b : Byte) :
    SameExcept [portPart p, .raised] s (s.countHalt p b) := by
  have h := fun q => (setPort_frame s p q).within (m := [portPart p, .raised]) (by simp)
  unfold State.countHalt
  exact .ite (.ite (h _) ((h _).trans ((raiseCause_frame ..).within (by simp)))) (h _)

theorem countBlocked_frame (s : State) : SameExcept [.portS, .mgmt] s s.countBlocked :=
  ((setPort_frame s .s _).within (by decide)).trans ((notifyLink_frame ..).within (by decide))

theorem sweep_frame (s : State) : SameExcept [.portS, .portF, .mgmt] s s.sweep :=
  ((setPort_frame s .f _).within (by decide)).trans
    (SameExcept.foldl (fun t _ => (countBlocked_frame t).within (by decide)) _ _)

theorem restartPort_frame (s : State) (p : PortId) :
    SameExcept [portPart p, .mgmt, .raised] s (s.restartPort p) := by
  have lost (l : List OutFrame) (t : State) :
      SameExcept [portPart p, .mgmt, .raised] t (l.foldl (fun t f => t.noteLost f.frame) t) :=
    SameExcept.foldl (fun t f => (noteLost_frame t f.frame).within (by simp)) l t
  have start : SameExcept [portPart p, .mgmt, .raised] s (s.setPort p (Port.restart (s.port p))) :=
    (setPort_frame ..).within (by simp)
  unfold State.restartPort
  exact .ite ((start.trans (lost ..)).trans ((offerUrgent_frame ..).within (by simp))) (start.trans (lost ..))

/-! ## The conveyor (section 6.1) -/

theorem driveCmd_frame (s : State) (a b : Nat) : SameExcept [.portF, .mgmt] s (s.driveCmd a b) := toField_frame ..
theorem driveStop_frame (s : State) : SameExcept [.portF, .raised] s s.driveStop := toFieldUrgent_frame ..

theorem startConveyor_frame (s : State) : SameExcept [.track, .portF, .mgmt] s s.startConveyor :=
  ((setTrack_frame ..).within (by decide)).trans ((driveCmd_frame ..).within (by decide))

theorem takeStart_frame (s : State) : SameExcept [.track, .portF, .mgmt] s s.takeStart := by
  unfold State.takeStart
  split
  · split
    · exact startConveyor_frame s
    · exact .refl
    · exact .refl
    · exact (setTrack_frame ..).within (by decide)
  · exact .refl

theorem handStart_frame (s : State) : SameExcept [.start] s s.handStart := by
  unfold State.handStart
  exact .ite (setStartRequested_frame ..) .refl

theorem conveyorStopped_frame (s : State) : SameExcept [.track, .portF, .mgmt] s s.conveyorStopped := by
  have h := fun v => (setTrack_frame s v).within (m := [.track, .portF, .mgmt]) (by decide)
  unfold State.conveyorStopped
  exact .ite ((h _).trans (startConveyor_frame _)) (h _)

theorem judgeSpeed_frame (s : State) : SameExcept [.track, .portF, .mgmt] s s.judgeSpeed := by
  unfold State.judgeSpeed
  exact .ite (((setTrack_frame ..).within (by decide)).trans ((driveCmd_frame ..).within (by decide))) .refl

theorem judgeStandby_frame (s : State) : SameExcept [.track] s s.judgeStandby := by
  unfold State.judgeStandby
  split
  · split
    · exact setTrack_frame ..
    · exact .refl
  · exact setTrack_frame ..

theorem judgeConveyor_frame (s : State) : SameExcept [.track, .portF, .mgmt] s s.judgeConveyor :=
  (judgeSpeed_frame s).trans ((judgeStandby_frame _).within (by decide))

theorem stopConveyor_frame (s : State) : SameExcept [.track, .portF, .raised] s s.stopConveyor :=
  ((setTrack_frame ..).within (by decide)).trans ((driveStop_frame _).within (by decide))

/-! ## Merge and Entry (chapter 5) -/

theorem setGate_frame (s : State) (l : Nat) (g : Gate) : SameExcept [.merge] s (s.setGate l g) := setMerge_frame ..

theorem openGate_frame (s : State) (l : Nat) : SameExcept [.portF, .mgmt, .merge] s (s.openGate l) :=
  ((toField_frame ..).within (by decide)).trans ((setGate_frame ..).within (by decide))

theorem closeGate_frame (s : State) (l : Nat) : SameExcept [.portF, .mgmt, .merge] s (s.closeGate l) :=
  ((toField_frame ..).within (by decide)).trans ((setGate_frame ..).within (by decide))

theorem closeIfOpen_frame (s : State) (l : Nat) : SameExcept [.portF, .mgmt, .merge] s (s.closeIfOpen l) := by
  unfold State.closeIfOpen
  split
  · exact closeGate_frame ..
  · exact closeGate_frame ..
  · exact .refl
  · exact .refl

theorem closeOpenGates_frame (s : State) : SameExcept [.portF, .mgmt, .merge] s s.closeOpenGates :=
  SameExcept.foldl closeIfOpen_frame _ _

theorem setOrderState_frame (s : State) (r : Nat) (st : OrderState) : SameExcept [.sales] s (s.setOrderState r st) :=
  setSales_frame ..

theorem grantLane_frame (s : State) (l : Nat) : SameExcept [.sales, .merge, .portF, .mgmt] s (s.grantLane l) := by
  unfold State.grantLane
  split
  · exact .refl
  · exact ((setOrderState_frame ..).within (by decide)).trans
      (((setMerge_frame ..).within (by decide)).trans ((openGate_frame ..).within (by decide)))

theorem arbitrate_frame (s : State) : SameExcept [.sales, .merge, .portF, .mgmt, .start] s s.arbitrate := by
  unfold State.arbitrate
  split
  · split
    · exact .refl
    · split
      · exact (grantLane_frame ..).within (by decide)
      · exact .refl
      · exact (setStartRequested_frame ..).within (by decide)
      · exact (setStartRequested_frame ..).within (by decide)
  · exact .refl

theorem review_frame (s : State) : SameExcept reviewParts s s.review :=
  ((arbitrate_frame s).within (by decide)).trans ((judgeConveyor_frame _).within (by decide))

theorem markUnpaid_frame (s : State) (l : Nat) : SameExcept [.merge, .mgmt] s (s.markUnpaid l) :=
  ((setMerge_frame ..).within (by decide)).trans ((notifySales_frame ..).within (by decide))

theorem stage_frame (s : State) (l r : Nat) : SameExcept [.sales, .merge, .start] s (s.stage l r) :=
  ((setOrderState_frame ..).within (by decide)).trans
    (((setMerge_frame ..).within (by decide)).trans ((handStart_frame _).within (by decide)))

theorem judgePayment_frame (s : State) (l r : Nat) : SameExcept reviewParts s (s.judgePayment l r) := by
  unfold State.judgePayment
  exact .ite (((stage_frame ..).within (by decide)).trans (review_frame _)) ((judgeConveyor_frame _).within (by decide))

theorem stageOnBinding_frame (s : State) (l : Nat) :
    SameExcept [.sales, .merge, .mgmt, .start] s (s.stageOnBinding l) := by
  unfold State.stageOnBinding
  split
  · split
    · exact (markUnpaid_frame ..).within (by decide)
    · exact .ite ((stage_frame ..).within (by decide)) .refl
  · exact .refl

theorem judgeVoid_frame (s : State) (l : Nat) : SameExcept [.merge, .mgmt] s (s.judgeVoid l) := by
  unfold State.judgeVoid
  exact .ite (markUnpaid_frame ..) .refl

theorem endGrant_frame (s : State) (l : Nat) : SameExcept [.portF, .mgmt, .merge] s (s.endGrant l) :=
  ((setMerge_frame ..).within (by decide)).trans (closeGate_frame ..)

theorem ungrant_frame (s : State) (l r : Nat) : SameExcept [.sales, .start] s (s.ungrant l r) := by
  unfold State.ungrant
  exact .ite (((setOrderState_frame ..).within (by decide)).trans ((handStart_frame _).within (by decide)))
    ((setOrderState_frame ..).within (by decide))

theorem withdraw_frame (s : State) : SameExcept [.sales, .start, .portF, .mgmt, .merge] s s.withdraw := by
  unfold State.withdraw
  split
  · exact .refl
  · split
    · exact (endGrant_frame ..).within (by decide)
    · exact ((ungrant_frame ..).within (by decide)).trans ((endGrant_frame ..).within (by decide))

theorem uncommandedOpen_frame (s : State) (l : Nat) : SameExcept [.merge, .mgmt, .portF] s (s.uncommandedOpen l) := by
  have note : SameExcept [.merge, .mgmt, .portF] s (s.notifyGate l) := (setMgmt_frame ..).within (by decide)
  unfold State.uncommandedOpen
  exact .ite ((setGate_frame ..).within (by decide)) (.ite (note.trans ((closeGate_frame ..).within (by decide)))
    (note.trans ((setGate_frame ..).within (by decide))))

end Sys2Proof.Machine
end

