-- ==== Sys2Proof/Laws/BlockFrames.lean ====
section
/-!
SUPPORT. What the operations of the selling blocks, Stations, Halt, Tracking, the Node Table and Management can touch.
-/
namespace Sys2Proof.Machine

/-! ## Quotes (chapter 3) and members (chapter 4) -/

theorem setLane_frame (s : State) (l : Nat) (v : LaneSales) : SameExcept [.sales] s (s.setLane l v) := setSales_frame ..
theorem setOrder_frame (s : State) (r : Nat) (v : Order) : SameExcept [.sales] s (s.setOrder r v) := setSales_frame ..
theorem setSlot_frame (s : State) (l : Nat) (v : Slot) : SameExcept [.sales] s (s.setSlot l v) := setSales_frame ..
theorem setMember_frame (s : State) (n : Nat) (v : Member) : SameExcept [.members] s (s.setMember n v) :=
  setMembers_frame ..
theorem setFetch_frame (s : State) (n : Nat) (v : Fetch) : SameExcept [.members] s (s.setFetch n v) :=
  setMembers_frame ..
theorem toFront_frame (s : State) (n : Nat) : SameExcept [.members] s (s.toFront n) := setMembers_frame ..
theorem offList_frame (s : State) (n : Nat) : SameExcept [.members] s (s.offList n) := setMembers_frame ..
theorem emptySlot_frame (s : State) (l : Nat) : SameExcept [.sales] s (s.emptySlot l) := setSales_frame ..

theorem modMember_frame (s : State) (id : Nat) (g : Member → Member) :
    SameExcept [.members] s (s.modMember id g) := by
  unfold State.modMember
  split
  · exact setMember_frame ..
  · exact .refl

theorem releaseRef_frame (s : State) (m : Option Nat) : SameExcept [.members] s (s.releaseRef m) := by
  cases m
  · exact .refl
  · exact modMember_frame s _ fun r => { r with refs := r.refs - 1 }

theorem spendUse_frame (s : State) (m : Option Nat) : SameExcept [.members] s (s.spendUse m) := by
  cases m
  · exact .refl
  · exact modMember_frame s _ fun r => { r with uses := r.uses + 1, dirty := true }

theorem leaveFetch_frame (s : State) (l : Nat) (m : Option Nat) : SameExcept [.members] s (s.leaveFetch l m) := by
  unfold State.leaveFetch
  split
  · exact setFetch_frame ..
  · exact .refl

theorem quoteReply_frame (s : State) (l : Nat) (r : Reply) (k : Option Nat) (price : Nat) :
    SameExcept [.portF, .mgmt] s (s.quoteReply l r k price) := toField_frame ..

theorem refusePayment_frame (s : State) (l : Nat) (r : Reply) : SameExcept [.portF, .mgmt] s (s.refusePayment l r) :=
  toField_frame ..

theorem offerSlot_frame (s : State) (l : Nat) : SameExcept [.sales, .portF, .mgmt] s (s.offerSlot l) :=
  ((setSlot_frame ..).within (by decide)).trans ((quoteReply_frame ..).within (by decide))

theorem fillSlot_frame (s : State) (l plan : Nat) (a : ServiceSet) (price : Nat) (m : Option Nat) :
    SameExcept [.sales] s (s.fillSlot l plan a price m) := setLane_frame ..

theorem pendSlot_frame (s : State) (l : Nat) : SameExcept [.sales, .portF, .mgmt] s (s.pendSlot l) :=
  ((setSlot_frame ..).within (by decide)).trans ((quoteReply_frame ..).within (by decide))

theorem refusePending_frame (s : State) (l : Nat) (r : Reply) :
    SameExcept [.sales, .portF, .mgmt] s (s.refusePending l r) :=
  ((emptySlot_frame ..).within (by decide)).trans ((quoteReply_frame ..).within (by decide))

theorem letGo_frame (s : State) (l : Nat) : SameExcept [.members] s (s.letGo l) := by
  unfold State.letGo
  split
  · exact releaseRef_frame ..
  · exact leaveFetch_frame ..
  · exact .refl

theorem voidQuote_frame (s : State) (l : Nat) (r : Option Reply) :
    SameExcept [.sales, .members, .portF, .mgmt] s (s.voidQuote l r) := by
  have h : SameExcept [.sales, .members, .portF, .mgmt] s ((s.letGo l).emptySlot l) :=
    ((letGo_frame ..).within (by decide)).trans ((emptySlot_frame ..).within (by decide))
  unfold State.voidQuote
  split
  · cases r
    · exact h
    · exact h.trans ((quoteReply_frame ..).within (by decide))
  · exact .refl

theorem closeLane_frame (s : State) (l : Nat) (r : Option Reply) :
    SameExcept [.sales, .members, .portF, .mgmt] s (s.closeLane l r) := by
  unfold State.closeLane
  exact .ite ((voidQuote_frame ..).trans ((setLane_frame ..).within (by decide))) .refl

theorem resolveLane_frame (s : State) (n l tier : Nat) :
    SameExcept [.sales, .members, .portF, .mgmt] s (s.resolveLane n l tier) := by
  unfold State.resolveLane
  split
  · exact (refusePending_frame ..).within (by decide)
  · exact ((setMember_frame ..).within (by decide)).trans ((offerSlot_frame ..).within (by decide))

theorem forWaiting_frame {l : List Part} (s : State) (w : List (Option Nat)) (g : State → Nat → Nat → State)
    (h : ∀ t a b, SameExcept l t (g t a b)) : SameExcept l s (s.forWaiting w g) := by
  refine SameExcept.foldl (fun t a => ?_) _ s
  split
  · exact h ..
  · exact .refl

theorem writeBack_frame (s : State) (m : Member) : SameExcept [.portS, .mgmt] s (s.writeBack m) := toSite_frame ..

theorem evict_frame (s : State) (n : Nat) : SameExcept [.members, .portS, .mgmt] s (s.evict n) := by
  have h := (offList_frame s n).within (m := [.members, .portS, .mgmt]) (by decide)
  unfold State.evict
  exact .ite (h.trans ((writeBack_frame ..).within (by decide))) h

theorem lookupHit_frame (s : State) (n tier : Nat) : SameExcept [.members] s (s.lookupHit n tier).1 := by
  have h : SameExcept [.members] s (if (s.memberRec n).state = .cached then s.toFront n else s) :=
    .ite (toFront_frame ..) .refl
  unfold State.lookupHit
  dsimp only
  split
  · exact h
  · exact h.trans (setMember_frame ..)

theorem lookupMiss_frame (s : State) (l id tier : Nat) :
    SameExcept [.members, .portS, .mgmt] s (s.lookupMiss l id tier).1 := by
  unfold State.lookupMiss
  split
  · exact .refl
  · split
    · exact (setFetch_frame ..).within (by decide)
    · split
      · exact ((setFetch_frame ..).within (by decide)).trans ((toSite_frame ..).within (by decide))
      · exact .refl

theorem lookup_frame (s : State) (l id tier : Nat) :
    SameExcept [.members, .portS, .mgmt] s (s.lookup l id tier).1 := by
  unfold State.lookup
  split
  · exact (lookupHit_frame ..).within (by decide)
  · exact lookupMiss_frame ..

/-- What a fetch's answer may touch. -/
def answerParts : List Part := [.members, .sales, .portF, .portS, .mgmt]

theorem fetchFill_frame (s : State) (n id tier limit uses : Nat) :
    SameExcept answerParts s (s.fetchFill n id tier limit uses) := by
  have h := (setFetch_frame s n .blank).within (m := answerParts) (by decide)
  unfold State.fetchFill
  dsimp only
  split
  · exact h
  · exact (((h.trans ((evict_frame ..).within (by decide))).trans ((setMember_frame ..).within (by decide))).trans
      ((toFront_frame ..).within (by decide))).trans
      ((forWaiting_frame _ _ _ fun t a b => resolveLane_frame t _ a b).within (by decide))

theorem fetchRefuse_frame (s : State) (n : Nat) (r : Reply) :
    SameExcept [.members, .sales, .portF, .mgmt] s (s.fetchRefuse n r) :=
  ((setFetch_frame ..).within (by decide)).trans
    ((forWaiting_frame _ _ _ fun t a _ => refusePending_frame t a r).within (by decide))

theorem withdrawMember_frame (s : State) (n : Nat) : SameExcept [.members] s (s.withdrawMember n) := by
  unfold State.withdrawMember
  exact .ite ((setMember_frame ..).trans (offList_frame ..)) (setMember_frame ..)

theorem unsolicited_frame (s : State) (id known tier limit uses : Nat) :
    SameExcept [.members, .mgmt] s (s.unsolicited id known tier limit uses) := by
  unfold State.unsolicited
  split
  · exact .ite ((setMember_frame ..).within (by decide))
      (((withdrawMember_frame ..).within (by decide)).trans ((notifyMember_frame ..).within (by decide)))
  · exact (notifyMember_frame ..).within (by decide)

theorem returnUse_frame (s : State) (m : Option Nat) : SameExcept [.members, .portS, .mgmt] s (s.returnUse m) := by
  unfold State.returnUse
  split
  · split
    · exact (setMember_frame ..).within (by decide)
    · exact (toSite_frame ..).within (by decide)
  · exact .refl

theorem loadHeld_frame (s : State) (n tier limit uses : Nat) (pin : Bool) :
    SameExcept [.members] s (s.loadHeld n tier limit uses pin) := by
  unfold State.loadHeld
  exact .ite ((setMember_frame ..).trans (offList_frame ..)) ((setMember_frame ..).trans (toFront_frame ..))

theorem loadNew_frame (s : State) (v id tier limit uses : Nat) (pin : Bool) :
    SameExcept [.members, .portS, .mgmt] s (s.loadNew v id tier limit uses pin) := by
  have h : ∀ m, SameExcept [.members, .portS, .mgmt] s ((s.evict v).setMember v m) := fun m =>
    (evict_frame ..).trans ((setMember_frame ..).within (by decide))
  unfold State.loadNew
  exact .ite (h _) ((h _).trans ((toFront_frame ..).within (by decide)))

theorem loadResolve_frame (s : State) (n id : Nat) :
    SameExcept [.sales, .members, .portF, .mgmt] s (s.loadResolve n id) := by
  unfold State.loadResolve
  split
  · exact ((setFetch_frame ..).within (by decide)).trans
      (forWaiting_frame _ _ _ fun t a b => resolveLane_frame t _ a b)
  · exact .refl

theorem load_frame (s : State) (id tier limit uses : Nat) (pin : Bool) :
    SameExcept answerParts s (s.load id tier limit uses pin).1 := by
  unfold State.load
  split
  · split
    · exact .refl
    · exact ((loadHeld_frame ..).within (by decide)).trans ((loadResolve_frame ..).within (by decide))
  · split
    · exact .refl
    · split
      · exact .refl
      · exact ((loadNew_frame ..).within (by decide)).trans ((loadResolve_frame ..).within (by decide))

theorem flushRecord_frame (s : State) (n : Nat) : SameExcept [.members, .portS, .mgmt] s (s.flushRecord n) := by
  unfold State.flushRecord
  exact .ite (((writeBack_frame ..).within (by decide)).trans ((setMember_frame ..).within (by decide))) .refl

theorem flush_frame (s : State) : SameExcept [.members, .portS, .mgmt] s ((List.range 32).foldl State.flushRecord s) :=
  SameExcept.foldl flushRecord_frame _ s

/-! ## Sales (chapter 3) -/

theorem quoteCash_frame (s : State) (l plan : Nat) (a : ServiceSet) :
    SameExcept [.sales, .portF, .mgmt] s (s.quoteCash l plan a) := by
  unfold State.quoteCash
  exact .ite ((quoteReply_frame ..).within (by decide))
    (((fillSlot_frame ..).within (by decide)).trans (offerSlot_frame ..))

theorem quoteMember_frame (s : State) (l plan : Nat) (a : ServiceSet) (id : Nat) :
    SameExcept answerParts s (s.quoteMember l plan a id) := by
  have h := (lookup_frame s l id (s.plan plan).tier).within (m := answerParts) (by decide)
  unfold State.quoteMember
  dsimp only
  split
  · exact (quoteReply_frame ..).within (by decide)
  · split
    · exact (h.trans ((fillSlot_frame ..).within (by decide))).trans ((offerSlot_frame ..).within (by decide))
    · exact (h.trans ((fillSlot_frame ..).within (by decide))).trans ((pendSlot_frame ..).within (by decide))
    · exact h.trans ((quoteReply_frame ..).within (by decide))

theorem makeOrder_frame (s : State) (l r tag tender : Nat) :
    SameExcept (.members :: reviewParts) s (s.makeOrder l r tag tender) := by
  unfold State.makeOrder
  exact (((((((setSales_frame ..).within (by decide)).trans ((setOrder_frame ..).within (by decide))).trans
    ((setLane_frame ..).within (by decide))).trans ((spendUse_frame ..).within (by decide))).trans
    ((releaseRef_frame ..).within (by decide))).trans ((emptySlot_frame ..).within (by decide))).trans
    (((toField_frame ..).within (by decide)).trans ((judgePayment_frame ..).within (by decide)))

theorem pay_frame (s : State) (l tender : Nat) : SameExcept (.members :: reviewParts) s (s.pay l tender) := by
  unfold State.pay
  split
  · exact .refl
  · exact makeOrder_frame ..

theorem voidReport_frame (s : State) (o : Order) (reason : Nat) :
    SameExcept [.portS, .mgmt] s (s.voidReport o reason) := toSite_frame ..

theorem freeOrder_frame (s : State) (r : Nat) : SameExcept [.sales] s (s.freeOrder r) :=
  (setOrder_frame ..).trans (setSales_frame ..)

theorem dequeue_frame (s : State) (l r : Nat) : SameExcept [.sales] s (s.dequeue l r) := setLane_frame ..

theorem callOff_frame (s : State) (r reason : Nat) :
    SameExcept [.sales, .merge, .members, .portF, .portS, .mgmt] s (s.callOff r reason) := by
  have h := (dequeue_frame s (s.order r).lane r).within (m := [.sales, .merge, .members, .portF, .portS, .mgmt])
    (by decide)
  unfold State.callOff
  exact (((SameExcept.ite (h.trans ((endGrant_frame ..).within (by decide))) h).trans
    ((returnUse_frame ..).within (by decide))).trans ((voidReport_frame ..).within (by decide))).trans
    ((freeOrder_frame ..).within (by decide))

theorem voidOrder_frame (s : State) (r reason : Nat) :
    SameExcept (.members :: .portS :: reviewParts) s (s.voidOrder r reason) := by
  have h := ((callOff_frame s r reason).within (m := .members :: .portS :: reviewParts) (by decide)).trans
    ((judgeVoid_frame (s.callOff r reason) (s.order r).lane).within (by decide))
  exact .ite (h.trans ((review_frame _).within (by decide))) (h.trans ((judgeConveyor_frame _).within (by decide)))

theorem purge_frame (s : State) (l : Nat) : SameExcept (.members :: .portS :: reviewParts) s (s.purge l) :=
  SameExcept.foldl (fun t r => voidOrder_frame t r 2) _ s

theorem cascade_frame (s : State) (svc : Nat) : SameExcept [.sales, .mgmt] s (s.cascade svc) := by
  unfold State.cascade
  exact .ite .refl (((setSales_frame ..).within (by decide)).trans ((notifySales_frame ..).within (by decide)))

/-! ## Stations (chapter 7) -/

theorem setStation_frame (s : State) (i : Nat) (v : Station) : SameExcept [.stations] s (s.setStation i v) :=
  setStations_frame ..
theorem stationCmd_frame (s : State) (i a b : Nat) : SameExcept [.portF, .mgmt] s (s.stationCmd i a b) :=
  toField_frame ..
theorem retract_frame (s : State) (i : Nat) : SameExcept [.portF, .raised] s (s.retract i) := toFieldUrgent_frame ..
theorem setCars_frame (s : State) (l : List Car) : SameExcept [.track] s (s.setCars l) := setTrack_frame ..
theorem credit_frame (s : State) (tag svc : Nat) : SameExcept [.track] s (s.credit tag svc) := setTrack_frame ..

theorem release_frame (s : State) (i : Nat) : SameExcept [.portF, .raised, .stations] s (s.release i) :=
  ((retract_frame ..).within (by decide)).trans ((setStation_frame ..).within (by decide))

/-- What a handover of movements may touch (R146). -/
def moveParts : List Part := [.track, .stations, .portF, .raised, .mgmt]

theorem endCrossing_frame (s : State) (i tag : Nat) : SameExcept moveParts s (s.endCrossing i tag) := by
  unfold State.endCrossing
  dsimp only
  split
  · split
    · exact ((release_frame ..).within (by decide)).trans ((credit_frame ..).within (by decide))
    · exact (release_frame ..).within (by decide)
    · exact .refl
    · exact .refl
  · exact .refl

theorem countBackoff_frame (s : State) (i d : Nat) : SameExcept [.stations, .portF, .mgmt] s (s.countBackoff i d) := by
  unfold State.countBackoff
  exact .ite (.ite (((stationCmd_frame ..).within (by decide)).trans ((setStation_frame ..).within (by decide)))
    ((setStation_frame ..).within (by decide))) .refl

theorem engage_frame (s : State) (i tag pace : Nat) : SameExcept [.stations, .portF, .mgmt] s (s.engage i tag pace) :=
  ((stationCmd_frame ..).within (by decide)).trans ((setStation_frame ..).within (by decide))

theorem startCrossing_frame (s : State) (i : Nat) (m : Move) :
    SameExcept [.stations, .portF, .mgmt] s (s.startCrossing i m) := by
  unfold State.startCrossing
  dsimp only
  split
  · exact .refl
  · exact .ite (engage_frame ..) .refl

theorem judgeStation_frame (s : State) (i : Nat) (moves : List Move) (d : Option Nat) :
    SameExcept moveParts s (s.judgeStation i moves d) := by
  have ends (l : List Move) (t : State) : SameExcept moveParts t (l.foldl (fun t m => t.endCrossing i m.tag) t) :=
    SameExcept.foldl (fun t m => endCrossing_frame t i m.tag) l t
  have starts (l : List Move) (t : State) : SameExcept moveParts t (l.foldl (fun t m => t.startCrossing i m) t) :=
    SameExcept.foldl (fun t m => (startCrossing_frame t i m).within (by decide)) l t
  unfold State.judgeStation
  cases d
  · exact .ite ((ends ..).trans (starts ..)) .refl
  · exact .ite (((ends ..).trans ((countBackoff_frame ..).within (by decide))).trans (starts ..)) .refl

theorem handMoves_frame (s : State) (moves : List Move) (d : Option Nat) :
    SameExcept moveParts s (s.handMoves moves d) :=
  SameExcept.foldl (fun t i => judgeStation_frame t i moves d) _ s

theorem outOfService_frame (s : State) (i : Nat) (r : OutReason) : SameExcept outParts s (s.outOfService i r) := by
  have a : SameExcept outParts s (if Station.working (s.station i) then s.retract i else s) :=
    .ite ((retract_frame ..).within (by decide)) .refl
  have b := fun v => a.trans ((setStation_frame _ i v).within (by decide))
  have c := fun v svc => (b v).trans ((cascade_frame _ svc).within (by decide))
  have d : ∀ v svc (p : Prop) [Decidable p], SameExcept outParts s
      (let t := (if Station.working (s.station i) then s.retract i else s).setStation i v
       if p then t.cascade svc else t) := fun v svc p _ => .ite (c v svc) (b v)
  unfold State.outOfService
  cases r
  case management => exact d ..
  all_goals exact (d ..).trans ((notifyStation_frame ..).within (by decide))

theorem backOff_frame (s : State) (i : Nat) : SameExcept [.stations, .portF, .raised, .mgmt] s (s.backOff i) := by
  have h : ∀ v, SameExcept [.stations, .portF, .raised, .mgmt] s ((s.stationCmd i 2 0).setStation i v) := fun v =>
    ((stationCmd_frame ..).within (by decide)).trans ((setStation_frame ..).within (by decide))
  unfold State.backOff
  exact .ite ((h _).trans ((raiseCause_frame ..).within (by decide))) (h _)

theorem serviceOut_frame (s : State) (i : Nat) : SameExcept outParts s (s.serviceOut i) :=
  (SameExcept.ite (outOfService_frame ..) .refl).trans ((stationCmd_frame ..).within (by decide))

theorem departStation_frame (s : State) (i tag : Nat) :
    SameExcept [.stations, .portF, .raised, .mgmt] s (s.departStation i tag) := by
  unfold State.departStation
  exact .ite (.ite (((retract_frame ..).within (by decide)).trans (((setStation_frame ..).within (by decide)).trans
    ((notifyStation_frame ..).within (by decide)))) ((setStation_frame ..).within (by decide))) .refl

theorem depart_frame (s : State) (tag : Nat) : SameExcept [.stations, .portF, .raised, .mgmt] s (s.depart tag) :=
  SameExcept.foldl (fun t i => departStation_frame t i tag) _ s

theorem haltRetract_frame (s : State) : SameExcept [.portF, .raised, .stations] s s.haltRetract :=
  SameExcept.foldl release_frame _ s

theorem resumeStation_frame (s : State) (i : Nat) : SameExcept [.stations, .portF, .mgmt] s (s.resumeStation i) := by
  unfold State.resumeStation
  dsimp only
  split
  · split
    · exact engage_frame ..
    · exact .refl
  · exact .refl

theorem resumeStations_frame (s : State) : SameExcept [.stations, .portF, .mgmt] s s.resumeStations :=
  SameExcept.foldl resumeStation_frame _ s

/-! ## Halt (chapter 8) -/

theorem enterMode_frame (s : State) (m : Mode) : SameExcept [.halt, .track, .portS, .portF, .mgmt] s (s.enterMode m) := by
  have h : ∀ v, SameExcept [.halt, .track, .portS, .portF, .mgmt] s (s.setHalt v) := fun v =>
    (setHalt_frame ..).within (by decide)
  unfold State.enterMode
  exact (SameExcept.ite ((h _).trans ((setTrack_frame ..).within (by decide))) (h _)).trans
    ((sweep_frame _).within (by decide))

/-- Only becoming ARMED touches Tracking (R120). -/
theorem enterMode_frame_unarmed (s : State) (m : Mode) (h : m ≠ .armed) :
    SameExcept [.halt, .portS, .portF, .mgmt] s (s.enterMode m) := by
  unfold State.enterMode
  simp only [h, if_false]
  exact ((setHalt_frame ..).within (by decide)).trans ((sweep_frame _).within (by decide))

theorem broadcast_frame (s : State) : SameExcept [.portF, .raised] s s.broadcast := offerUrgent_frame s .f _
theorem haltConveyor_frame (s : State) : SameExcept [.track] s s.haltConveyor := setTrack_frame ..
theorem flagCars_frame (s : State) : SameExcept [.track] s s.flagCars := setTrack_frame ..

theorem endWait_frame (s : State) : SameExcept [.halt, .portS, .portF, .mgmt] s s.endWait := by
  unfold State.endWait
  exact .ite ((((setHalt_frame ..).within (by decide)).trans (enterMode_frame_unarmed _ _ (by decide))).trans
    ((notifyHalt_frame ..).within (by decide))) .refl

theorem haltEntry_frame (s : State) (k : CauseKind) (d : CauseDetail) :
    SameExcept haltParts s (s.haltEntry k d) := by
  have halt (t : State) (v : Halt) : SameExcept haltParts t (t.setHalt v) := (setHalt_frame ..).within (by decide)
  unfold State.haltEntry
  exact ((((((((((((((halt ..).trans ((enterMode_frame ..).within (by decide))).trans
    ((broadcast_frame _).within (by decide))).trans (halt ..)).trans ((driveStop_frame _).within (by decide))).trans
    ((haltConveyor_frame _).within (by decide))).trans ((haltRetract_frame _).within (by decide))).trans
    ((withdraw_frame _).within (by decide))).trans ((closeOpenGates_frame _).within (by decide))).trans
    ((flagCars_frame _).within (by decide))).trans (halt ..)).trans ((notifyHalt_frame ..).within (by decide))).trans
    ((endWait_frame _).within (by decide))))

theorem takeCause_frame (s : State) (k : CauseKind) (d : CauseDetail) : SameExcept haltParts s (s.takeCause k d) := by
  have join : SameExcept haltParts s ((s.setHalt (Halt.latch s.halt k d)).notifyHalt none (some k)) :=
    ((setHalt_frame ..).within (by decide)).trans ((notifyHalt_frame ..).within (by decide))
  unfold State.takeCause
  split
  · exact haltEntry_frame ..
  · exact haltEntry_frame ..
  · exact join
  · exact join
  · exact join

theorem lineAsserted_frame (s : State) : SameExcept haltParts s s.lineAsserted := by
  unfold State.lineAsserted
  exact .ite .refl (((setHalt_frame ..).within (by decide)).trans (takeCause_frame ..))

theorem confirmDrive_frame (s : State) : SameExcept [.halt, .track, .portS, .portF, .mgmt] s s.confirmDrive := by
  unfold State.confirmDrive
  exact .ite ((((setHalt_frame ..).within (by decide)).trans ((conveyorStopped_frame _).within (by decide))).trans
    ((endWait_frame _).within (by decide))) .refl

theorem confirmStation_frame (s : State) (i : Nat) :
    SameExcept [.halt, .portS, .portF, .mgmt] s (s.confirmStation i) := by
  unfold State.confirmStation
  exact .ite (((setHalt_frame ..).within (by decide)).trans (endWait_frame _)) .refl

theorem retractedReport_frame (s : State) (i : Nat) :
    SameExcept [.stations, .halt, .portS, .portF, .mgmt] s (s.retractedReport i) :=
  (SameExcept.ite ((setStation_frame ..).within (by decide)) .refl).trans ((confirmStation_frame ..).within (by decide))

theorem engagedReport_frame (s : State) (i : Nat) :
    SameExcept [.stations, .portF, .raised, .mgmt] s (s.engagedReport i) := by
  unfold State.engagedReport
  exact .ite (((notifyStation_frame ..).within (by decide)).trans (((retract_frame ..).within (by decide)).trans
    ((setStation_frame ..).within (by decide)))) .refl

theorem recover_frame (s : State) : SameExcept [.halt, .portS, .portF, .raised, .merge, .mgmt] s s.recover := by
  unfold State.recover
  exact (((((enterMode_frame_unarmed _ _ (by decide)).within (by decide)).trans
    ((offerUrgent_frame _ .f _).within (by decide))).trans ((setHalt_frame ..).within (by decide))).trans
    ((closeOpenGates_frame _).within (by decide))).trans ((notifyHalt_frame ..).within (by decide))

/-! ## Entry and Tracking (chapters 5 and 6) -/

theorem insertCar_frame (s : State) (c : Car) : SameExcept [.track] s (s.insertCar c) := setTrack_frame ..

theorem bindCar_frame (s : State) (l r : Nat) : SameExcept reviewParts s (s.bindCar l r) := by
  unfold State.bindCar
  exact ((((((insertCar_frame ..).within (by decide)).trans ((setOrder_frame ..).within (by decide))).trans
    ((dequeue_frame ..).within (by decide))).trans ((endGrant_frame ..).within (by decide))).trans
    ((stageOnBinding_frame ..).within (by decide))).trans (review_frame _)

theorem unannouncedCar_frame (s : State) : SameExcept reviewParts s s.unannouncedCar := by
  unfold State.unannouncedCar
  exact ((((insertCar_frame ..).within (by decide)).trans ((notifyTrack_frame ..).within (by decide))).trans
    ((handStart_frame _).within (by decide))).trans ((judgeConveyor_frame _).within (by decide))

theorem createCar_frame (s : State) : SameExcept reviewParts s s.createCar := by
  unfold State.createCar
  split
  · exact bindCar_frame ..
  · exact unannouncedCar_frame _

theorem frontEdge_frame (s : State) (src : Nat) : SameExcept (.raised :: reviewParts) s (s.frontEdge src) := by
  have crush (c : Car) : SameExcept (.raised :: reviewParts) s (s.entryCrush src c) :=
    (raiseCause_frame ..).within (by decide)
  have create (t : State) : SameExcept (.raised :: reviewParts) t t.createCar := (createCar_frame _).within (by decide)
  unfold State.frontEdge
  split
  · exact ((raiseCause_frame ..).within (by decide)).trans ((notifyTrack_frame ..).within (by decide))
  · split
    · exact create _
    · exact .ite (crush _) (.ite ((crush _).trans (create _)) (create _))

theorem moveCars_frame (s : State) (d : Nat) : SameExcept [.track] s (s.moveCars d) := setTrack_frame ..

theorem takeEarly_frame (s : State) (l : List (CauseKind × CauseDetail)) (e : Option Nat) :
    SameExcept haltParts s (s.takeEarly l e) := by
  unfold State.takeEarly
  split
  · exact ((setRaised_frame ..).within (by decide)).trans (takeCause_frame ..)
  · exact .refl

theorem applyStep_frame (s : State) (d : Nat) (e : Option Nat) : SameExcept haltParts s (s.applyStep d e) := by
  unfold State.applyStep
  exact (((((moveCars_frame ..).within (by decide)).trans ((setCars_frame ..).within (by decide))).trans
    ((setRaised_frame ..).within (by decide))).trans (takeEarly_frame ..)).trans
    (((handMoves_frame ..).within (by decide)).trans ((review_frame _).within (by decide)))

theorem strayRear_frame (s : State) : SameExcept [.track, .raised, .mgmt] s s.strayRear := by
  unfold State.strayRear
  exact .ite .refl ((notifyTrack_frame ..).within (by decide))

theorem measure_frame (s : State) (c : Car) : SameExcept [.track, .raised, .mgmt] s (s.measure c) := by
  have h : ∀ c, SameExcept [.track, .raised, .mgmt] s (s.setTail c) := fun c => (setTrack_frame ..).within (by decide)
  unfold State.measure
  exact .ite ((h _).trans ((raiseCause_frame ..).within (by decide))) (h _)

theorem rearEdge_frame (s : State) : SameExcept [.track, .raised, .mgmt] s s.rearEdge := by
  unfold State.rearEdge
  split
  · exact .ite (measure_frame ..) (strayRear_frame _)
  · exact strayRear_frame _

theorem judgeRoller_frame (s : State) (r : Bool) : SameExcept [.track, .mgmt] s (s.judgeRoller r) := by
  unfold State.judgeRoller
  split
  · split
    · exact (setCars_frame ..).within (by decide)
    · exact (notifyTrack_frame ..).within (by decide)
  · exact .refl

theorem nearMiss_frame (s : State) (j k : Nat) (e : Int) (c : Car) :
    SameExcept [.track, .mgmt] s (s.nearMiss j k e c) := by
  unfold State.nearMiss
  exact .ite (((setCars_frame ..).within (by decide)).trans ((notifyTrack_frame ..).within (by decide))) .refl

theorem correct_frame (s : State) (j k pos : Nat) (c : Car) : SameExcept moveParts s (s.correct j k pos c) := by
  have h := (nearMiss_frame s j k (sightingError pos c) c).within (m := moveParts) (by decide)
  unfold State.correct
  dsimp only
  split
  · exact h.trans ((raiseCause_frame ..).within (by decide))
  · exact .ite h ((h.trans ((setCars_frame ..).within (by decide))).trans (handMoves_frame ..))

theorem trackFault_frame (s : State) (src k : Nat) (car : Option Nat) :
    SameExcept [.raised] s (s.trackFault src k car) := raiseCause_frame ..

theorem sighting_frame (s : State) (src k pos : Nat) : SameExcept moveParts s (s.sighting src k pos) := by
  unfold State.sighting
  split
  · exact (trackFault_frame ..).within (by decide)
  · split
    · exact .refl
    · exact (SameExcept.ite (correct_frame ..) ((trackFault_frame ..).within (by decide))).trans
        ((setCars_frame ..).within (by decide))

theorem judgeExit_frame (s : State) (src : Nat) : SameExcept moveParts s (s.judgeExit src) := by
  unfold State.judgeExit
  split
  · exact (trackFault_frame ..).within (by decide)
  · exact .ite ((trackFault_frame ..).within (by decide)) (.ite ((notifyTrack_frame ..).within (by decide))
      ((correct_frame ..).trans ((setCars_frame ..).within (by decide))))

theorem freeBound_frame (s : State) (tag : Option Nat) : SameExcept [.sales] s (s.freeBound tag) := by
  unfold State.freeBound
  split
  · exact freeOrder_frame ..
  · exact .refl

theorem leave_frame (s : State) (c : Car) (removed : Bool) :
    SameExcept (.portS :: .stations :: .raised :: reviewParts) s (s.leave c removed) := by
  unfold State.leave
  exact (((((depart_frame ..).within (by decide)).trans ((toSite_frame ..).within (by decide))).trans
    ((setCars_frame ..).within (by decide))).trans ((freeBound_frame ..).within (by decide))).trans
    ((review_frame _).within (by decide))

theorem recordReport_frame (s : State) (r : DriveReport) (l : Nat) (b : Bool) :
    SameExcept [.track] s (s.recordReport r l b) := setTrack_frame ..

theorem runningReport_frame (s : State) : SameExcept (.raised :: reviewParts) s s.runningReport := by
  unfold State.runningReport
  split
  · exact .ite (((notifyTrack_frame ..).within (by decide)).trans ((stopConveyor_frame _).within (by decide))) .refl
  · exact ((setTrack_frame ..).within (by decide)).trans
      (((judgeSpeed_frame _).within (by decide)).trans ((review_frame _).within (by decide)))
  · exact .refl
  · exact .refl

theorem ownStop_frame (s : State) : SameExcept [.track, .portF, .mgmt] s s.ownStop := by
  have h : ∀ v, SameExcept [.track, .portF, .mgmt] s ((s.setTrack v).notifyTrack 6 none none) := fun v =>
    ((setTrack_frame ..).within (by decide)).trans ((notifyTrack_frame ..).within (by decide))
  unfold State.ownStop
  exact .ite (h _) ((h _).trans (takeStart_frame _))

theorem stoppedReport_frame (s : State) : SameExcept [.track, .portF, .mgmt] s s.stoppedReport := by
  unfold State.stoppedReport
  split
  · exact .refl
  · exact .refl
  · exact ownStop_frame _
  · exact conveyorStopped_frame _

/-! ## The Node Table (chapter 2) -/

theorem setNode_frame (s : State) (a : Nat) (r : NodeRecord) : SameExcept [.nodes] s (s.setNode a r) := setNodes_frame ..

theorem countRefusal_frame (s : State) (a : Nat) (e : NodeError) :
    SameExcept [.nodes, .mgmt] s (s.countRefusal a e) :=
  ((setNode_frame ..).within (by decide)).trans ((notifyNode_frame ..).within (by decide))

theorem noteGap_frame (s : State) (a : Nat) (r : NodeRecord) (f : Frame) :
    SameExcept [.mgmt, .raised] s (s.noteGap a r f) := by
  have h := fun arg => (notifyNode_frame s a 7 arg).within (m := [.mgmt, .raised]) (by decide)
  unfold State.noteGap
  exact .ite (.ite ((h _).trans ((raiseCause_frame ..).within (by decide))) (h _)) .refl

theorem noteLive_frame (s : State) (a : Nat) (r : NodeRecord) : SameExcept reviewParts s (s.noteLive a r) := by
  have h := (notifyNode_frame s a 9 none).within (m := reviewParts) (by decide)
  unfold State.noteLive
  exact .ite (.ite (h.trans (review_frame _)) h) .refl

theorem hear_frame (s : State) (f : Frame) : SameExcept (.nodes :: .raised :: reviewParts) s (s.hear f) :=
  (((setNode_frame ..).within (by decide)).trans ((noteGap_frame ..).within (by decide))).trans
    ((noteLive_frame ..).within (by decide))

theorem deliver_frame (s : State) (f : Frame) : SameExcept [.nodes, .handed, .mgmt] s (s.deliver f) := by
  unfold State.deliver
  split
  · exact (setHanded_frame ..).within (by decide)
  · exact (countRefusal_frame ..).within (by decide)

theorem copyOn_frame (s : State) (f : Frame) : SameExcept [.portS, .mgmt] s (s.copyOn f) := by
  unfold State.copyOn
  exact .ite (offerNormal_frame s .s _) .refl

theorem route_frame (s : State) (p : PortId) (f : Frame) :
    SameExcept [.nodes, .handed, .mgmt, .portS] s (s.route p f) := by
  unfold State.route
  split
  · exact ((copyOn_frame ..).within (by decide)).trans ((deliver_frame ..).within (by decide))
  · cases p
    · exact (setHanded_frame ..).within (by decide)
    · exact (offerNormal_frame s .s _).within (by decide)

theorem judgeFrame_frame (s : State) (p : PortId) (f : Frame) :
    SameExcept (.portS :: .nodes :: .handed :: .raised :: reviewParts) s (s.judgeFrame p f) := by
  unfold State.judgeFrame
  split
  · exact (countRefusal_frame ..).within (by decide)
  · exact ((hear_frame ..).within (by decide)).trans ((route_frame ..).within (by decide))

theorem silenceEffect_frame (s : State) (a : Nat) (r : NodeRecord) :
    SameExcept (.members :: outParts) s (s.silenceEffect a r) := by
  have raise (k d) : SameExcept (.members :: outParts) s (s.raiseCause k d) := (raiseCause_frame ..).within (by decide)
  have close (x) : SameExcept (.members :: outParts) s (s.closeLane r.lane x) := (closeLane_frame ..).within (by decide)
  unfold State.silenceEffect
  split
  · exact raise ..
  · exact (outOfService_frame ..).within (by decide)
  · exact close _
  · exact close _
  · exact .ite (raise ..) .refl

/-! ## Arming (section 8.6) and Management (chapter 9) -/

theorem openPresent_frame (s : State) (l : Nat) : SameExcept [.sales] s (s.openPresent l) := by
  unfold State.openPresent
  exact .ite (setLane_frame ..) .refl

theorem arm_frame (s : State) : SameExcept (.halt :: .portS :: reviewParts) s s.arm := by
  have opens (t : State) : SameExcept (.halt :: .portS :: reviewParts) t ([0, 1, 2].foldl State.openPresent t) :=
    (SameExcept.foldl openPresent_frame _ t).within (by decide)
  unfold State.arm
  exact (((((setTrack_frame ..).within (by decide)).trans (opens _)).trans ((enterMode_frame ..).within (by decide))).trans
    ((notifyHalt_frame ..).within (by decide))).trans ((review_frame _).within (by decide))

theorem disarm_frame (s : State) :
    SameExcept [.halt, .portS, .portF, .mgmt, .sales, .members, .merge, .start] s s.disarm := by
  have closes (t : State) : SameExcept [.sales, .members, .portF, .mgmt] t
      ([0, 1, 2].foldl (fun t l => t.closeLane l (some .tunnelOffline)) t) :=
    SameExcept.foldl (fun t l => closeLane_frame t l _) _ t
  unfold State.disarm
  exact (((((enterMode_frame_unarmed _ _ (by decide)).within (by decide)).trans ((closes _).within (by decide))).trans
    ((withdraw_frame _).within (by decide))).trans ((closeOpenGates_frame _).within (by decide))).trans
    ((notifyHalt_frame ..).within (by decide))

theorem writeStation_frame (s : State) (i : Nat) (b : Nat → Byte) :
    SameExcept [.stations, .sales, .mgmt] s (s.writeStation i b) := by
  have h := fun v => (setStation_frame s i v).within (m := [.stations, .sales, .mgmt]) (by decide)
  unfold State.writeStation
  exact .ite ((h _).trans ((cascade_frame ..).within (by decide))) (h _)

theorem finishWrite_frame {l : List Part} (s : State) (seq : Byte) (t i : Nat) (v : Verdict) (w : State)
    (hw : SameExcept l s w) (hl : ∀ p ∈ [Part.portS, .mgmt], p ∈ l) : SameExcept l s (s.finishWrite seq t i v w) := by
  unfold State.finishWrite
  split
  · exact hw.trans ((reply_frame ..).within hl)
  · exact (reply_frame ..).within hl
  · exact (reply_frame ..).within hl

theorem writing_frame {l : List Part} (s : State) (seq : Byte) (args : List Byte) (len size : Nat)
    (g : Nat → (Nat → Byte) → State) (hg : ∀ i b, SameExcept l s (g i b)) (hl : ∀ p ∈ [Part.portS, .mgmt], p ∈ l) :
    SameExcept l s (s.writing seq args len size g) := by
  have bad := fun st d => (reply_frame s seq 2 st d).within hl
  unfold State.writing
  split
  · exact .ite (bad ..) (.ite (bad ..) (hg ..))
  · exact bad ..

end Sys2Proof.Machine
end

