-- ==== Sys2Proof/Laws/Records.lean ====
section
/-!
SUPPORT. Reading a record after writing one, running a command at its moment, and what a notice, a timer or the transmitter
leaves: the equations the statements' proofs cite.
-/
namespace Sys2Proof.Machine

/-! ## A command at its moment -/

/-- A command whose hand-over is next at its port runs on the state without it. -/
theorem taking_eq {c : Instr} {s : State} (g : State → State) (h : Taken c s) (hc : handoverOf c = c) :
    taking c s g = .next (g (s.without c)) := by
  obtain ⟨h1, h2⟩ := h
  rw [hc] at h2
  simp [taking, running, h1, State.takeHanded, h2, State.without, hc]

/-- A command whose event is due runs. -/
theorem whenDue_eq {d : Bool} {s : State} (g : State → State) (h : s.inReset = false) (hd : d = true) :
    whenDue d s g = .next (g s) := by simp [whenDue, running, h, hd]

/-- A command whose hand-over is not next at its port changes nothing. -/
theorem taking_idle {c : Instr} {s : State} (g : State → State) (h : s.isNext c = false) : taking c s g = .next s := by
  simp [taking, running, State.takeHanded, h]

/-- A command whose event is not due changes nothing. -/
theorem whenDue_idle {d : Bool} {s : State} (g : State → State) (h : d = false) : whenDue d s g = .next s := by
  simp [whenDue, running, h]

/-- A timer that does not stand at zero is not due. -/
theorem Timer.due_of_ne {t : Timer} (h : t ≠ some 0) : Timer.due t = false := by simp [Timer.due, h]

/-- A command that finds a line reset held changes nothing. -/
theorem running_reset {s : State} (g : State → State) (h : s.inReset = true) : running s g = .next s := by
  simp [running, h]

/-- The oldest hand-over of a port is next there (R38). -/
theorem isNext_head {s : State} {p : PortId} {c : Instr} {rest : List Instr} (h : s.handedFrom p = c :: rest) :
    s.isNext c = true := by
  have hm : c ∈ s.handedFrom p := by simp [h]
  have ha : arrivesAt c = some p := by simpa [State.handedFrom] using (List.mem_filter.mp hm).2
  simp only [State.isNext, ha, Option.any_some, h]
  cases rest <;> simp [nextAmong]

/-! ## Ports -/

@[simp] theorem port_setPort (s : State) (p : PortId) (q : Port) : (s.setPort p q).port p = q := by cases p <;> rfl
@[simp] theorem mgmt_setPort (s : State) (p : PortId) (q : Port) : (s.setPort p q).mgmt = s.mgmt := by cases p <;> rfl
@[simp] theorem port_notify (s : State) (p : PortId) (c : NoticeClass) (d : NoticeDetail) :
    (s.notify c d).port p = s.port p := by cases p <;> rfl
@[simp] theorem port_raiseCause (s : State) (p : PortId) (k : CauseKind) (d : CauseDetail) :
    (s.raiseCause k d).port p = s.port p := by cases p <;> rfl

/-! ## Notices -/

/-- A raised notice is pending with its detail. -/
theorem notify_noticed (s : State) (c : NoticeClass) (d : NoticeDetail) (h : s.mgmt.notices.length = 8) :
    Noticed c d (s.notify c d) := by
  cases c <;>
    simp [Noticed, State.notify, Mgmt.raise, Mgmt.judgeAttn, Mgmt.notice, classIndex, h, NoticeRecord.raise]

/-- Raising one class leaves what another class holds. -/
theorem notify_keeps (s : State) (a c : NoticeClass) (d e : NoticeDetail) (h : a ≠ c) (k : Noticed a e s) :
    Noticed a e (s.notify c d) := by
  cases a <;> cases c <;>
    first | exact absurd rfl h | simpa [Noticed, State.notify, Mgmt.raise, Mgmt.judgeAttn, Mgmt.notice, classIndex] using k

/-- A raising leaves the parameters and the number of classes. -/
@[simp] theorem notify_params (s : State) (c : NoticeClass) (d : NoticeDetail) :
    (s.notify c d).mgmt.params = s.mgmt.params := rfl
@[simp] theorem notify_length (s : State) (c : NoticeClass) (d : NoticeDetail) :
    (s.notify c d).mgmt.notices.length = s.mgmt.notices.length := by
  simp [State.notify, Mgmt.raise, Mgmt.judgeAttn]

/-! ## Lists of records -/

theorem getD_set_eq {α : Type} (l : List α) (i : Nat) (v d : α) (h : i < l.length) : (l.set i v).getD i d = v := by
  simp [h]

theorem getD_set_ne {α : Type} (l : List α) (i j : Nat) (v d : α) (h : j ≠ i) : (l.set i v).getD j d = l.getD j d := by
  simp [List.getD_eq_getElem?_getD, Ne.symm h]

theorem node_setNode {s : State} {a : Nat} (r : NodeRecord) (h : a < s.nodes.length) : (s.setNode a r).node a = r :=
  getD_set_eq _ _ _ _ h
theorem node_setNode_ne (s : State) {a b : Nat} (r : NodeRecord) (h : b ≠ a) : (s.setNode a r).node b = s.node b :=
  getD_set_ne _ _ _ _ _ h

theorem lane_setLane {s : State} {l : Nat} (v : LaneSales) (h : l < s.sales.lanes.length) :
    (s.setLane l v).lane l = v := getD_set_eq _ _ _ _ h
theorem lane_setLane_ne (s : State) {l k : Nat} (v : LaneSales) (h : k ≠ l) : (s.setLane l v).lane k = s.lane k :=
  getD_set_ne _ _ _ _ _ h

theorem order_setOrder {s : State} {r : Nat} (o : Order) (h : r < s.sales.orders.length) :
    (s.setOrder r o).order r = o := getD_set_eq _ _ _ _ h
theorem order_setOrder_ne (s : State) {r q : Nat} (o : Order) (h : q ≠ r) : (s.setOrder r o).order q = s.order q :=
  getD_set_ne _ _ _ _ _ h

theorem memberRec_setMember {s : State} {n : Nat} (m : Member) (h : n < s.members.records.length) :
    (s.setMember n m).memberRec n = m := getD_set_eq _ _ _ _ h
theorem memberRec_setMember_ne (s : State) {n k : Nat} (m : Member) (h : k ≠ n) :
    (s.setMember n m).memberRec k = s.memberRec k := getD_set_ne _ _ _ _ _ h

theorem fetch_setFetch {s : State} {n : Nat} (f : Fetch) (h : n < s.members.fetches.length) :
    (s.setFetch n f).fetch n = f := getD_set_eq _ _ _ _ h
theorem fetch_setFetch_ne (s : State) {n k : Nat} (f : Fetch) (h : k ≠ n) : (s.setFetch n f).fetch k = s.fetch k :=
  getD_set_ne _ _ _ _ _ h

theorem mergeLane_setMergeLane {s : State} {l : Nat} (m : LaneMerge) (h : l < s.merge.lanes.length) :
    (s.setMergeLane l m).mergeLane l = m := getD_set_eq _ _ _ _ h
theorem mergeLane_setMergeLane_ne (s : State) {l k : Nat} (m : LaneMerge) (h : k ≠ l) :
    (s.setMergeLane l m).mergeLane k = s.mergeLane k := getD_set_ne _ _ _ _ _ h

theorem station_setStation {s : State} {i : Nat} (v : Station) (h : i < s.stations.length) :
    (s.setStation i v).station i = v := getD_set_eq _ _ _ _ h
theorem station_setStation_ne (s : State) {i k : Nat} (v : Station) (h : k ≠ i) :
    (s.setStation i v).station k = s.station k := getD_set_ne _ _ _ _ _ h

/-- Writing one record twice keeps the second. -/
theorem setMergeLane_twice (s : State) (l : Nat) (m n : LaneMerge) :
    (s.setMergeLane l m).setMergeLane l n = s.setMergeLane l n := by simp [State.setMergeLane, State.setMerge]
theorem setOrder_twice (s : State) (r : Nat) (o p : Order) : (s.setOrder r o).setOrder r p = s.setOrder r p := by
  simp [State.setOrder, State.setSales]
theorem setLane_twice (s : State) (l : Nat) (v w : LaneSales) : (s.setLane l v).setLane l w = s.setLane l w := by
  simp [State.setLane, State.setSales]
theorem setStation_twice (s : State) (i : Nat) (v w : Station) : (s.setStation i v).setStation i w = s.setStation i w := by
  simp [State.setStation, State.setStations]

/-! ## Offers at a port depend on that port alone -/

/-- What an offer to Port F's normal queue makes of Port F. -/
theorem toField_portF (s t : State) (d : Option Nat) (k : Byte) (l : List Byte) (h : t.portF = s.portF) :
    (t.toField d k l).portF = (s.toField d k l).portF := by
  cases d with
  | none => exact h
  | some a =>
    have q : t.port .f = s.port .f := h
    simp only [State.toField, State.offerNormal, q]
    split
    · rfl
    · simp only [State.noteLost]; split <;> rfl

/-- What an offer to Port F's urgent queue makes of Port F. -/
theorem toFieldUrgent_portF (s t : State) (d : Option Nat) (k : Byte) (l : List Byte) (h : t.portF = s.portF) :
    (t.toFieldUrgent d k l).portF = (s.toFieldUrgent d k l).portF := by
  cases d with
  | none => exact h
  | some a =>
    have q : t.port .f = s.port .f := h
    simp only [State.toFieldUrgent, State.offerUrgent, q]
    split
    · exact h
    · split <;> rfl

/-- What an offer to Port S makes of Port S. -/
theorem toSite_portS (s t : State) (k : Byte) (l : List Byte) (h : t.portS = s.portS) :
    (t.toSite k l).portS = (s.toSite k l).portS := by
  have q : t.port .s = s.port .s := h
  simp only [State.toSite, State.offerNormal, q]
  split
  · rfl
  · simp only [State.noteLost]; split <;> rfl

/-- What a QUOTE_REPLY makes of Port F rests on Port F and on the kiosk's address alone. -/
theorem quoteReply_portF (s t : State) (l : Nat) (r : Reply) (k : Option Nat) (price : Nat) (hn : t.nodes = s.nodes)
    (h : t.portF = s.portF) : (t.quoteReply l r k price).portF = (s.quoteReply l r k price).portF := by
  have ha : t.kioskAddr l = s.kioskAddr l := by
    simp only [State.kioskAddr, State.laneAddr, State.findNode, State.node, hn]
  simp only [State.quoteReply, ha]
  exact toField_portF s t _ _ _ h

/-- Replies to waiting lanes touch Port F, and the notices where a frame is dropped. -/
theorem answerLanes_frame (s : State) (answer : Nat → Option (Reply × Nat)) :
    SameExcept [.portF, .mgmt] s (s.answerLanes answer) := by
  refine SameExcept.foldl (fun t a => ?_) _ s
  split
  · exact quoteReply_frame ..
  · exact .refl

/-- Where no lane is answered nothing is sent. -/
theorem answerLanes_none (s : State) (answer : Nat → Option (Reply × Nat)) (h : ∀ l, l < 3 → answer l = none) :
    s.answerLanes answer = s := by
  simp [State.answerLanes, h 0 (by decide), h 1 (by decide), h 2 (by decide)]

/-- A start request handed over, said once (R101, R112). -/
theorem handStart_eq (s : State) : s.handStart = s.setStartRequested (s.startRequested ||
    decide (s.halt.mode = .armed ∧ (s.track.conveyor = .stopped ∨ s.track.conveyor = .stopping))) := by
  unfold State.handStart
  split
  · rename_i h; simp [h]
  · rename_i h; simp [h]; rfl

/-! ## The transmitter -/

/-- The transmitter leaves no frame waiting on an idle line (R17, R18). -/
theorem Port.transmit_busy (q : Port) : TransmitterBusy (Port.transmit q) := by
  intro h
  unfold Port.transmit Port.startFrame at *
  split at h <;> (try split at h) <;> simp_all

/-- Port F after a reset is the transmitter's work on the queue of one RESUME (R29, R17; log 9). -/
theorem Port.transmit_resume : Port.transmit { Port.cleared with urgent := [resumeFrame] } = .resuming := rfl

end Sys2Proof.Machine
end

