-- ==== Sys2Proof/Tests/Slice0.lean ====
section
/-!
SUPPORT. The model's own checks: ill-formed commands, words and frames the spec writes out, one step of every command on a
small state, and states that meet the hypotheses of each obligation.
-/
namespace Sys2Proof.Tests

open Sys2Proof Sys2Proof.Machine

set_option Elab.async false

/-! ## Ill-formed commands are refused by the well-formedness check -/

theorem test_wf_operands :
    Instr.wf (.step 64 1 none) = false ∧ Instr.wf (.mergeEyeBlocked 3) = false ∧ Instr.wf (.current 24 0) = false ∧
    Instr.wf (.current 0 65536) = false ∧ Instr.wf (.paid 0 256 1) = false ∧ Instr.wf (.quote 0 0 0 16777216) = false ∧
    Instr.wf (.fetchTimerExpiry 4) = false ∧ Instr.wf (.nodeSilent 64) = false := by decide +kernel

theorem test_wf_drive :
    Instr.wf (.driveState 3 .running 0 false) = false ∧ Instr.wf (.driveState 3 .running 5 false) = false ∧
    Instr.wf (.driveState 3 .running 4 false) = true ∧ Instr.wf (.driveState 3 .stopped 0 false) = true := by decide +kernel

theorem test_wf_frame :
    Instr.wf (.siteFieldFrame ⟨64, 0, 0x50, 0, []⟩) = false ∧ Instr.wf (.siteFieldFrame ⟨2, 64, 0x50, 0, []⟩) = false ∧
    Instr.wf (.siteFieldFrame ⟨2, 0, 0x50, 0, List.replicate 49 0⟩) = false ∧
    Instr.wf (.siteFieldFrame ⟨2, 0, 0x50, 0, List.replicate 48 0⟩) = true := by decide +kernel

theorem test_wf_arguments_and_details :
    Instr.wf (.arm 0 (List.replicate 48 0)) = false ∧ Instr.wf (.arm 0 (List.replicate 47 0)) = true ∧
    Instr.wf (.raiseCause .drift ⟨some 64, none, none, none⟩) = false ∧
    Instr.wf (.raiseCause .drift ⟨none, some 24, none, none⟩) = false ∧
    Instr.wf (.raiseCause .drift ⟨none, none, some 256, none⟩) = false ∧
    Instr.wf (.raiseCause .drift ⟨none, none, none, some 65536⟩) = false ∧
    Instr.wf (.raiseCause .drift ⟨some 63, some 23, some 255, some 65535⟩) = true := by decide +kernel

/-- No row of the table gives bits, so no word spells a command. -/
theorem test_no_word_spells_a_command (nbits w : Nat) : decodeTableWord nbits w = none := rfl

/-! ## Small states -/

/-- The command's hand-over is next at its port, and no line reset is held. -/
def takes (c : Instr) (s : State) : Bool := !s.inReset && s.isNext (handoverOf c)

/-- Every table has its size. -/
def shaped (s : State) : Bool :=
  s.nodes.length == 64 && s.sales.services.length == 16 && s.sales.plans.length == 12 && s.sales.lanes.length == 3 &&
  s.sales.orders.length == 40 && s.members.records.length == 32 && s.members.fetches.length == 4 &&
  s.members.fetches.all (fun f => f.waiting.length == 3) && s.merge.lanes.length == 3 && s.stations.length == 24 &&
  s.halt.lastDetails.length == 22 && s.mgmt.params.length == 19 && s.mgmt.notices.length == 8 &&
  s.portS.rxErrors.length == 6 && s.portF.rxErrors.length == 6

/-- What the witnesses below check by evaluation is what the obligations assume. -/
theorem takes_taken {c : Instr} {s : State} (h : takes c s = true) : Taken c s := by simpa [takes, Taken] using h

theorem shaped_shape {s : State} (h : shaped s = true) : Shape s := by
  simp only [shaped, Bool.and_eq_true, beq_iff_eq, List.all_eq_true] at h
  obtain ⟨⟨⟨⟨⟨⟨⟨⟨⟨⟨⟨⟨⟨⟨a, b⟩, c⟩, d⟩, e⟩, f⟩, g⟩, i⟩, j⟩, k⟩, l⟩, m⟩, n⟩, o⟩, p⟩ := h
  exact ⟨a, b, c, d, e, f, g, i, j, k, l, m, n, o, p⟩

/-- A state in which a command can be taken and every table has its size. -/
def meets (c : Instr) (s : State) : Bool := takes c s && shaped s

theorem meets_holds {c : Instr} {s : State} (h : meets c s = true) : Taken c s ∧ Shape s := by
  simp only [meets, Bool.and_eq_true] at h
  exact ⟨takes_taken h.1, shaped_shape h.2⟩

/-- The command's hand-over stands alone on its way. -/
def given (c : Instr) (s : State) : State := { s with handed := [handoverOf c] }

/-- The command, handed over alone, answers a next state of which `p` holds. -/
def answers (c : Instr) (s : State) (p : State → Bool) : Bool :=
  match exec c (given c s) with
  | .next t => p t
  | _ => false

def record (r : Role) (lane station position : Nat) : NodeRecord :=
  { NodeRecord.blank r with lane := lane, station := station, position := position }

def withNode (a : Nat) (r : NodeRecord) (s : State) : State := s.setNode a r
def withHalt (g : Halt → Halt) (s : State) : State := s.setHalt (g s.halt)
def withTrack (g : Track → Track) (s : State) : State := s.setTrack (g s.track)
def withMerge (g : Merge → Merge) (s : State) : State := s.setMerge (g s.merge)
def withStation (i : Nat) (g : Station → Station) (s : State) : State := s.setStation i (g (s.station i))
def withLane (l : Nat) (g : LaneSales → LaneSales) (s : State) : State := s.setLane l (g (s.lane l))
def withPort (p : PortId) (g : Port → Port) (s : State) : State := s.setPort p (g (s.port p))
def inMode (m : Mode) (s : State) : State := withHalt (fun h => { h with mode := m, permit := m == .armed }) s
def withCars (l : List Car) (s : State) : State := s.setCars l

/-- A tunnel of two stations, two check eyes and one lane, selling plan 6 (services 0, add-on 3). -/
def tunnel : State :=
  let nodes := [(2, record .encoder 0 0 0), (3, record .drive 0 0 0), (4, record .entryEye 0 0 0),
    (5, record .exitEye 0 0 0), (6, record .wheelSwitch 0 0 30), (7, record .checkEye 0 0 620),
    (8, record .checkEye 0 0 1000), (9, record .estop 0 0 0), (10, record .mergeEye 0 0 0), (11, record .gate 0 0 0),
    (12, record .kiosk 0 0 0), (20, record .station 0 2 0), (21, record .station 0 5 0)]
  let spray : Station := { Station.blank with
    kind := .spray, service := 0, position := 300, startOff := -10, endOff := 10, actuator := some 20, preload := 90,
    active := 90 }
  let touch : Station := { Station.blank with
    kind := .touch, service := 3, position := 1015, startOff := -20, endOff := 20, actuator := some 21, preload := 140,
    active := 140, limit := 450, bind := 3, backLen := 6 }
  let s := nodes.foldl (fun s e => s.setNode e.1 e.2) State.reset
  let s := (s.setStation 2 spray).setStation 5 touch
  { s with sales := { s.sales with
    services := s.sales.services.set 3 ⟨true, 250⟩,
    plans := s.sales.plans.set 6 { state := .isOpen, base := 1, addons := 8, price := 1800, tier := 3, cap := 3 } } }

/-- The tunnel ARMED with lane 0 OPEN and the conveyor MOVING. -/
def moving : State :=
  withTrack (fun t => { t with conveyor := .moving, eyes := [(7, 620), (8, 1000)] })
    (withLane 0 (fun l => { l with isOpen := true }) (inMode .armed tunnel))

/-- A car of services 0 and 3 with its roller engaged. -/
def car (tag front : Nat) (len : Option Nat) : Car :=
  { tag := tag, order := none, lane := none, plan := none, cap := none, services := 9, price := 0, tender := 0,
    member := none, state := if len = none then .entering else .riding, front := front, length := len,
    roller := .engaged, nextEye := 0, nearMiss := 0, done := 0, unannounced := true, degraded := false,
    haltedDuring := false }

/-- An order of plan 6 waiting in lane 0. -/
def order (tag : Nat) (st : OrderState) : Order :=
  { Order.blank with state := st, tag := tag, plan := 6, services := 1, cap := 3, price := 1800, tender := 1 }

/-- The orders given stand in lane 0's queue as records 0, 1, … . -/
def queued (l : List Order) (s : State) : State :=
  s.setSales { s.sales with
    orders := l ++ s.sales.orders.drop l.length, free := s.sales.free.drop l.length,
    lanes := s.sales.lanes.set 0 { s.lane 0 with queue := List.range l.length } }

/-- Lane 0 holds the grant of the order with a tag. -/
def granted (tag : Nat) (s : State) : State :=
  withMerge (fun m => { m with grant := some ⟨0, tag⟩, admitTimer := some 80, lanes := m.lanes.set 0 ⟨true, .isOpen, false⟩ }) s

/-- A quote of plan 6 in lane 0. -/
def quoting (st : SlotState) (member : Option Nat) (s : State) : State :=
  withLane 0 (fun l => { l with
    slot := { state := st, token := 7, plan := 6, addons := 0, price := 1800, member := member,
              life := if st = .offered then some 5 else none } }) s

/-- Record 0 of the cache holds account 8120. -/
def caching (g : Member → Member) (s : State) : State :=
  s.setMembers { s.members with
    records := s.members.records.set 0
      (g { state := .cached, id := 8120, tier := 4, limit := 2, uses := 1, dirty := false, refs := 0 }),
    recency := [0] }

/-- Lane 0 waits on a fetch of account 8120 in entry 0. -/
def fetching (s : State) : State :=
  quoting .pending (some 8120) (s.setMembers { s.members with
    fetches := s.members.fetches.set 0 { id := some 8120, waiting := [some 3, none, none], timer := some 0 } })

/-! ## Bytes the spec writes out -/

/-- The header of section 1.1.1 has HCHK 0x1A. -/
theorem test_header_check : headerCheck [0x01, 0x07, 0x17, 0xC7, 0x00] = 0x1A := by decide +kernel

theorem test_wire_of_example_frame :
    (Sending.wire { frame := ⟨0x01, 0x07, 0x17, 0xC7, []⟩, opens := true }).take 8 =
      [0xC7, 0x01, 0x07, 0x17, 0xCB, 0x31, 0x00, 0x1A] := by decide +kernel

/-- The plan image of section 10.5.1, with no service covered. -/
theorem test_plan_image :
    (State.reset.setSales { State.reset.sales with
      plans := State.reset.sales.plans.set 3
        { state := .isOpen, base := 0x25, addons := 0x200, price := 1299, tier := 2, cap := 3 } }).image 4 3 =
      [0x02, 0x00, 0x25, 0x02, 0x00, 0x05, 0x13, 0x02, 0x03, 0x00] := by decide +kernel

/-! ## One step of each command -/

theorem test_resets :
    answers (.powerOnReset true) moving (fun t => t.halt.causes == [.estopLine] && t.mgmt.attn && t.track.cars.isEmpty) ∧
    answers .lineReset moving (fun t => t.inReset && t.node 3 == tunnel.node 3 && t.halt.mode == .offline) ∧
    answers (.lineResetEnd false) { moving with inReset := true } (fun t => !t.inReset && t.mgmt.lastReset == .line) := by
  decide +kernel

theorem test_tick :
    answers .tick (withTrack (fun t => { t with startWait := some 1, stopWait := none }) moving)
      (fun t => t.track.startWait == some 0 && t.track.stopWait == none) := by decide +kernel

theorem test_receive_and_transmit :
    answers (.receiveByte .s 0xE5) (withPort .s (fun q => { q with haltRun := 5 }) tunnel)
      (fun t => t.raised == [(.patternS, CauseDetail.empty)] && t.portS.haltRun == 0) ∧
    answers (.transmitEnd .f) (withPort .f (fun q => { q with urgent := [resumeFrame] }) tunnel)
      (fun t => t.portF.line == some ⟨⟨62, 1, 0x39, 1, []⟩, false⟩ && t.portF.outSeq == 2) := by
  decide +kernel

/-- R29 and R17: the RESUME after a reset is begun at once with SEQ 0, and a PORT_RESET F leaves it on the line (R28). -/
theorem test_resume_after_reset :
    answers (.portReset 1 [1]) State.reset (fun t => t.portF.line == some ⟨⟨62, 1, 0x39, 0, []⟩, true⟩) ∧
    answers (.lineResetEnd false) { State.reset with portF := .cleared, inReset := true } (fun t => t.portF == .resuming) := by
  decide +kernel

theorem test_node_frame_take :
    answers (.nodeFrameTake .f) (withPort .f (fun q => { q with inq := [⟨⟨1, 2, 0x10, 9, [5]⟩, true⟩] }) tunnel)
      (fun t => t.handed.getLast? == some (.step 2 5 none) && (t.node 2).expected == 10) := by decide +kernel

/-- Table 11-4: the step that carries car 8 from 288 to 293 engages the SPRAY station at pace 90. -/
theorem test_step_engages :
    answers (.step 2 5 none) (withCars [car 8 288 (some 190)] moving)
      (fun t => (t.station 2).activity == .engaged && (t.station 2).car == some 8 && (t.station 2).active == 90) := by
  decide +kernel

theorem test_step_gap :
    answers (.step 2 16 none) moving (fun t => t.raised == [(.encoderGap, ⟨some 2, none, none, some 16⟩)]) := by decide +kernel

theorem test_entry_eye :
    answers (.entryEyeBlocked 4) (granted 1 (queued [order 1 .granted] moving))
      (fun t => t.carTags == [1] && (t.order 0).state == .bound && (t.mergeLane 0).gate == .closing) ∧
    answers (.entryEyeClear 4) (withCars [car 8 190 none] moving)
      (fun t => t.track.cars.map (·.length) == [some 190] && t.track.cars.map (·.state) == [.riding]) := by decide +kernel

theorem test_merge_eye :
    answers (.mergeEyeBlocked 0) (queued [order 1 .queued] (inMode .armed tunnel))
      (fun t => (t.order 0).state == .staged && t.startRequested) ∧
    answers (.mergeEyeClear 0) (queued [order 1 .staged] moving) (fun t => (t.order 0).state == .queued) := by decide +kernel

/-- Table 11-4: check eye 1 at front 982 corrects car 8 to 1000 and engages the TOUCH station there. -/
theorem test_check_eye :
    answers (.checkEyeEdge 8 true) (withCars [{ car 8 982 (some 190) with nextEye := 1 }] moving)
      (fun t => t.track.cars.map (·.front) == [1000] && t.track.cars.map (·.nearMiss) == [1] &&
        (t.station 5).activity == .engaged && (t.station 5).active == 140) := by decide +kernel

/-- Table 11-4: the exit eye corrects car 8 from 2393 to 2400, and its CLEAR edge ends the ride with a report. -/
theorem test_exit_eye :
    answers (.exitEyeBlocked 5) (withCars [{ car 8 2393 (some 190) with nextEye := 2 }] moving)
      (fun t => t.track.cars.map (·.front) == [2400] && t.track.cars.map (·.state) == [.exiting]) ∧
    answers (.exitEyeClear 5) (withCars [{ car 8 2400 (some 190) with state := .exiting, done := 9, nearMiss := 2 }] moving)
      (fun t => t.track.cars.isEmpty && (t.portS.line.map fun l => l.frame.payload) ==
        some [1, 8, 0, 255, 255, 0, 0, 0, 0, 0, 0, 0, 9, 0, 9, 0, 0, 2, 1]) := by decide +kernel

theorem test_wheel_and_gate :
    answers (.wheelSwitchEdge 6 true) (withCars [{ car 8 31 none with roller := .waiting }] moving)
      (fun t => t.track.cars.map (·.roller) == [.called]) ∧
    answers (.gateState 0 false) (granted 1 moving) (fun t => (t.mergeLane 0).gate == .closed) := by decide +kernel

theorem test_quote_paid_cancel :
    answers (.quote 0 6 8 0) moving (fun t => (t.slot 0).state == .offered && (t.slot 0).price == 2050) ∧
    answers (.paid 0 7 1) (quoting .offered none moving)
      (fun t => (t.lane 0).queue == [0] && (t.order 0).tag == 1 && (t.slot 0).state == .empty) ∧
    answers (.cancel 0 7) (quoting .offered none moving) (fun t => (t.slot 0).state == .empty) := by decide +kernel

/-- R102: a payment behind a STAGED order and the void of an order without a grant are no occasions for the arbiter. -/
theorem test_arbiter_occasions :
    let s := withMerge (fun m => { m with lanes := m.lanes.set 0 ⟨true, .closed, false⟩ })
      (queued [order 1 .staged, order 2 .queued] (quoting .offered none moving))
    answers (.paid 0 7 1) s (fun t => t.merge.grant == none && t.arbitrate.merge.grant == some ⟨0, 1⟩) ∧
    answers (.cancelOrder 1 [2]) s (fun t => t.merge.grant == none && t.arbitrate.merge.grant == some ⟨0, 1⟩) := by
  decide +kernel

/-- R38: an edge waits for the earlier edge of its eye, the two of one DRIVE_STATE do not wait for each other. -/
theorem test_port_order :
    let s := { moving with handed := [.entryEyeBlocked 4, .entryEyeClear 4] }
    let d := { moving with handed := [.driveState 3 .stopped 0 false, .haltDriveConfirm 3 .stopped, .stopReleased 9] }
    let left := fun c s => match exec c s with
      | .next t => t.handed
      | _ => []
    left (.entryEyeClear 4) s = s.handed ∧ left (.stopReleased 9) d = d.handed ∧
    left (.haltDriveConfirm 3 .stopped) d = [.driveState 3 .stopped 0 false, .stopReleased 9] := by decide +kernel

/-- Table 7-2: a RETRACTED report ends RETRACTING, and a FAULT takes the station out of service. -/
theorem test_act_state :
    answers (.actState 2 .retracted) (withStation 2 (fun x => { x with activity := .retracting }) moving)
      (fun t => (t.station 2).activity == .idle) ∧
    answers (.actStateFault 2) moving (fun t => !(t.station 2).inService && (t.node 2).role == .encoder) := by decide +kernel

/-- Table 11-5: the third current above the limit raises BRUSH_BIND for station 5 and car 14. -/
theorem test_current :
    answers (.current 5 495) (withStation 5 (fun x => { x with activity := .engaged, car := some 14, backoffs := 2 }) moving)
      (fun t => t.raised == [(.brushBind, ⟨none, some 5, some 14, none⟩)] && (t.station 5).stepsLeft == 6) := by
  decide +kernel

theorem test_drive :
    answers (.driveState 3 .running 2 false) (withTrack (fun t => { t with conveyor := .starting }) moving)
      (fun t => t.track.conveyor == .moving && t.track.reported == 2) ∧
    answers (.haltDriveConfirm 3 .stopped) (withHalt (fun h => { h with awaitDrive := true }) (inMode .halting tunnel))
      (fun t => t.halt.mode == .halted && t.track.conveyor == .stopped) := by decide +kernel

theorem test_stop_and_estop_line :
    answers (.stopActive 9) moving (fun t => t.halt.mode == .halting && t.halt.estopActive == [9] && !t.halt.permit) ∧
    answers (.stopReleased 9) (withHalt (fun h => { h with estopActive := [9] }) tunnel) (fun t => t.halt.estopActive == []) ∧
    answers .estopLineAsserted moving (fun t => t.halt.causes == [.estopLine] && t.halt.mode == .halting) ∧
    answers .estopLineDeasserted (withHalt (fun h => { h with estopLine := true }) tunnel) (fun t => !t.halt.estopLine) := by
  decide +kernel

/-- Table 11-2: the data for account 8120 fills a record and offers lane 0's quote. -/
theorem test_member_data :
    answers (.memberData 8120 1 4 2 1) (fetching moving)
      (fun t => (t.slot 0).state == .offered && (t.memberRec 0).uses == 1 && (t.memberRec 0).refs == 1 &&
        t.members.recency == [0] && (t.fetch 0).id == none) := by decide +kernel

theorem test_site_frame :
    answers (.siteFieldFrame ⟨20, 0, 0x30, 0, [3, 0]⟩) tunnel (fun t => t.portF.line.isSome) ∧
    answers (.siteFieldFrame ⟨20, 0, 0x30, 0, [3, 0]⟩) moving (fun t => t.portS.blocked == 1) := by decide +kernel

/-- The payload of the reply that the transmitter of Port S has begun. -/
def replied (t : State) (l : List Byte) : Bool := (t.portS.line.map fun x => x.frame.payload) == some l

theorem test_read_and_write :
    answers (.readEntry 1 [3, 0]) tunnel (fun t => replied t [1, 1, 0, 0, 60]) ∧
    answers (.readEntry 1 [15, 0]) tunnel (fun t => replied t [1, 1, 2]) ∧
    answers (.writeEntry 1 [11, 0]) tunnel (fun t => replied t [1, 2, 2]) ∧
    answers (.mgmtUnknownRequest 1 21) tunnel (fun t => replied t [1, 21, 1]) := by decide +kernel

theorem test_write_tables :
    answers (.writeNodeEntry 1 ([1, 30, 12, 1, 0, 0, 0, 1, 9] ++ List.replicate 7 0)) tunnel
      (fun t => t.node 30 == { record .kiosk 1 0 0 with forward := true, watch := 9 }) ∧
    answers (.writeStationEntry 1 ([2, 2, 2, 0, 1, 44, 0xF6, 10, 20, 100, 7, 208, 3, 8] ++ List.replicate 10 0)) moving
      (fun t => (t.station 2).preload == 100 && (t.station 2).active == 90) ∧
    answers (.writeParamEntry 1 [3, 5, 0, 31]) tunnel (fun t => t.param .trackTol == 31) ∧
    answers (.writePlanEntry 1 [4, 3, 2, 0, 1, 0, 8, 5, 19, 2, 3, 0]) tunnel (fun t => (t.plan 3).price == 1299) ∧
    answers (.writeServiceEntry 1 [5, 15, 1, 0, 200]) tunnel (fun t => t.service 15 == ⟨true, 200⟩) := by decide +kernel

theorem test_arm_and_disarm :
    answers (.arm 1 []) tunnel
      (fun t => t.halt.mode == .armed && t.halt.permit && t.track.eyes == [(7, 620), (8, 1000)] && (t.lane 0).isOpen) ∧
    answers (.disarm 1 []) (withTrack (fun t => { t with conveyor := .stopped }) moving)
      (fun t => t.halt.mode == .offline && !(t.lane 0).isOpen) := by decide +kernel

theorem test_halt_requests :
    answers (.release 1 []) (inMode .halted tunnel) (fun t => t.halt.mode == .recovering && t.halt.hold == some 50) ∧
    answers (.forceHalt 1 []) moving (fun t => t.halt.causes == [.manual] && t.halt.awaitDrive) ∧
    answers (.clearCause 1 [15]) (withHalt (fun h => { h with causes := [.brushBind] }) (inMode .halted tunnel))
      (fun t => t.halt.causes == []) := by decide +kernel

theorem test_lane_requests :
    answers (.laneOpen 1 [0]) (inMode .halted tunnel) (fun t => (t.lane 0).isOpen) ∧
    answers (.laneClose 1 [0, 1]) (queued [order 1 .queued, order 2 .queued] moving)
      (fun t => !(t.lane 0).isOpen && (t.lane 0).queue == [] && t.demand == 0) ∧
    answers (.cancelOrder 1 [2]) (queued [order 1 .queued, order 2 .queued] moving)
      (fun t => (t.lane 0).queue == [0] && t.sales.free.head? == some 1) := by decide +kernel

theorem test_station_service_and_remove :
    answers (.stationService 1 [2, 2]) moving (fun t => !(t.station 2).inService && replied t [1, 11, 0]) ∧
    answers (.removeCar 1 [8]) (withCars [car 8 500 (some 190)] (inMode .halted tunnel)) (fun t => t.track.cars.isEmpty) := by
  decide +kernel

/-- Table 11-1: account 3307 is loaded and PINNED in record 0. -/
theorem test_member_requests :
    answers (.memberLoad 1 [0, 0x0C, 0xEB, 5, 3, 0, 1]) tunnel
      (fun t => (t.memberRec 0).state == .pinned && (t.memberRec 0).id == 3307) ∧
    answers (.memberPin 1 [0, 0x1F, 0xB8]) (caching id tunnel)
      (fun t => (t.memberRec 0).state == .pinned && t.members.recency == []) ∧
    answers (.memberUnpin 1 [0, 0x1F, 0xB8]) (caching (fun m => { m with state := .pinned }) tunnel)
      (fun t => (t.memberRec 0).state == .cached && t.members.recency == [0]) ∧
    answers (.dayReset 1 []) (caching (fun m => { m with dirty := true }) tunnel)
      (fun t => (t.memberRec 0).uses == 0 && !(t.memberRec 0).dirty) ∧
    answers (.memberFlush 1 []) (caching (fun m => { m with dirty := true }) tunnel)
      (fun t => replied t [1, 0, 0x1F, 0xB8, 1] && !(t.memberRec 0).dirty) := by decide +kernel

theorem test_port_reset_and_notices :
    answers (.portReset 1 [0]) (withPort .s (fun q => { q with drop := 9, outSeq := 7 }) tunnel)
      (fun t => t.portS.drop == 0 && t.portS.outSeq == 8) ∧
    answers (.takeNotice 1 [0]) (tunnel.notify .sales (reason 4))
      (fun t => !t.mgmt.attn && replied t ([1, 19, 0, 4, 1, 4, 0] ++ List.replicate 6 0)) ∧
    answers (.setNoticeMask 1 [0, 0xFE]) (tunnel.notify .halt (reason 2)) (fun t => !t.mgmt.attn) := by decide +kernel

theorem test_expiries :
    answers (.quoteLifeExpiry 0) (withLane 0 (fun l => { l with slot := { l.slot with life := some 0 } })
      (quoting .offered none moving)) (fun t => (t.slot 0).state == .empty) = true ∧
    answers (.fetchTimerExpiry 0) (fetching moving) (fun t => (t.slot 0).state == .empty && (t.fetch 0).id == none) ∧
    answers .admitWindowExpiry (withMerge (fun m => { m with admitTimer := some 0, entryBlocked := true })
      (granted 1 (queued [order 1 .granted] moving)))
      (fun t => (t.order 0).state == .staged && t.merge.grant == none && (t.mergeLane 0).gate == .closing) ∧
    answers .startWaitExpiry (withTrack (fun t => { t with startWait := some 0 }) moving)
      (fun t => t.raised == [(.driveNoStart, ⟨some 3, none, none, none⟩)]) ∧
    answers .stopWaitExpiry (withTrack (fun t => { t with stopWait := some 0 }) moving)
      (fun t => t.raised == [(.driveNoStop, ⟨some 3, none, none, none⟩)]) ∧
    answers .idleTimerExpiry (withTrack (fun t => { t with idle := some 0 }) moving)
      (fun t => t.track.conveyor == .stopping) := by decide +kernel

theorem test_halt_expiries :
    answers .broadcastTimerExpiry (withHalt (fun h => { h with bcast := some 0 }) (inMode .halting tunnel))
      (fun t => t.halt.bcast == some 5) ∧
    answers .haltWaitExpiry (withHalt (fun h => { h with haltWait := some 0, awaitStations := [2] }) (inMode .halting tunnel))
      (fun t => t.halt.mode == .halted && t.halt.causes == [.stopUnconfirmed] && !(t.station 2).inService) ∧
    answers .holdTimerExpiry (withHalt (fun h => { h with hold := some 0 })
        (withCars [car 15 295 (some 190)] (inMode .recovering tunnel)))
      (fun t => t.halt.mode == .armed && t.track.conveyor == .starting && (t.station 2).car == some 15) := by decide +kernel

theorem test_silence_start_and_cause :
    answers (.nodeSilent 2) (withNode 2 { record .encoder 0 0 0 with silenceDue := true } tunnel)
      (fun t => (t.node 2).silent && t.raised == [(.encoderSilent, ⟨some 2, none, none, none⟩)]) ∧
    answers .startRequest { inMode .armed tunnel with startRequested := true } (fun t => t.track.conveyor == .starting) ∧
    answers (.raiseCause .drift CauseDetail.empty) { moving with raised := [(.drift, CauseDetail.empty)] }
      (fun t => t.raised == [] && t.halt.mode == .halting && t.halt.awaitDrive) := by decide +kernel

/-! ## Witnesses: states and operands that meet the hypotheses of the obligations, clause by clause -/

theorem witness_StepRunsTheFrontCommand :
    { tunnel with pending := [.tick, .startRequest] }.pending = .tick :: [.startRequest] ∧ tunnel.pending = [] := by
  decide +kernel

theorem witness_CommandsOutsideTheirMoment :
    let clear := Instr.entryEyeClear 4
    let drive := Instr.driveState 3 .stopped 0 false
    let half := Instr.haltDriveConfirm 3 .stopped
    let s := { moving with handed := [.entryEyeBlocked 4, clear] }
    let d := { moving with handed := [.arm 1 [], drive, half, clear] }
    { tunnel with inReset := true }.inReset = true ∧ isReset .tick = false ∧ arrivesAt clear ≠ none ∧
    s.isNext (handoverOf clear) = false ∧ tunnel.isNext (.arm 1 []) = false ∧
    s.handedFrom .f = .entryEyeBlocked 4 :: [clear] ∧ d.handedFrom .s = [.arm 1 []] ∧
    d.handedFrom .f = drive :: half :: [clear] ∧ d.isNext drive = true ∧ d.isNext clear = false ∧
    ({ d with handed := [half, clear] } : State).isNext clear = false ∧ (moving.slot 3).life ≠ some 0 ∧
    ((quoting .offered none moving).slot 0).life ≠ some 0 ∧ (moving.fetch 3).timer ≠ some 0 ∧
    (moving.node 63).silenceDue = false ∧ (CauseKind.drift, CauseDetail.empty) ∉ moving.raised ∧
    moving.portF.inq = [] ∧ moving.merge.admitTimer ≠ some 0 ∧
    (withHalt (fun h => { h with hold := some 1 }) moving).halt.hold ≠ some 0 ∧ moving.startRequested = false ∧
    ((withPort .f (fun q => { q with inq := [⟨⟨1, 2, 0x17, 0, []⟩, true⟩] })
      (withNode 2 { record .encoder 0 0 0 with silenceDue := true } moving)).node 2).silenceDue = true := by decide +kernel

/-- Unwatched records at both ends of the table, a watched SILENT one, a watched LIVE one about to come due and one that is
due. -/
theorem witness_TickCountsDownAndWatches :
    let s := withNode 4 { record .entryEye 0 0 0 with watch := 1 }
      (withNode 3 { record .drive 0 0 0 with watch := 9, silent := true }
        (withNode 5 { record .exitEye 0 0 0 with watch := 1, silence := 1, silenceDue := true } tunnel))
    shaped s ∧ s.inReset = false ∧ s.watched (s.node 5) = true ∧ (s.node 5).silenceDue = true ∧ s.watched (s.node 0) = false ∧ s.watched (s.node 63) = false ∧
    s.watched (s.node 3) = true ∧ (s.node 3).silent = true ∧ s.watched (s.node 4) = true ∧ (s.node 4).silent = false ∧
    (s.node 4).silenceDue = false := by decide +kernel

/-- A receiver in a state with a collection and a halt run count. -/
def receiving (rx : RxState) (coll : List Byte) (run : Nat) : State :=
  withPort .f (fun q => { q with rx := rx, coll := coll, haltRun := run }) tunnel

theorem witness_HaltBytesAreTaken :
    shaped (receiving .collect [1] 4) ∧ (receiving .collect [1] 4).inReset = false ∧
    ((receiving .collect [1] 4).port .f).haltRun < 5 ∧ 5 ≤ ((receiving .hunt [] 5).port .f).haltRun ∧
    ((receiving .collect [1] 4).port .f).coll ≠ [] ∧ ((receiving .escape [] 5).port .f).rx = .escape ∧
    ((receiving .collect [] 5).port .f).coll = [] ∧ ((receiving .hunt [] 5).port .f).rx = .hunt := by decide +kernel

/-- Headers with a wrong sum, with DEST 64, with LEN 49 and with LEN 48, each at its sixth byte; a byte beyond LEN + 2; a
delimiter after an escape, in an open header, one byte short of a frame, and after a frame whose CRC does not match. -/
theorem witness_ReceiverJudgesFrames :
    let sum := fun l : List Byte => l.foldl (· + ·) 0
    shaped (receiving .collect [] 0) ∧ (receiving .collect [] 0).inReset = false ∧
    contentOf .collect 0x1A = some 0x1A ∧ contentOf .escape 0x33 = some 0xE5 ∧ contentOf .hunt 0x1A = none ∧
    sum [1, 7, 0x17, 0xC7, 0, 0x1B] ≠ 0 ∧ sum [64, 7, 0x17, 0xC7, 0, 0xDB] = 0 ∧
    sum [1, 7, 0x17, 0xC7, 49, 0xE9] = 0 ∧ sum [63, 63, 0x17, 0xC7, 48, 0x74] = 0 ∧
    ((receiving .collect (List.replicate 8 0) 0).port .f).coll.length = ([0, 0, 0, 0, 0].getD 4 0) + 8 ∧
    ((receiving .escape [1] 0).port .f).rx = .escape ∧ (0x34 : Byte) ∉ ([0x31, 0x32, 0x33, 0xC7, 0xE5] : List Byte) ∧
    (0xCB : Byte) ∉ ([0x31, 0x32, 0x33, 0xC7, 0xE5] : List Byte) ∧
    ((receiving .collect (List.replicate 5 0) 0).port .f).coll.length < 6 ∧
    ((receiving .collect (List.replicate 7 0) 0).port .f).coll.length < 8 ∧
    List.replicate 2 (0 : Byte) ≠ be16 (crc (List.replicate 6 0)).toNat := by decide +kernel

theorem witness_ReceiverReadsWhatTransmitterWrites :
    let f : Frame := ⟨63, 63, 0xE5, 0xC7, List.replicate 48 0xCB⟩
    f.wf = true ∧ (receiving .collect [] 3).inReset = false ∧ ((receiving .collect [] 3).port .f).rx = .collect ∧
    ((receiving .collect [] 3).port .f).coll = [] ∧ ((receiving .hunt [1] 3).port .f).rx = .hunt := by decide +kernel

/-- Port F with a number of frames waiting. -/
def inboundFill (n : Nat) : State :=
  withPort .f (fun q => { q with inq := List.replicate n ⟨⟨1, 2, 0x17, 0, []⟩, true⟩ }) tunnel

/-- Safety-class and normal-class frames at the last place each may take and at the first it may not, below and at
PAUSE_AT. -/
theorem witness_InboundQueueAdmitsByClass :
    let safe : Frame := ⟨1, 2, 0x17, 0, []⟩
    let normal : Frame := ⟨1, 11, 0x17, 0, []⟩
    shaped (inboundFill 31) ∧ (inboundFill 23).portF.inq.length < 24 ∧ (inboundFill 31).safetyClass .f safe = true ∧
    (inboundFill 24).safetyClass .f normal = false ∧ (inboundFill 32).portF.inq.length = 32 ∧
    15 < (inboundFill 14).param .pauseAt ∧ (inboundFill 15).param .pauseAt ≤ 16 ∧
    (inboundFill 15).portF.paused = false ∧ safe.dest = 1 ∧
    tunnel.safetyClass .s ⟨1, 0, 0x40, 0, [6]⟩ = true := by decide +kernel

theorem witness_TransmitterTakesUrgentFirst :
    tunnel.inReset = false ∧
    (withPort .f (fun q => { q with urgent := [resumeFrame] }) tunnel).portF.urgent = resumeFrame :: [] ∧
    tunnel.portS.urgent = [] ∧ tunnel.portS.normal = [] ∧
    (withPort .s (fun q => { q with normal := [resumeFrame] }) tunnel).portS.normal = resumeFrame :: [] := by decide +kernel

/-- Queues one place short and full, for an ordinary frame, a void report, a completion and a halt broadcast. -/
theorem witness_OffersJoinOrDrop :
    let f := ownFrame 0 0x42 [2, 7, 0]
    let g := ownFrame 0 0x42 (completion (car 8 500 (some 190)) false)
    let h := ownFrame 63 0x33 [5]
    let fill := fun n m => withPort .f (fun q => { q with normal := List.replicate n f, urgent := List.replicate m resumeFrame })
      tunnel
    shaped (fill 32 16) ∧ (fill 31 15).portF.normal.length < 32 ∧ 32 ≤ (fill 32 16).portF.normal.length ∧
    f.frame.kind = 0x42 ∧ f.frame.payload = 2 :: 7 :: 0 :: [] ∧ g.frame.payload = completion (car 8 500 (some 190)) false ∧
    (fill 31 15).portF.urgent.length < 16 ∧ 16 ≤ (fill 32 16).portF.urgent.length ∧ h.frame.kind = 0x33 ∧
    ((fill 31 15).portF.urgent.any fun g => g.frame.kind == 0x33) = false ∧
    ((withPort .f (fun q => { q with urgent := [h] }) tunnel).portF.urgent.any fun g => g.frame.kind == 0x33) = true := by
  decide +kernel

theorem witness_InterlockJudgesSiteFrames :
    let f := fun k : Byte => (⟨20, 0, k, 0, [1, 0]⟩ : Frame)
    meets (.siteFieldFrame (f 0x50)) (given (.siteFieldFrame (f 0x50)) moving) ∧
    meets (.siteFieldFrame (f 0x32)) (given (.siteFieldFrame (f 0x32)) (inMode .halted tunnel)) ∧
    meets (.siteFieldFrame (f 0x30)) (given (.siteFieldFrame (f 0x30)) (inMode .halted tunnel)) ∧
    (f 0x30).kind ≠ 0x50 ∧ subcommand (f 0x30) ≠ 3 ∧ subcommand (f 0x30) ≠ 4 ∧ moving.portS.blocked ≤ 255 := by
  decide +kernel

/-- A void report and a completion report wait on Port S behind the frame on the line. -/
def reporting : State :=
  withPort .s (fun q => { q with
    line := some ⟨⟨0, 1, 0x41, 0, []⟩, true⟩,
    normal := [ownFrame 0 0x42 [2, 7, 0, 6, 7, 8, 1, 0, 0, 0, 1], ownFrame 0 0x42 (completion (car 9 2400 (some 190)) false)] })
    moving

theorem witness_PortResetRestartsThePort :
    takes (.portReset 1 [0]) (given (.portReset 1 [0]) moving) ∧ moving.portS.paused = false ∧
    takes (.portReset 1 [1]) (given (.portReset 1 [1]) tunnel) ∧ tunnel.halt.mode = .offline ∧
    tunnel.portF.paused = false ∧ (withPort .f (fun q => { q with paused := true }) tunnel).portF.paused = true ∧
    takes (.portReset 1 [1]) (given (.portReset 1 [1]) moving) ∧ moving.halt.mode = .armed ∧
    takes (.portReset 1 [2]) (given (.portReset 1 [2]) moving) ∧
    meets (.portReset 1 [0]) (given (.portReset 1 [0]) reporting) ∧ reporting.portS.paused = false ∧
    (reporting.portS.normal.filter fun f => f.frame.kind == 0x42).length = 2 := by decide +kernel

/-- A void report and then a completion report are discarded: two raisings, the last one's detail (log 32). -/
theorem test_port_reset_reports : answers (.portReset 1 [0]) reporting (fun t =>
    (Mgmt.notice t.mgmt .reportLost).count == 2 &&
    (Mgmt.notice t.mgmt .reportLost).detail == { reason 1 with tag := some 9 }) = true := by decide +kernel

/-- One frame waits at Port F. -/
def arriving (f : Frame) (s : State) : State := withPort .f (fun q => { q with inq := [⟨f, true⟩] }) s

/-- A frame for each check of R33, and one that passes them all. -/
theorem witness_RefusedFrameIsCounted :
    let s := arriving ⟨1, 40, 0x17, 0, []⟩ tunnel
    let synced := withNode 2 { record .encoder 0 0 0 with synced := true, expected := 128 } tunnel
    shaped s ∧ s.inReset = false ∧ (s.node 40).silenceDue = false ∧
    s.refusalOf .f ⟨1, 40, 0x17, 0, []⟩ = some .unknownSrc ∧ s.refusalOf .f ⟨1, 0, 0x17, 0, []⟩ = some .wrongPort ∧
    s.refusalOf .f ⟨2, 2, 0x17, 0, []⟩ = some .badDest ∧ s.refusalOf .f ⟨1, 2, 0x11, 0, [1]⟩ = some .kindRefused ∧
    s.refusalOf .f ⟨1, 2, 0x10, 0, []⟩ = some .payload ∧ synced.refusalOf .f ⟨1, 2, 0x10, 0, [1]⟩ = some .staleSeq ∧
    synced.refusalOf .f ⟨1, 2, 0x10, 255, [1]⟩ = none ∧ s.refusalOf .f ⟨1, 2, 0x10, 0, [1]⟩ = none := by decide +kernel

/-- An edge of a merge eye that was SILENT while its order stood STAGED, on a paused port. -/
def edge : Frame := ⟨1, 10, 0x11, 0, [1]⟩
def regained : State :=
  arriving edge (withPort .f (fun q => { q with paused := true })
    (withNode 10 { record .mergeEye 0 0 0 with silent := true } (queued [order 1 .staged] moving)))

/-- A STEP after a gap, a GATE_STATE of an unlisted code, a frame passed on, and a site frame for the field. -/
theorem witness_AcceptedFrameIsRouted :
    let step : Frame := ⟨1, 2, 0x10, 130, [1]⟩
    let synced := arriving step (withNode 2 { record .encoder 0 0 0 with synced := true, expected := 3, forward := true } tunnel)
    let site : Frame := ⟨20, 0, 0x50, 0, []⟩
    shaped synced ∧ synced.inReset = false ∧ synced.refusalOf .f step = none ∧ (synced.node 2).synced = true ∧
    (step.seq.toNat + 256 - (synced.node 2).expected) % 256 = 127 ∧ (synced.node 2).role = .encoder ∧
    handover (synced.node 2) step = some [.step 2 1 none] ∧ handover (tunnel.node 11) ⟨1, 11, 0x16, 0, [3]⟩ = none ∧
    tunnel.refusalOf .f ⟨1, 11, 0x16, 0, [3]⟩ = none ∧ tunnel.refusalOf .f ⟨0, 2, 0x10, 0, [1]⟩ = none ∧
    tunnel.refusalOf .s site = none ∧ synced.portS.normal.length < 32 ∧
    shaped regained ∧ regained.refusalOf .f edge = none ∧ (regained.node 10).silent = true ∧
    (regained.node 10).role = .mergeEye ∧ regained.portF.paused = true ∧ 0 ≤ regained.param .resumeAt := by decide +kernel

/-- The taking of the frame clears Paused, so that a RESUME goes out before the gate's OPEN (log 35). -/
theorem test_resume_before_the_grant : answers (.nodeFrameTake .f) regained (fun t =>
    !t.portF.paused && (t.portF.urgent.map (·.frame.kind)) == [0x39] &&
    (t.portF.normal.map (·.frame.kind)) == [0x32]) = true := by decide +kernel

theorem witness_SilentNodeTakesItsEffect :
    let due := fun (a : Nat) (r : NodeRecord) (s : State) => withNode a { r with silenceDue := true } s
    let s := due 3 (record .drive 0 0 0) (due 2 (record .encoder 0 0 0) (due 20 (record .station 0 2 0)
      (due 12 (record .kiosk 0 0 0) (due 11 (record .gate 0 0 0) (due 10 (record .mergeEye 0 0 0) moving)))))
    shaped s ∧ s.inReset = false ∧ (s.node 2).silenceDue = true ∧ (s.node 3).silenceDue = true ∧
    (s.node 20).silenceDue = true ∧ (s.node 20).station < 24 ∧ (s.node 12).silenceDue = true ∧
    (s.node 11).silenceDue = true ∧ (s.node 10).silenceDue = true ∧ s.halt.mode ≠ .offline ∧ (s.lane 0).isOpen = true ∧
    (due 3 (record .drive 0 0 0) tunnel).halt.mode = .offline := by decide +kernel

/-- A QUOTE's plan is open, and its services and add-ons are covered. -/
def sells (addons : ServiceSet) (s : State) : Bool :=
  (s.plan 6).state == .isOpen && (List.range 16).all fun n =>
    (!hasService (s.plan 6).base n || s.covered n) &&
      (!hasService addons n || (hasService (s.plan 6).addons n && s.covered n))

/-- Five orders wait, the last length a QUOTE may meet. -/
theorem witness_CashQuoteIsOffered :
    let s := given (.quote 0 6 8 0)
      (queued [order 1 .queued, order 2 .queued, order 3 .queued, order 4 .queued, order 5 .queued] moving)
    meets (.quote 0 6 8 0) s ∧ s.halt.mode ≠ .offline ∧ (s.lane 0).isOpen = true ∧ (s.lane 0).queue.length ≤ 5 ∧
    sells 8 s = true ∧ (s.plan 6).price + s.addonPrice 8 ≤ 65535 := by decide +kernel

/-- A QUOTE for each refusal of R53 and R54: OFFLINE, a CLOSED lane, a sixth order in the queue, a plan above 11, one not
OPEN and one with a service lost, an add-on not allowed, an add-on lost, and a price of 65536 beside one of 65535. -/
theorem witness_CashQuoteIsRefused :
    let c := fun plan addons => Instr.quote 0 plan addons 0
    let meets' := fun plan addons s => meets (c plan addons) (given (c plan addons) s)
    let out := fun i => withStation i (fun x => { x with inService := false }) moving
    let priced := fun n => moving.setSales { moving.sales with services := moving.sales.services.set 3 ⟨true, n⟩ }
    let full := queued ((List.range 6).map fun n => order n .queued) moving
    meets' 6 8 tunnel ∧ tunnel.halt.mode = .offline ∧ meets' 6 8 moving ∧ (moving.lane 1).isOpen = false ∧
    meets (.quote 1 6 8 0) (given (.quote 1 6 8 0) moving) ∧ meets' 6 8 full ∧ ¬(full.lane 0).queue.length ≤ 5 ∧
    ¬12 ≤ 11 ∧ (moving.plan 11).state ≠ .isOpen ∧ hasService (moving.plan 6).base 0 = true ∧ (out 2).covered 0 = false ∧
    meets' 6 4 moving ∧ hasService (moving.plan 6).addons 2 = false ∧ meets' 6 8 (out 5) ∧ (out 5).covered 3 = false ∧
    (out 5).covered 0 = true ∧ meets' 6 8 (priced 63736) ∧ sells 8 (priced 63736) = true ∧
    65535 < ((priced 63736).plan 6).price + (priced 63736).addonPrice 8 ∧
    ¬65535 < ((priced 63735).plan 6).price + (priced 63735).addonPrice 8 := by decide +kernel

/-- Hits that pass, at the limit and below the tier; and misses with the site computer SILENT, with a fetch to join, with a
free entry, and with none. -/
theorem witness_MemberQuoteIsAnswered :
    let c := Instr.quote 0 6 0 8120
    let hit := fun g => given c (caching g moving)
    let v := fun s : State => (s.without c).voidQuote 0 none
    let fetched := given c (quoting .empty none (fetching moving))
    let full := given c (moving.setMembers { moving.members with
      fetches := List.replicate 4 { id := some 1, waiting := [none, none, none], timer := some 9 } })
    meets c (hit id) ∧ (hit id).halt.mode ≠ .offline ∧ ((hit id).lane 0).isOpen = true ∧ sells 0 (hit id) = true ∧
    (hit id).addonPrice 0 ≤ 65535 ∧ (v (hit id)).memberIndex 8120 = some 0 ∧
    ((v (hit id)).memberRec 0).uses < ((v (hit id)).memberRec 0).limit ∧
    ((hit id).plan 6).tier ≤ ((v (hit id)).memberRec 0).tier ∧
    ((v (hit fun m => { m with uses := 2 })).memberRec 0).limit ≤ ((v (hit fun m => { m with uses := 2 })).memberRec 0).uses ∧
    ((v (hit fun m => { m with tier := 2 })).memberRec 0).tier < 3 ∧
    meets c fetched ∧ (v fetched).memberIndex 8120 = none ∧ (fetched.node 0).silent = false ∧
    (v fetched).fetchIndex 8120 = some 0 ∧ (v (given c moving)).freeFetch = some 0 ∧ (v full).fetchIndex 8120 = none ∧
    (v full).freeFetch = none ∧
    65535 < (moving.setSales { moving.sales with
      services := List.replicate 16 ⟨true, 65535⟩ }).addonPrice 9 ∧
    ((withNode 0 { record .site 0 0 0 with silent := true } moving).node 0).silent = true := by
  decide +kernel

theorem witness_PaymentMakesAnOrder :
    let c := Instr.paid 0 7 3
    let s := given c (caching id (quoting .offered (some 8120) moving))
    meets c s ∧ (s.slot 0).state = .offered ∧ (s.slot 0).token = 7 ∧ s.atLimit (s.slot 0).member = false ∧
    s.available (s.slot 0).plan = true ∧ s.allCovered (s.slot 0).addons = true ∧
    s.sales.free = 0 :: (List.range 40).drop 1 ∧ s.memberIndex 8120 = some 0 ∧
    (quoting .offered none moving).slot 0 = { (s.slot 0) with member := none } ∧ (List.range 255).length < 256 := by
  decide +kernel

/-- A car that waits unpaid; and a PAID for each refusal of R58: no quote, a PENDING one, another token, tenders 0 and 4, a
member at the limit, and a plan whose service is lost. -/
theorem witness_PaymentIsRefused :
    let c := fun token tender => Instr.paid 0 token tender
    let s := quoting .offered (some 8120) (caching id moving)
    let spent := quoting .offered (some 8120) (caching (fun m => { m with uses := 2 }) moving)
    let out := withStation 2 (fun x => { x with inService := false }) s
    let waiting := withMerge (fun m => { m with lanes := m.lanes.set 0 ⟨true, .closed, true⟩ }) s
    meets (c 7 1) (given (c 7 1) waiting) ∧ (waiting.lane 0).queue = [] ∧ (waiting.mergeLane 0).unpaid = true ∧
    meets (c 7 1) (given (c 7 1) moving) ∧ (moving.slot 0).state ≠ .offered ∧
    meets (c 7 1) (given (c 7 1) (fetching moving)) ∧ ((fetching moving).slot 0).state ≠ .offered ∧
    meets (c 8 1) (given (c 8 1) s) ∧ (s.slot 0).token = 7 ∧ meets (c 7 0) (given (c 7 0) s) ∧
    meets (c 7 4) (given (c 7 4) s) ∧ meets (c 7 3) (given (c 7 3) spent) ∧ spent.memberIndex 8120 = some 0 ∧
    (spent.memberRec 0).limit ≤ (spent.memberRec 0).uses ∧ meets (c 7 3) (given (c 7 3) out) ∧
    out.atLimit (some 8120) = false ∧ out.available 6 = false := by decide +kernel

theorem witness_CancelAndExpiryVoidTheQuote :
    let c := Instr.cancel 0 7
    let s := given c (caching id (quoting .offered (some 8120) moving))
    let due := withLane 0 (fun l => { l with slot := { l.slot with life := some 0 } }) (quoting .offered none moving)
    meets c s ∧ (s.slot 0).state ≠ .empty ∧ (s.slot 0).token = 7 ∧ (s.slot 0).member = some 8120 ∧
    s.memberIndex 8120 = some 0 ∧ meets c (given c (fetching moving)) ∧ ((fetching moving).slot 0).state = .pending ∧
    (fetching moving).fetchIndex 8120 = some 0 ∧ meets c (given c moving) ∧ (moving.slot 0).state = .empty ∧
    shaped due ∧ due.inReset = false ∧ (due.slot 0).state = .offered ∧ (due.slot 0).life = some 0 := by decide +kernel

theorem witness_CancelOrderVoidsTheOrder :
    let c := Instr.cancelOrder 1 [2]
    let two := fun st => given c (queued [order 1 .queued, { order 2 st with member := some 8120 }] (caching id moving))
    let head := given c (granted 2 (queued [order 2 .granted] moving))
    meets c (two .queued) ∧ (two .queued).orderOfTag 2 = some 1 ∧ ((two .queued).order 1).state ≠ .bound ∧
    (two .queued).memberIndex 8120 = some 0 ∧ ((two .bound).order 1).state = .bound ∧ meets c head ∧
    head.orderOfTag 2 = some 0 ∧ (head.order 0).state = .granted ∧ meets c (given c moving) ∧
    moving.orderOfTag 2 = none := by decide +kernel

/-- The order pool of a state of these tests, checked record by record. -/
def pooled (s : State) : Bool :=
  s.sales.lanes.length == 3 && s.sales.orders.length == 40 && decide (s.sales.free ++ s.queued).Nodup &&
  (s.sales.free ++ s.queued).all (· < 40) &&
  (List.range 40).all (fun r => ((s.order r).state == .free) == decide (r ∈ s.sales.free)) &&
  (List.range 40).all (fun r => Order.waits (s.order r) == decide (r ∈ s.queued)) &&
  (List.range 3).all (fun l => (s.lane l).queue.all fun r => (s.order r).lane == l) &&
  (List.range 40).all (fun r => ((s.order r).state == .granted) == (s.grantedOrder == some r)) &&
  match s.merge.grant with
  | none => true
  | some g => decide (g.lane < 3) && (s.headOrder g.lane).any fun r => (s.order r).tag == g.tag

theorem pooled_pool {s : State} (h : pooled s = true) : PoolLaw s := by
  simp only [pooled, Bool.and_eq_true, beq_iff_eq, List.all_eq_true, decide_eq_true_eq, List.mem_range] at h
  obtain ⟨⟨⟨⟨⟨⟨⟨⟨a, b⟩, c⟩, d⟩, e⟩, f⟩, g⟩, i⟩, j⟩ := h
  refine ⟨a, b, c, d, fun r hr => ?_, fun r hr => ?_, g, fun r hr => ?_, fun x hx => ?_⟩
  · rw [← beq_iff_eq, e r hr, decide_eq_true_eq]
  · rw [f r hr, decide_eq_true_eq]
  · rw [← beq_iff_eq, i r hr, beq_iff_eq]
  · simp only [hx, Bool.and_eq_true, decide_eq_true_eq, Option.any_eq_true, beq_iff_eq] at j
    exact ⟨j.1, j.2⟩

theorem witness_LaneRequestsOpenAndClose :
    let s := given (.laneOpen 1 [0]) moving
    let purging := given (.laneClose 1 [0, flag true]) (quoting .offered none (granted 1 (queued [order 1 .granted, order 2 .queued] moving)))
    let closing := given (.laneClose 1 [2, flag false]) moving
    let voiding := given (.laneClose 1 [0, flag false]) (quoting .offered none moving)
    takes (.laneOpen 1 [0]) s ∧ s.halt.mode ≠ .offline ∧ s.present 0 = true ∧ s.laneSilent .kiosk 0 = false ∧
    s.laneSilent .gate 0 = false ∧ meets (.laneClose 1 [0, flag true]) purging ∧ pooled purging = true ∧
    (purging.lane 0).isOpen = true ∧ (purging.slot 0).state ≠ .empty ∧ (purging.lane 0).queue = [0, 1] ∧
    meets (.laneClose 1 [2, flag false]) closing ∧ pooled closing = true ∧
    meets (.laneClose 1 [0, flag false]) voiding ∧ pooled voiding = true ∧ (voiding.lane 0).isOpen = true ∧
    (voiding.slot 0).state = .offered := by decide +kernel

/-- Bad data; a fetch answered by an unknown and by a known account, within and at its limit; no fetch, with the account
absent, unreferenced, referenced; and the fetch's expiry. -/
theorem witness_MemberDataAnswersTheFetch :
    let data := fun known limit uses => Instr.memberData 8120 known 3 limit uses
    let s := fun known limit uses => given (data known limit uses) (fetching moving)
    meets (data 2 2 1) (s 2 2 1) ∧ meets (data 0 0 0) (s 0 0 0) ∧ (s 0 0 0).fetchIndex 8120 = some 0 ∧
    meets (data 1 2 1) (s 1 2 1) ∧ (s 1 2 1).victim = some 0 ∧ ((s 1 2 1).fetch 0).waiting.getD 0 none = some 3 ∧
    meets (data 1 2 2) (s 1 2 2) ∧ meets (data 1 0 0) (given (data 1 0 0) moving) ∧ moving.fetchIndex 8120 = none ∧
    moving.memberIndex 8120 = none ∧ (caching id moving).memberIndex 8120 = some 0 ∧
    ((caching id moving).memberRec 0).state = .cached ∧ ((caching id moving).memberRec 0).refs = 0 ∧
    ((caching (fun m => { m with refs := 1 }) moving).memberRec 0).refs ≠ 0 ∧ shaped (fetching moving) ∧
    (fetching moving).inReset = false ∧ ((fetching moving).fetch 0).timer = some 0 := by decide +kernel

/-- The replies to a waiting lane's kiosk: accepted at the tier itself, refused at the limit, unknown, and given up. -/
theorem test_waiting_lane_is_answered :
    let code := fun c b => answers c (fetching moving) fun t => (t.portF.normal.map (·.frame.payload.head?)) == [some b]
    code (.memberData 8120 1 3 2 1) 1 = true ∧ code (.memberData 8120 1 3 2 2) 24 = true ∧
    code (.memberData 8120 1 2 2 1) 25 = true ∧ code (.memberData 8120 0 0 0 0) 23 = true ∧
    code (.fetchTimerExpiry 0) 26 = true := by decide +kernel

/-- A record held, a record to be filled, and a ninth pin. -/
theorem witness_MemberRequestsPlaceRecords :
    let load := Instr.memberLoad 1 [0, 0x1F, 0xB8, 7, 15, 15, flag true]
    let pin := Instr.memberPin 1 [0, 0x1F, 0xB8]
    let unpin := Instr.memberUnpin 1 [0, 0x1F, 0xB8]
    let full := caching id (tunnel.setMembers { tunnel.members with
      records := List.replicate 9 { Member.blank with state := .pinned, id := 1 } ++ List.replicate 23 .blank })
    let held := caching (fun m => { m with state := .pinned }) tunnel
    meets load (given load (fetching tunnel)) ∧ (fetching tunnel).fetchIndex 8120 = some 0 ∧
    meets load (given load tunnel) ∧ tunnel.memberIndex 8120 = none ∧ tunnel.victim = some 0 ∧ tunnel.pinned < 8 ∧
    meets load (given load (caching id tunnel)) ∧ (caching id tunnel).memberIndex 8120 = some 0 ∧
    meets load (given load full) ∧ 8 ≤ full.pinned ∧ (full.memberRec 0).state = .cached ∧
    meets pin (given pin full) ∧ meets pin (given pin held) ∧ (held.memberRec 0).state = .pinned ∧
    meets pin (given pin (caching id tunnel)) ∧ meets unpin (given unpin held) ∧
    meets unpin (given unpin (caching id tunnel)) := by decide +kernel

theorem witness_DayResetAndFlushCleanTheRecords :
    meets (.dayReset 1 []) (given (.dayReset 1 []) (caching (fun m => { m with dirty := true }) tunnel)) ∧
    meets (.memberFlush 1 []) (given (.memberFlush 1 []) (caching (fun m => { m with dirty := true }) tunnel)) := by
  decide +kernel

theorem witness_MergeEyeStagesAndUnstages :
    let b := Instr.mergeEyeBlocked 0
    let c := Instr.mergeEyeClear 0
    let s := fun st => queued [order 1 st] moving
    meets b (given b moving) ∧ moving.headOrder 0 = none ∧ meets b (given b (s .queued)) ∧
    (s .queued).headOrder 0 = some 0 ∧ ((s .queued).order 0).state = .queued ∧ meets b (given b (s .staged)) ∧
    meets c (given c moving) ∧ meets c (given c (s .staged)) ∧ ((s .staged).order 0).state = .staged ∧
    meets c (given c (s .granted)) ∧ ((s .granted).order 0).state ≠ .staged := by decide +kernel

/-- The tail car's rear exactly ENTRY_GAP in, with a candidate in the last lane of the turn, in each conveyor state. -/
theorem witness_ArbiterGrantsInTurn :
    let s := withMerge (fun m => { m with lastGranted := 0 }) (queued [order 1 .staged] (withCars [car 8 250 (some 190)] moving))
    let at_ := fun v => withTrack (fun t => { t with conveyor := v }) s
    shaped s ∧ s.halt.mode = .armed ∧ s.merge.grant = none ∧ s.track.cars.length < 16 ∧ s.merge.entryBlocked = false ∧
    s.track.cars.getLast? = some (car 8 250 (some 190)) ∧ s.param .entryGap + 190 ≤ 250 ∧ s.present 0 = true ∧
    s.suspended 0 = false ∧ s.headOrder 0 = some 0 ∧ (s.order 0).state = .staged ∧ s.track.conveyor = .moving ∧
    (s.merge.lastGranted + 3) % 3 = 0 ∧ s.headOrder 1 = none ∧ s.headOrder 2 = none ∧
    (at_ .stopped).track.conveyor = .stopped ∧ (at_ .starting).track.conveyor = .starting ∧
    ¬s.param .entryGap + 190 ≤ 249 := by decide +kernel

theorem witness_SpeedAndStandbyAreJudged :
    let fast := queued [order 1 .staged, order 2 .queued] moving
    let idle := withTrack (fun t => { t with idle := some 7 }) moving
    fast.track.conveyor = .moving ∧ fast.speedLevel ≠ fast.track.commanded ∧ moving.speedLevel = moving.track.commanded ∧
    moving.track.cars = [] ∧ moving.merge.grant = none ∧ moving.track.idle = none ∧ idle.track.idle ≠ none ∧
    fast.someStaged = true := by decide +kernel

theorem witness_GateReportsAndAdmitExpiry :
    let o := Instr.gateState 0 true
    let c := Instr.gateState 0 false
    let at_ := fun (g : Gate) s => withMerge (fun m => { m with lanes := m.lanes.set 0 ⟨false, g, false⟩ }) s
    let expiring := withMerge (fun m => { m with admitTimer := some 0 }) (granted 1 (queued [order 1 .granted] moving))
    meets o (given o (at_ .closed (granted 1 moving))) ∧ ((at_ .closed (granted 1 moving)).mergeLane 0).gate = .closed ∧
    (at_ .closed (granted 1 moving)).merge.grant = some ⟨0, 1⟩ ∧ meets o (given o (at_ .closed moving)) ∧
    moving.merge.grant = none ∧ meets o (given o (at_ .closed (inMode .recovering tunnel))) ∧
    meets o (given o (at_ .closed tunnel)) ∧ meets o (given o (at_ .opening moving)) ∧
    meets o (given o (at_ .isOpen moving)) ∧ meets c (given c (at_ .closing moving)) ∧
    meets c (given c (at_ .isOpen moving)) ∧ meets c (given c (at_ .opening moving)) ∧ shaped expiring ∧
    expiring.inReset = false ∧ expiring.merge.admitTimer = some 0 ∧ expiring.merge.grant = some ⟨0, 1⟩ ∧
    expiring.headOrder 0 = some 0 := by decide +kernel

/-- A repeated edge, OFFLINE, a full list, a tail at travel 0, and edges with and without a grant behind a tail just too
close and just clear. -/
theorem witness_FrontEdgeCreatesACar :
    let c := Instr.entryEyeBlocked 4
    let s := fun l => given c (withCars l moving)
    let bound := given c (withCars [car 8 202 (some 190)] (granted 1 (queued [order 1 .granted, order 2 .queued] moving)))
    meets c (given c (withMerge (fun m => { m with entryBlocked := true }) moving)) ∧ meets c (given c tunnel) ∧
    meets c (s ((List.range 16).map fun n => car n 900 (some 190))) ∧ meets c (s [car 8 0 none]) ∧
    meets c (s [car 8 201 (some 190)]) ∧ 201 < (s []).param .collisionGap + 190 ∧ ¬202 < (s []).param .collisionGap + 190 ∧
    (s []).merge.grant = none ∧ meets c bound ∧ bound.merge.grant = some ⟨0, 1⟩ ∧ bound.headOrder 0 = some 0 ∧
    (bound.mergeLane 0).eye = true ∧ (bound.lane 0).queue = [0, 1] ∧ (bound.order 1).state = .queued ∧
    bound.tailCar = some (car 8 202 (some 190)) ∧ meets c (given c (granted 1 moving)) ∧
    (granted 1 moving).merge.grant = some ⟨0, 1⟩ ∧ (granted 1 moving).headOrder 0 = none := by decide +kernel

theorem witness_StepMovesEveryCar :
    let c := fun d => Instr.step 2 d none
    let s := fun d => given (c d) (withCars [{ car 8 637 (some 190) with roller := .waiting }, car 9 0 none] moving)
    takes (c 0) (s 0) ∧ takes (c 1) (s 1) ∧ takes (c 15) (s 15) ∧ takes (c 16) (s 16) ∧ takes (c 255) (s 255) := by
  decide +kernel

theorem witness_StationsTakeCrossings :
    let s := withCars [car 8 300 (some 190)] moving
    let working := fun a n => withStation 2 (fun x => { x with activity := a, car := some 8, stepsLeft := n }) s
    let start : Move := ⟨8, 289, 290, some 99, some 100⟩
    let stop : Move := ⟨8, 499, 500, some 309, some 310⟩
    shaped s ∧ (s.station 0).actuator = none ∧ (s.station 2).actuator ≠ none ∧ (s.station 2).activity = .idle ∧
    (s.station 2).inService = true ∧ s.halt.mode = .armed ∧ startCrossed (s.station 2) start = true ∧
    (s.car? 8).any (fun x => wants x (s.station 2)) = true ∧ endCrossed (s.station 2) stop = true ∧
    endCrossed (s.station 2) start = false ∧ ((working .engaged 0).station 2).activity = .engaged ∧
    ((working .backoff 5).station 2).stepsLeft ≤ 5 ∧ 5 < ((working .backoff 6).station 2).stepsLeft ∧
    ((working .retracting 0).station 2).activity = .retracting ∧ (inMode .halting s).halt.mode ≠ .armed := by decide +kernel

theorem witness_RearEdgeAndWheelSwitchActOnTheTail :
    let c := Instr.entryEyeClear 4
    let w := Instr.wheelSwitchEdge 6 true
    let s := fun x => withCars [car 7 900 (some 190), x] moving
    takes c (given c (s (car 8 260 none))) ∧ (s (car 8 260 none)).tailCar = some (car 8 260 none) ∧
    260 ≤ moving.param .maxCarLen ∧ moving.param .maxCarLen < 261 ∧ takes c (given c (s (car 8 261 none))) ∧
    takes c (given c moving) ∧ moving.tailCar = none ∧ takes c (given c tunnel) ∧ tunnel.halt.mode = .offline ∧
    takes w (given w moving) ∧ takes w (given w (s { car 8 80 none with roller := .waiting })) ∧
    80 ≤ moving.param .rollerLimit ∧ moving.param .rollerLimit < 81 ∧ takes w (given w (s (car 8 80 none))) ∧
    takes (.wheelSwitchEdge 6 false) (given (.wheelSwitchEdge 6 false) moving) := by decide +kernel

/-- Check eye 0 at 620: errors of 24 and of 25, a neighbour ahead and one behind just too near, and no neighbour. -/
theorem witness_SightingCorrectsTheCar :
    let c := Instr.checkEyeEdge 7 true
    let s := fun l => given c (withCars l moving)
    let seen := { car 9 1000 (some 190) with nextEye := 1 }
    let x := car 8 596 (some 190)
    meets c (s [x]) ∧ (s [x]).halt.mode ≠ .offline ∧ (s [x]).track.eyes.findIdx? (fun e => e.1 == 7) = some 0 ∧
    (s [x]).track.eyes[0]? = some (7, 620) ∧ (s [x]).param .trackTol < (s [x]).param .slipLimit ∧
    (620 - (x.front : Int)).natAbs ≤ (s [x]).param .slipLimit ∧ (s [x]).param .slipLimit < (620 - (595 : Int)).natAbs ∧
    (620 - (616 : Int)).natAbs ≤ (s [x]).param .trackTol ∧ meets c (s [seen]) ∧ seen.nextEye ≠ 0 ∧
    meets c (s [{ seen with front := 822 }, x]) ∧ (822 : Int) - 190 - 12 ≤ 620 ∧ ¬(823 : Int) - 190 - 12 ≤ 620 ∧
    meets c (s [x, car 10 418 (some 190)]) ∧ (620 : Int) - 190 - 12 ≤ 418 ∧ ¬(620 : Int) - 190 - 12 ≤ 417 ∧
    takes (.checkEyeEdge 7 false) (given (.checkEyeEdge 7 false) moving) ∧
    (∀ e ∈ moving.track.eyes, e.1 ≠ 9) ∧ takes (.checkEyeEdge 9 true) (given (.checkEyeEdge 9 true) moving) := by
  decide +kernel

theorem witness_ExitEyeMatchesTheHead :
    let c := Instr.exitEyeBlocked 5
    let s := fun l => given c (withCars l moving)
    meets c (given c tunnel) ∧ meets c (s []) ∧ meets c (s [car 8 2375 (some 190)]) ∧
    moving.param .slipLimit < (2400 - (2375 : Int)).natAbs ∧ (2400 - (2376 : Int)).natAbs ≤ moving.param .slipLimit ∧
    meets c (s [{ car 8 2376 (some 190) with state := .exiting }]) ∧ meets c (s [car 8 2376 (some 190)]) ∧
    meets c (s [car 8 2376 (some 190), car 9 2198 (some 190)]) ∧ (2400 : Int) - 190 - 12 ≤ 2198 ∧
    meets c (s [car 8 2376 (some 190), car 9 2197 (some 190)]) ∧ ¬(2400 : Int) - 190 - 12 ≤ 2197 := by decide +kernel

theorem witness_CarsLeaveTheTunnel :
    let c := Instr.exitEyeClear 5
    let r := Instr.removeCar 1 [9]
    let x := { car 8 2400 (some 190) with state := .exiting, order := some 1 }
    let s := given c (withStation 2 (fun st => { st with activity := .engaged, car := some 8 })
      (withCars [x, car 9 500 (some 190)] (queued [] (moving.setOrder 0 { order 1 .bound with car := some 8 }))))
    let halted := fun l => given r (withCars l (inMode .halted tunnel))
    meets c s ∧ s.track.cars = x :: [car 9 500 (some 190)] ∧ (s.station 2).car = some x.tag ∧
    Station.working (s.station 2) = true ∧ (s.order 0).state = .bound ∧ (s.order 0).tag = 1 ∧
    meets c (given c moving) ∧ meets c (given c tunnel) ∧ meets r (given r moving) ∧ moving.halt.mode ≠ .halted ∧
    meets r (halted []) ∧ meets r (halted [x, car 9 500 (some 190)]) ∧
    (halted [x, car 9 500 (some 190)]).track.cars = [x] ++ car 9 500 (some 190) :: [] := by decide +kernel

theorem witness_DriveReportsFollowTable :
    let c := fun rep roller => Instr.driveState 3 rep 1 roller
    let at_ := fun v => withTrack (fun t => { t with conveyor := v }) (inMode .armed tunnel)
    let called := given (c .running true) (withCars [car 8 99 none, { car 9 31 none with roller := .called }] moving)
    meets (c .running true) called ∧ called.track.roller = false ∧ meets (c .running true) (given (c .running true) moving) ∧
    meets (c .fault false) (given (c .fault false) moving) ∧ meets (c .running false) (given (c .running false) (at_ .stopped)) ∧
    meets (c .running false) (given (c .running false) tunnel) ∧
    meets (c .running false) (given (c .running false) (at_ .starting)) ∧
    meets (c .stopped false) (given (c .stopped false) (at_ .stopped)) ∧
    meets (c .stopped false) (given (c .stopped false) moving) ∧ moving.track.cars = [] ∧
    meets (c .stopped false) (given (c .stopped false) (withCars [car 8 99 none] moving)) ∧
    meets (c .stopped false) (given (c .stopped false)
      (withTrack (fun t => { t with conveyor := .stopping, pendingStart := true }) moving)) ∧
    meets (c .stopped false) (given (c .stopped false) (at_ .stopping)) ∧ (at_ .stopping).track.pendingStart = false := by
  decide +kernel

theorem witness_StartRequestAndConveyorTimers :
    let s := { moving with startRequested := true }
    let at_ := fun v => withTrack (fun t => { t with conveyor := v }) s
    tunnel.halt.mode ≠ .armed ∧ s.track.conveyor = .moving ∧ (at_ .stopping).track.conveyor = .stopping ∧
    (at_ .stopped).track.conveyor = .stopped ∧ (at_ .stopped).halt.mode = .armed ∧ s.inReset = false ∧
    s.startRequested = true ∧ (withTrack (fun t => { t with startWait := some 0 }) s).track.startWait = some 0 ∧
    (withTrack (fun t => { t with stopWait := some 0 }) s).track.stopWait = some 0 ∧
    (withTrack (fun t => { t with idle := some 0 }) s).track.idle = some 0 := by decide +kernel

theorem witness_ActuatorReportsMoveTheStation :
    let c := fun r => Instr.actState 2 r
    let f := Instr.actStateFault 2
    let at_ := fun a s => withStation 2 (fun x => { x with activity := a, car := some 8 }) s
    let awaited := withHalt (fun h => { h with awaitStations := [2] }) (at_ .retracting (inMode .halting tunnel))
    meets (.actState 23 .parked) (given (.actState 23 .parked) tunnel) ∧ (tunnel.station 23).actuator = none ∧
    meets (c .engaged) (given (c .engaged) moving) ∧ (moving.station 2).activity = .idle ∧
    meets (c .engaged) (given (c .engaged) tunnel) ∧ meets (c .engaged) (given (c .engaged) (at_ .engaged moving)) ∧
    meets (c .retracted) (given (c .retracted) (at_ .retracting moving)) ∧ meets (c .parked) (given (c .parked) awaited) ∧
    2 ∈ awaited.halt.awaitStations ∧ meets f (given f (at_ .engaged moving)) ∧
    (moving.station 2).inService = true ∧ meets f (given f (withStation 2 (fun x => { x with inService := false }) moving)) ∧
    meets (.actStateFault 23) (given (.actStateFault 23) tunnel) := by decide +kernel

theorem witness_CurrentAndServiceMoveTheStation :
    let c := Instr.current 5 451
    let at_ := fun a n s => withStation 5 (fun x => { x with activity := a, car := some 8, backoffs := n }) s
    let service := fun b d => Instr.stationService 1 [b, d]
    meets (.current 2 9) (given (.current 2 9) moving) ∧ (moving.station 2).kind ≠ .touch ∧
    meets c (given c (at_ .engaged 1 moving)) ∧ (moving.station 5).limit < 451 ∧ min 7 (1 + 1) < (moving.station 5).bind ∧
    (moving.station 5).bind ≤ min 7 (2 + 1) ∧ meets c (given c moving) ∧ (moving.station 5).inService = true ∧
    meets (.current 5 450) (given (.current 5 450) (at_ .engaged 1 moving)) ∧ 450 ≤ (moving.station 5).limit ∧
    meets c (given c (at_ .retracting 1 moving)) ∧ meets (service 24 1) (given (service 24 1) moving) ∧
    meets (service 2 3) (given (service 2 3) moving) ∧ meets (service 23 1) (given (service 23 1) moving) ∧
    (moving.station 23).actuator = none ∧ meets (service 5 1) (given (service 5 1) moving) ∧
    (moving.station 5).actuator = some 21 ∧ (moving.node 21).silent = false ∧
    ((withNode 21 { record .station 0 5 0 with silent := true } moving).node 21).silent = true ∧
    meets (service 5 2) (given (service 5 2) (at_ .backoff 1 moving)) ∧
    (withStation 5 (fun x => { x with inService := false }) moving |>.station 5).inService = false := by decide +kernel

theorem witness_CauseIsTakenByMode :
    tunnel.halt.mode = .offline ∧ (inMode .halting tunnel).halt.mode = .halting ∧ (inMode .halted tunnel).halt.mode = .halted ∧
    tunnel.inReset = false ∧ (CauseKind.drift, CauseDetail.empty) ∈ ({ tunnel with raised := [(.drift, CauseDetail.empty)] } : State).raised ∧
    takes (.stopActive 9) (given (.stopActive 9) moving) ∧ tunnel.halt.estopLine = false ∧
    (withHalt (fun h => { h with estopLine := true }) tunnel).halt.estopLine = true ∧
    takes (.forceHalt 1 []) (given (.forceHalt 1 []) moving) := by decide +kernel

/-- A halt with the drive, a busy station, a grant and an idle urgent queue; and one with nobody to await. -/
theorem witness_HaltEntryStopsTheTunnel :
    let s := withPort .f (fun q => { q with urgent := [], line := some ⟨⟨62, 1, 0x39, 0, []⟩, true⟩ })
      (withStation 2 (fun x => { x with activity := .engaged, car := some 8 })
        (granted 1 (queued [order 1 .granted] (withCars [car 8 300 (some 190)] moving))))
    let still := inMode .recovering tunnel
    shaped s ∧ s.halt.mode = .armed ∧ s.track.conveyor ≠ .stopped ∧ s.busyStations = [2] ∧ s.merge.grant = some ⟨0, 1⟩ ∧
    s.headOrder 0 = some 0 ∧ (s.mergeLane 0).gate = .isOpen ∧ s.portF.line ≠ none ∧ s.portF.urgent = [] ∧
    s.driveAddr = some 3 ∧ shaped still ∧ still.halt.mode = .recovering ∧ still.track.conveyor = .stopped ∧
    still.busyStations = [] ∧ still.merge.grant = none := by decide +kernel

theorem witness_ClearCauseNeedsTheConditionGone :
    let c := fun n => Instr.clearCause 1 [n]
    let s := fun l => withHalt (fun h => { h with causes := l, estopLine := true }) (inMode .halted tunnel)
    takes (c 0) (given (c 0) (s [])) ∧ takes (c 23) (given (c 23) (s [])) ∧ takes (c 22) (given (c 22) (s [])) ∧
    (22 : Byte).toNat = causeNumber .urgentOverflow ∧ takes (c 1) (given (c 1) (s [.estopLine])) ∧
    (1 : Byte).toNat = causeNumber .estopLine ∧ (s [.estopLine]).halt.estopLine = true ∧
    takes (c 22) (given (c 22) (s [.urgentOverflow])) := by decide +kernel

theorem witness_HaltWaitIsConfirmedOrForced :
    let c := fun r => Instr.haltDriveConfirm 3 r
    let s := withHalt (fun h => { h with
      awaitDrive := true, awaitStations := [2, 5], bcast := some 0, haltWait := some 0,
      first := some (.manual, CauseDetail.empty) }) (inMode .halting tunnel)
    takes (.stopReleased 9) (given (.stopReleased 9) s) ∧ shaped s ∧ s.inReset = false ∧ s.halt.awaitDrive = true ∧
    (inMode .halting tunnel).halt.awaitStations = [] ∧ (inMode .halting tunnel).halt.awaitDrive = false ∧
    takes (c .stopped) (given (c .stopped) s) ∧ s.halt.mode = .halting ∧ takes (c .fault) (given (c .fault) s) ∧
    s.halt.bcast = some 0 ∧ s.halt.first = some (.manual, CauseDetail.empty) ∧ s.halt.haltWait = some 0 := by decide +kernel

theorem witness_ReleaseHoldAndResume :
    let c := Instr.release 1 []
    let halted := withPort .f (fun q => { q with
      urgent := List.replicate 15 resumeFrame, line := some ⟨⟨62, 1, 0x39, 0, []⟩, true⟩ }) (inMode .halted tunnel)
    let hold := withHalt (fun h => { h with hold := some 0 }) (withCars [car 8 499 (some 190)] (inMode .recovering tunnel))
    meets c (given c moving) ∧ moving.halt.mode ≠ .halted ∧ meets c (given c halted) ∧ halted.halt.causes = [] ∧
    meets c (given c (withHalt (fun h => { h with causes := [.manual] }) halted)) ∧ halted.portF.line ≠ none ∧
    halted.portF.urgent.length < 16 ∧ shaped hold ∧ hold.inReset = false ∧ hold.halt.hold = some 0 ∧
    hold.track.conveyor = .stopped ∧ hold.track.cars = [] ++ car 8 499 (some 190) :: [] ∧
    windowOpen (hold.station 2) (car 8 499 (some 190)) = true ∧ windowOpen (hold.station 2) (car 8 500 (some 190)) = false ∧
    (hold.station 2).actuator ≠ none ∧ (withCars [] hold).track.cars = [] := by decide +kernel

theorem witness_ArmAndDisarmChangeTheMode :
    let a := Instr.arm 1 []
    let d := Instr.disarm 1 []
    let barred := withHalt (fun h => { h with causes := [.manual] }) tunnel
    meets a (given a tunnel) ∧ tunnel.halt.causes = [] ∧ tunnel.armRefusal = none ∧ meets a (given a moving) ∧
    meets a (given a barred) ∧ barred.halt.causes ≠ [] ∧ State.reset.armRefusal = some [3, 1, 64, 5] ∧
    meets a (given a State.reset) ∧ meets d (given d tunnel) ∧ meets d (given d moving) ∧
    moving.track.conveyor ≠ .stopped ∧ meets d (given d (withCars [car 8 9 none] (inMode .halted tunnel))) ∧
    meets d (given d (quoting .offered none (granted 1 (withTrack (fun t => { t with conveyor := .stopped }) moving)))) := by
  decide +kernel

theorem witness_ArmChecksTheConfiguration :
    let set := fun i v => tunnel.setMgmt { tunnel.mgmt with params := tunnel.mgmt.params.set i v }
    shaped tunnel ∧ tunnel.armRefusal = none ∧ ¬(set 5 24).param .trackTol < (set 5 24).param .slipLimit ∧
    (set 5 23).param .trackTol < (set 5 23).param .slipLimit ∧ ¬(set 18 16).param .resumeAt < (set 18 16).param .pauseAt ∧
    (withNode 2 (.blank .none) tunnel).armRefusal = some [3, 1, 64, 5] ∧
    (withNode 61 (record .encoder 0 0 0) tunnel).armRefusal = some [3, 1, 61, 5] := by decide +kernel

theorem witness_ReadEntryReturnsTheImage :
    let c := fun t i => Instr.readEntry 1 [t, i]
    takes (c 0 0) (given (c 0 0) tunnel) ∧ takes (c 15 0) (given (c 15 0) tunnel) ∧ takes (c 1 63) (given (c 1 63) tunnel) ∧
    takes (c 1 64) (given (c 1 64) tunnel) ∧ takes (c 14 8) (given (c 14 8) tunnel) ∧
    takes (.readEntry 1 [1]) (given (.readEntry 1 [1]) tunnel) ∧ takes (.writeEntry 1 []) (given (.writeEntry 1 []) tunnel) ∧
    takes (.writeEntry 1 [6, 0]) (given (.writeEntry 1 [6, 0]) tunnel) ∧
    takes (.mgmtUnknownRequest 1 0) (given (.mgmtUnknownRequest 1 0) tunnel) := by decide +kernel

theorem witness_NodeAndStationWritesAreTaken :
    let c := Instr.writeNodeEntry 1 ([1, 61, 12, 2, 23, 15, 255, 1, 255] ++ List.replicate 7 0)
    let d := Instr.writeStationEntry 1 ([2, 23, 1, 15, 15, 255, 0xC0, 63, 61, 255, 7, 208, 7, 63] ++ List.replicate 10 0)
    meets c (given c tunnel) ∧ tunnel.halt.mode = .offline ∧ (12 : Byte).toNat = roleNumber .kiosk ∧
    (∀ n, n < 64 → (tunnel.node n).role = .kiosk → (tunnel.node n).lane ≠ 2) ∧ meets c (given c moving) ∧
    meets d (given d tunnel) ∧ (1 : Byte).toNat = stationKindCode .touch ∧ (0xC0 : Byte).toInt = -64 ∧ (63 : Byte).toInt = 63 ∧
    meets d (given d moving) ∧ moving.halt.mode ≠ .offline := by decide +kernel

/-- NODE images that fail each check: role 0, a SITE at record 61 and a GATE at the hub's 62, lane 3, station 24, position
4096, forward flag 2 and flag 1 at record 63, a watch period there, a GATE's lane and a STATION's number held; STATION
images that fail each range; and a write that leaves service 0 uncovered. -/
theorem witness_NodeAndStationWritesAreRefused :
    let c := fun (i b0 b1 b2 b3 b4 b5 b6 : Byte) => Instr.writeNodeEntry 1 ([1, i, b0, b1, b2, b3, b4, b5, b6] ++ List.replicate 7 0)
    let d := fun (image : List Byte) => Instr.writeStationEntry 1 ([2, 2] ++ image ++ List.replicate 10 0)
    let bad := fun (x : Instr) (n : Byte) => answers x tunnel fun t => replied t [1, 2, 4, n]
    let good : List Byte := [2, 0, 1, 44, 0xF6, 10, 20, 90, 7, 208, 3, 8]
    bad (c 61 0 0 0 0 0 0 0) 1 ∧ bad (c 61 2 0 0 0 0 0 0) 1 ∧ bad (c 62 11 0 0 0 0 0 0) 1 ∧ bad (c 61 11 3 0 0 0 0 0) 2 ∧
    bad (c 61 11 2 24 0 0 0 0) 3 ∧ bad (c 61 11 2 23 16 0 0 0) 4 ∧ bad (c 61 11 2 23 15 255 2 0) 5 ∧
    bad (c 63 1 0 0 0 0 1 0) 5 ∧ bad (c 63 1 0 0 0 0 0 1) 6 ∧ bad (c 61 11 0 0 0 0 0 0) 1 ∧
    bad (c 61 13 0 5 0 0 0 0) 1 ∧ (tunnel.node 11).lane = 0 ∧ (tunnel.node 21).station = 5 ∧
    bad (d (good.set 0 4)) 1 ∧ bad (d (good.set 1 16)) 2 ∧ bad (d (good.set 2 16)) 3 ∧ bad (d (good.set 4 0xBF)) 4 ∧
    bad (d (good.set 5 64)) 5 ∧ bad (d (good.set 6 62)) 6 ∧ bad (d (good.set 8 8)) 8 ∧ bad (d (good.set 10 8)) 9 ∧
    bad (d (good.set 11 64)) 10 ∧ meets (d (good.set 6 0xFF)) (given (d (good.set 6 0xFF)) tunnel) ∧
    answers (d (good.set 6 0xFF)) (queued [order 1 .queued] tunnel) (fun t => !t.covered 0 && (t.order 0).degraded) ∧
    answers (d (good.set 7 91)) (queued [order 1 .queued] tunnel) (fun t => t.covered 0 && !(t.order 0).degraded) := by
  decide +kernel

theorem witness_ParamPlanAndServiceWritesAreTaken :
    let c := fun hi lo => Instr.writeParamEntry 1 [3, 18, hi, lo]
    let p := Instr.writePlanEntry 1 [4, 11, 2, 0, 1, 0, 8, 255, 255, 7, 4, 0]
    let v := Instr.writeServiceEntry 1 [5, 15, flag false, 0, 1]
    meets (c 0 23) (given (c 0 23) tunnel) ∧ Config.paramTable[18]? = some ⟨0, 23, 8⟩ ∧ tunnel.halt.mode = .offline ∧
    meets (c 0 24) (given (c 0 24) tunnel) ∧ meets (c 0 23) (given (c 0 23) moving) ∧ meets p (given p moving) ∧
    (2 : Byte).toNat = planStateCode .isOpen ∧ ((0 : Byte) ++ (1 : Byte)) ≠ (0 : ServiceSet) ∧
    (8 : ServiceSet) &&& 1 = 0 ∧ (List.range 16).all (fun n => !hasService 8 n || (tunnel.service n).addable) = true ∧
    meets v (given v tunnel) ∧
    (∀ q ∈ tunnel.sales.plans, q.state ≠ .absent → hasService q.addons 15 = false) := by decide +kernel

/-- PLAN images out of range, with an empty base, with a shared service and with an add-on that is not addable; SERVICE
images with flag 2 and with the flag of a plan's add-on taken away. -/
theorem witness_PlanAndServiceWritesAreRefused :
    let p := fun image : List Byte => Instr.writePlanEntry 1 ([4, 11] ++ image ++ [0])
    let v := fun b => Instr.writeServiceEntry 1 [5, 3, b, 0, 1]
    let bad := fun (x : Instr) (n : Byte) => answers x tunnel fun t => replied t [1, 2, 4, n]
    bad (p [0, 0, 1, 0, 8, 0, 0, 7, 4]) 1 ∧ bad (p [4, 0, 1, 0, 8, 0, 0, 7, 4]) 1 ∧ bad (p [1, 0, 1, 0, 8, 0, 0, 8, 4]) 5 ∧
    bad (p [1, 0, 1, 0, 8, 0, 0, 7, 0]) 6 ∧ bad (p [1, 0, 1, 0, 8, 0, 0, 7, 5]) 6 ∧ bad (p [3, 0, 0, 0, 8, 0, 0, 7, 4]) 2 ∧
    bad (p [2, 0, 9, 0, 8, 0, 0, 7, 4]) 3 ∧ bad (p [2, 0, 1, 0, 12, 0, 0, 7, 4]) 3 ∧ (tunnel.service 2).addable = false ∧
    answers (p [1, 0, 0, 0, 12, 0, 0, 7, 4]) tunnel (fun t => (t.plan 11).state == .absent) ∧ bad (v 2) 1 ∧ bad (v 0) 1 ∧
    hasService (tunnel.plan 6).addons 3 = true := by decide +kernel

theorem witness_NoticesAreTakenAndMasked :
    let c := fun b => Instr.takeNotice 1 [b]
    let m := fun hi => Instr.setNoticeMask 1 [hi, 0x7F]
    let s := tunnel.notify .reportLost (reason 1)
    meets (c 9) (given (c 9) s) ∧ meets (c 8) (given (c 8) s) ∧ (s.mgmt.notices.getD 7 .blank).pending = true ∧
    meets (c 1) (given (c 1) s) ∧ (s.mgmt.notices.getD 0 .blank).pending = false ∧ meets (c 0) (given (c 0) s) ∧
    (s.mgmt.notices.getD 7 .blank).enabled = true ∧ meets (c 0) (given (c 0) tunnel) ∧
    meets (m 0) (given (m 0) s) ∧ meets (m 1) (given (m 1) s) := by decide +kernel

/-! ## The laws hold in the state after reset, and a step is taken from it -/

theorem reset_shape : Shape State.reset := shaped_shape (by decide +kernel)
theorem reset_pool : PoolLaw State.reset := pooled_pool (by decide +kernel)
theorem reset_halt : HaltLaw State.reset := by unfold HaltLaw; decide +kernel
theorem reset_grant : GrantLaw State.reset := by unfold GrantLaw; decide +kernel

theorem reset_attn : AttnLaw State.reset := by unfold AttnLaw; decide +kernel

theorem reset_car : CarLaw State.reset := by unfold CarLaw; decide +kernel

theorem reset_table : TableLaw State.reset :=
  ⟨reset_shape, by unfold NodeLaw; decide +kernel, by unfold ParamLaw; decide +kernel⟩

theorem reset_port : PortLaw State.reset := by
  unfold PortLaw PortBounded CollectionOpen TransmitterBusy
  decide +kernel

theorem reset_standstill : StandstillLaw State.reset := by
  have h : ∀ st ∈ State.reset.stations, Station.working st = false := by decide +kernel
  exact ⟨by decide +kernel, fun _ => h, by decide +kernel, by decide +kernel, by decide +kernel,
    fun st hs hw => by simp [h st hs] at hw⟩

theorem reset_quote : QuoteLaw State.reset := by
  have hf : ∀ a, a < 4 → (State.reset.fetch a).id = none := by decide +kernel
  have hw : ∀ a, a < 4 → ∀ l, l < 3 → (State.reset.fetch a).waiting.getD l none = none := by decide +kernel
  have hm : ∀ a, a < 32 → (State.reset.memberRec a).state = .free := by decide +kernel
  refine ⟨reset_shape, by unfold Member.sound; decide +kernel, by decide +kernel, fun a b ha _ h => absurd (hm a ha) h,
    fun a b id ha _ h => ?_, fun a id ha h => ?_, fun a l tier ha hl h => ?_, by decide +kernel, by decide +kernel⟩
  · simp [hf a ha] at h
  · simp [hf a ha] at h
  · exact absurd ((hw a ha l hl).symm.trans h) (by simp)

/-! ### The laws of bound orders, holds and the line of cars, checked record by record -/

def boundCheck (s : State) : Bool :=
  (List.range 40).all (fun r => (s.order r).state != .bound || s.track.cars.any fun c =>
    c.order == some (s.order r).tag && (s.order r).car == some c.tag) &&
  s.track.cars.all (fun c => c.order.all fun tag => (List.range 40).any fun r =>
    (s.order r).state == .bound && (s.order r).tag == tag && (s.order r).car == some c.tag) &&
  (List.range 40).all fun q => (List.range 40).all fun r =>
    (s.order q).state == .free || (s.order r).state == .free || (s.order q).tag != (s.order r).tag || q == r

theorem boundCheck_law {s : State} (h : boundCheck s = true) : BoundLaw s := by
  simp only [boundCheck, Bool.and_eq_true, List.all_eq_true, List.any_eq_true, List.mem_range, Bool.or_eq_true,
    bne_iff_ne, beq_iff_eq] at h
  obtain ⟨⟨a, b⟩, c⟩ := h
  refine ⟨fun r hr hb => ?_, fun x hx tag ht => ?_, fun q r hq hr h1 h2 h3 => ?_⟩
  · obtain h | ⟨x, hx, h1, h2⟩ := a r hr
    · exact absurd hb h
    · exact ⟨x, hx, h1, h2⟩
  · have h := b x hx
    simp only [ht, Option.all_some, List.any_eq_true, List.mem_range, Bool.and_eq_true, beq_iff_eq] at h
    obtain ⟨r, hr, ⟨h1, h2⟩, h3⟩ := h
    exact ⟨r, hr, h1, h2, h3⟩
  · obtain ((h | h) | h) | h := c q hq r hr
    · exact absurd h h1
    · exact absurd h h2
    · exact absurd h3 h
    · exact h

def holdCheck (s : State) : Bool :=
  decide s.members.recency.Nodup && s.members.recency.all (· < 32) &&
  (List.range 32).all (fun n => ((s.memberRec n).state == .cached) == decide (n ∈ s.members.recency)) &&
  (List.range 32).all (fun n => (s.memberRec n).state == .free ||
    (s.memberRec n).refs == (s.holders (s.memberRec n).id).length) &&
  (List.range 3).all fun l => (s.slot l).state != .offered || (s.slot l).member.all fun id => (s.memberIndex id).isSome

theorem holdCheck_law {s : State} (h : holdCheck s = true) : HoldLaw s := by
  simp only [holdCheck, Bool.and_eq_true, List.all_eq_true, List.mem_range, Bool.or_eq_true, bne_iff_ne, beq_iff_eq,
    decide_eq_true_eq] at h
  obtain ⟨⟨⟨⟨a, b⟩, c⟩, d⟩, e⟩ := h
  refine ⟨a, fun n => ⟨fun hn => ⟨b n hn, ?_⟩, fun ⟨hn, hc⟩ => ?_⟩, fun n hn hf => (d n hn).resolve_left hf,
    fun l id hl ho hm => ?_⟩
  · rw [← beq_iff_eq, c n (b n hn), decide_eq_true_eq]
    exact hn
  · rw [← decide_eq_true_eq (p := n ∈ _), ← c n hn, beq_iff_eq]
    exact hc
  · have h := (e l hl).resolve_left (fun h => h ho)
    simp only [hm, Option.all_some] at h
    exact Option.isSome_iff_ne_none.mp h

/-- A car rides for a BOUND order, an OFFERED quote holds its member, and three cars stand in line, the tail ENTERING. -/
def busy : State :=
  quoting .offered (some 8120) (caching (fun m => { m with refs := 1 })
    (withMerge (fun m => { m with entryBlocked := true })
      (withCars [{ car 8 2400 (some 190) with state := .exiting, order := some 1 }, car 9 500 (some 190), car 10 31 none]
        { moving with sales := { moving.sales with
          orders := moving.sales.orders.set 0 { order 1 .bound with car := some 8 }, free := (List.range 40).drop 1 } })))

theorem witness_BoundLaw : BoundLaw busy ∧ PoolLaw busy ∧ Shape busy ∧ HaltLaw busy ∧ GrantLaw busy ∧ CarLaw busy :=
  ⟨boundCheck_law (by decide +kernel), pooled_pool (by decide +kernel), shaped_shape (by decide +kernel),
    by unfold HaltLaw; decide +kernel, by unfold GrantLaw; decide +kernel, by unfold CarLaw; decide +kernel⟩

theorem witness_HoldLaw : HoldLaw busy ∧ busy.victim = some 1 :=
  ⟨holdCheck_law (by decide +kernel), by decide +kernel⟩

/-- An EXITING head, a RIDING car and an ENTERING tail stand in line. -/
theorem witness_LineLaw : LineLaw busy := by
  have h : busy.track.cars = [{ car 8 2400 (some 190) with state := .exiting, order := some 1 }, car 9 500 (some 190),
    car 10 31 none] := rfl
  have e : busy.merge.entryBlocked = true := rfl
  refine ⟨fun j c hj hs => ?_, fun c hc hs => ?_, fun j c hj hs => ?_, fun i j a b hij ha hb hl => ?_⟩ <;> rw [h] at *
  · rcases j with _ | _ | _ | j <;> simp at hj <;> subst hj <;> simp [car, e] at hs ⊢
  · simp at hc; rcases hc with rfl | rfl | rfl <;> simp [car] at hs ⊢
  · rcases j with _ | _ | _ | j <;> simp at hj <;> subst hj <;> simp [car] at hs ⊢
  · rcases i with _ | _ | _ | i <;> rcases j with _ | _ | _ | j <;> simp at ha hb hij <;> subst ha hb <;>
      simp [car] at hl ⊢

theorem reset_bound : BoundLaw State.reset := boundCheck_law (by decide +kernel)

theorem reset_hold : HoldLaw State.reset := holdCheck_law (by decide +kernel)

theorem reset_line : LineLaw State.reset := by
  have h : State.reset.track.cars = [] := rfl
  constructor <;> simp [h]

theorem witness_step_from_reset :
    ∃ t, step { State.reset with pending := [.tick] } = .next t ∧ t.pending = [] ∧ t.portF = .resuming :=
  ⟨_, rfl, rfl, rfl⟩

end Sys2Proof.Tests
end

section
/-!
The halt bytes of a port (R9, R10): what leaves the halt run count alone, what counting one byte does, what the receiver
does with a raw halt byte, and the obligation O7.
-/
namespace Sys2Proof.Machine

/-! ## The halt run count is the halt counter's alone -/

@[simp] theorem Port.transmit_haltRun (q : Port) : (Port.transmit q).haltRun = q.haltRun := by
  unfold Port.transmit Port.startFrame
  split
  · rfl
  · split <;> rfl
  · split <;> rfl
  · rfl

@[simp] theorem offerUrgent_haltRun (s : State) (p : PortId) (f : OutFrame) :
    ((s.offerUrgent p f).port p).haltRun = (s.port p).haltRun := by
  unfold State.offerUrgent
  dsimp only
  split
  · rfl
  · split <;> simp

@[simp] theorem setRx_haltRun (s : State) (p : PortId) (rx : RxState) (l : List Byte) :
    ((s.setRx p rx l).port p).haltRun = (s.port p).haltRun := by simp [State.setRx]

@[simp] theorem rxError_haltRun (s : State) (p : PortId) (e : RxError) :
    ((s.rxError p e).port p).haltRun = (s.port p).haltRun := by simp [State.rxError, State.notifyLink]

@[simp] theorem abortFrame_haltRun (s : State) (p : PortId) (e : RxError) :
    ((s.abortFrame p e).port p).haltRun = (s.port p).haltRun := by simp [State.abortFrame]

@[simp] theorem judgePause_haltRun (s : State) (p : PortId) :
    ((s.judgePause p).port p).haltRun = (s.port p).haltRun := by
  cases p with
  | s => rfl
  | f =>
    unfold State.judgePause
    dsimp only
    split
    · exact offerUrgent_haltRun ..
    · rfl

@[simp] theorem offerInbound_haltRun (s : State) (p : PortId) (f : Frame) :
    ((s.offerInbound p f).port p).haltRun = (s.port p).haltRun := by
  unfold State.offerInbound
  dsimp only
  split <;> simp [State.notifyLink]

@[simp] theorem content_haltRun (s : State) (p : PortId) (b : Byte) :
    ((s.content p b).port p).haltRun = (s.port p).haltRun := by
  unfold State.content
  dsimp only
  split
  · simp
  · split
    · split <;> simp
    · split <;> simp

@[simp] theorem closeFrame_haltRun (s : State) (p : PortId) :
    ((s.closeFrame p).port p).haltRun = (s.port p).haltRun := by
  unfold State.closeFrame
  dsimp only
  split
  · simp
  · split <;> simp

/-- The receiver state machine leaves the halt run count as it is, whatever its state and the byte (R9). -/
@[simp] theorem receive_haltRun (s : State) (p : PortId) (b : Byte) :
    ((s.receive p b).port p).haltRun = (s.port p).haltRun := by
  unfold State.receive
  split
  case h_1 => split <;> simp
  case h_2 =>
    split
    · simp
    · split
      · simp
      · split
        · split <;> simp
        · simp
  case h_3 => (repeat' split) <;> simp

/-! ## Counting a byte (R9) -/

/-- A byte other than the halt byte ends the run. -/
theorem countHalt_other {s : State} {p : PortId} {b : Byte} (hb : b ≠ Config.haltByte) :
    s.countHalt p b = s.setPort p { s.port p with haltRun := 0 } := if_neg hb

/-- One of the first five halt bytes in a row is counted. -/
theorem countHalt_counted {s : State} {p : PortId} (hrun : (s.port p).haltRun < 5) :
    s.countHalt p Config.haltByte = s.setPort p { s.port p with haltRun := (s.port p).haltRun + 1 } := by
  have hshort : (s.port p).haltRun + 1 < Config.haltRun := Nat.succ_lt_succ hrun
  simp [State.countHalt, hshort]

/-- The sixth halt byte in a row raises the port's cause and starts the count again. -/
theorem countHalt_pattern {s : State} {p : PortId} (hrun : 5 ≤ (s.port p).haltRun) :
    s.countHalt p Config.haltByte =
      (s.setPort p { s.port p with haltRun := 0 }).raiseCause (patternCause p) CauseDetail.empty := by
  have hfull : ¬ (s.port p).haltRun + 1 < Config.haltRun := Nat.not_lt.mpr (Nat.succ_le_succ hrun)
  simp [State.countHalt, hfull]

/-- A halt byte changes nothing of its port but the run count. -/
theorem countHalt_port (s : State) (p : PortId) :
    (s.countHalt p Config.haltByte).port p = { s.port p with
      haltRun := if (s.port p).haltRun < 5 then (s.port p).haltRun + 1 else 0 } := by
  by_cases hrun : (s.port p).haltRun < 5
  · simp [countHalt_counted hrun, hrun]
  · simp [countHalt_pattern (Nat.le_of_not_lt hrun), hrun]

/-- Counting a byte touches no notice. -/
theorem countHalt_mgmt (s : State) (p : PortId) (b : Byte) : (s.countHalt p b).mgmt = s.mgmt :=
  (countHalt_frame s p b).same .mgmt (by cases p <;> decide)

theorem patternCause_eq (p : PortId) : patternCause p = if p = .f then .patternF else .patternS := by
  cases p <;> rfl

/-! ## A raw halt byte at the receiver (R10) -/

/-- A frame is open at a port: a collection begun, or an escape waiting for its code byte (R10). -/
def FrameOpen (q : Port) : Prop := q.rx = .collect ∧ q.coll ≠ [] ∨ q.rx = .escape

/-- A raw halt byte aborts an open frame. -/
theorem receive_halt_open {s : State} {p : PortId} (h : FrameOpen (s.port p)) :
    s.receive p Config.haltByte = s.abortFrame p .patternByte := by
  obtain ⟨hrx, hcoll⟩ | hrx := h
  · simp [State.receive, hrx, hcoll, Config.delimiter, Config.escape, Config.haltByte]
  · simp [State.receive, hrx, Config.delimiter, Config.haltByte]

/-- With no frame open the receiver discards a raw halt byte. -/
theorem receive_halt_closed {s : State} {p : PortId}
    (h : (s.port p).rx = .collect ∧ (s.port p).coll = [] ∨ (s.port p).rx = .hunt) : s.receive p Config.haltByte = s := by
  obtain ⟨hrx, hcoll⟩ | hrx := h
  · simp [State.receive, hrx, hcoll, Config.delimiter, Config.escape, Config.haltByte]
  · simp [State.receive, hrx, Config.delimiter, Config.haltByte]

/-- A raw halt byte raises no cause at the receiver. -/
theorem receive_halt_raised (s : State) (p : PortId) : (s.receive p Config.haltByte).raised = s.raised := by
  by_cases hopen : FrameOpen (s.port p)
  · rw [receive_halt_open hopen]
    exact (abortFrame_frame s p .patternByte).same .raised (by cases p <;> decide)
  · rw [receive_halt_closed]
    cases hrx : (s.port p).rx <;> simp_all [FrameOpen]

/-- An abort leaves the receiver in HUNT with an empty collection, the error counted and noticed (R3, R8). -/
theorem abortFrame_discarded (s : State) (p : PortId) (e : RxError) (h : s.mgmt.notices.length = 8) :
    Discarded p e .hunt s (s.abortFrame p e) := by
  have noticed (t : State) (ht : t.mgmt = s.mgmt) (n : Nat) :
      Noticed .link { reason n with arg := some (portNumber p) } (t.notifyLink p n) :=
    notify_noticed _ _ _ (by rw [ht]; exact h)
  refine ⟨?_, ?_, ?_, noticed _ (by simp [State.setRx]) _⟩ <;>
    simp [State.abortFrame, State.rxError, State.setRx, State.notifyLink, sat]

/-- A discard is told by the port's error counts alone, so counting a byte first does not change it. -/
theorem Discarded.of_rxErrors {p : PortId} {e : RxError} {rx : RxState} {s u t : State}
    (hu : (u.port p).rxErrors = (s.port p).rxErrors) (h : Discarded p e rx u t) : Discarded p e rx s t := by
  unfold Discarded at *
  rwa [hu] at h

/-! ## RECEIVE_BYTE -/

/-- Outside a line reset RECEIVE_BYTE counts the byte and gives it to the receiver. -/
theorem exec_receiveByte {s : State} (p : PortId) (b : Byte) (h : s.inReset = false) :
    exec (.receiveByte p b) s = .next ((s.countHalt p b).receive p b) := by
  have hexec : exec (.receiveByte p b) s = execReceiveByte p b s := rfl
  simp [hexec, execReceiveByte, running, h]

/-- RECEIVE_BYTE leaves the Node Table. -/
theorem receiveByte_nodes (s : State) (p : PortId) (b : Byte) : ((s.countHalt p b).receive p b).nodes = s.nodes :=
  (((countHalt_frame s p b).within (by simp)).trans (receive_frame (s.countHalt p b) p b)).same .nodes
    (by cases p <;> decide)

/-- The first five halt bytes in a row are counted and raise nothing. -/
theorem receiveByte_counted {s : State} {p : PortId} (hrun : (s.port p).haltRun < 5) :
    let t := (s.countHalt p Config.haltByte).receive p Config.haltByte
    (t.port p).haltRun = (s.port p).haltRun + 1 ∧ t.raised = s.raised := by
  simp [receive_halt_raised, countHalt_counted hrun]

/-- The sixth halt byte in a row raises the pattern's cause alone. -/
theorem receiveByte_pattern {s : State} {p : PortId} (hrun : 5 ≤ (s.port p).haltRun) :
    let t := (s.countHalt p Config.haltByte).receive p Config.haltByte
    (t.port p).haltRun = 0 ∧ t.raised = s.raised ++ [(patternCause p, CauseDetail.empty)] := by
  rw [countHalt_pattern hrun]
  exact ⟨by simp, by simp [receive_halt_raised, State.raiseCause]⟩

/-- A halt byte in an open frame: the frame is aborted with PATTERN_BYTE. -/
theorem receiveByte_discarded {s : State} {p : PortId} (hopen : FrameOpen (s.port p))
    (hnotices : s.mgmt.notices.length = 8) :
    Discarded p .patternByte .hunt s ((s.countHalt p Config.haltByte).receive p Config.haltByte) := by
  have hcounted : FrameOpen ((s.countHalt p Config.haltByte).port p) := by rw [countHalt_port]; exact hopen
  rw [receive_halt_open hcounted]
  refine (abortFrame_discarded _ p .patternByte ?_).of_rxErrors ?_
  · rw [countHalt_mgmt]; exact hnotices
  · rw [countHalt_port]

/-- A halt byte with no frame open is counted and nothing more. -/
theorem receiveByte_idle {s : State} {p : PortId}
    (hclosed : (s.port p).rx = .collect ∧ (s.port p).coll = [] ∨ (s.port p).rx = .hunt) :
    (s.countHalt p Config.haltByte).receive p Config.haltByte = s.countHalt p Config.haltByte :=
  receive_halt_closed (by rw [countHalt_port]; exact hclosed)

/-- Settles O7: the byte is counted before the receiver takes it, and the receiver leaves the count alone. -/
theorem haltBytesAreTaken : Obligations.HaltBytesAreTaken := by
  refine ⟨fun p b s hreset => ⟨_, exec_receiveByte p b hreset, receiveByte_nodes s p b, ?_, ?_, fun hb => ?_⟩,
    fun p s hreset hshape => ⟨_, exec_receiveByte p Config.haltByte hreset, ?_,
      fun hopen => receiveByte_discarded hopen hshape.notices, fun hclosed => ?_⟩⟩
  · rintro rfl hrun
    exact receiveByte_counted hrun
  · rintro rfl hrun
    rw [← patternCause_eq]
    exact receiveByte_pattern hrun
  · rw [receive_haltRun, countHalt_other hb, port_setPort]
  · rw [receive_haltRun, countHalt_port]
  · rw [receiveByte_idle hclosed, countHalt_port, countHalt_mgmt]
    exact ⟨rfl, rfl, rfl, rfl⟩

end Sys2Proof.Machine
end

section
/-!
Voiding a quote (R56): the records an account's id finds, what the quote gives up, the slot left EMPTY, and the two
commands that void a quote with a reply (R57, R60) with the obligation O22.
-/
namespace Sys2Proof.Machine

/-! ## What an id finds (R73, R78) -/

theorem memberIndex_lt {s : State} {id n : Nat} (h : s.memberIndex id = some n) : n < 32 :=
  List.mem_range.mp (List.mem_of_find?_eq_some h)

theorem fetchIndex_lt {s : State} {id n : Nat} (h : s.fetchIndex id = some n) : n < 4 :=
  List.mem_range.mp (List.mem_of_find?_eq_some h)

/-! ## What a voided quote gives up (R56) -/

/-- A reference is released at the record that holds the account. -/
theorem releaseRef_held {s : State} {id n : Nat} (h : s.memberIndex id = some n) :
    s.releaseRef (some id) = s.setMember n { s.memberRec n with refs := (s.memberRec n).refs - 1 } := by
  simp only [State.releaseRef, State.modMember, h]

/-- A lane leaves the waiting set of the fetch that is outstanding for the account. -/
theorem leaveFetch_outstanding {s : State} {id n : Nat} (l : Nat) (h : s.fetchIndex id = some n) :
    s.leaveFetch l (some id) = s.setFetch n { s.fetch n with waiting := (s.fetch n).waiting.set l none } := by
  simp only [State.leaveFetch, Option.bind_some, h]

theorem letGo_offered {s : State} {l : Nat} (h : (s.slot l).state = .offered) :
    s.letGo l = s.releaseRef (s.slot l).member := by simp only [State.letGo, h]

theorem letGo_pending {s : State} {l : Nat} (h : (s.slot l).state = .pending) :
    s.letGo l = s.leaveFetch l (s.slot l).member := by simp only [State.letGo, h]

/-- What a quote gives up is the Member Cache's: Sales stands. -/
@[simp] theorem letGo_sales (s : State) (l : Nat) : (s.letGo l).sales = s.sales :=
  (letGo_frame s l).same .sales (by decide)

@[simp] theorem letGo_lane (s : State) (l k : Nat) : (s.letGo l).lane k = s.lane k := by
  simp only [State.lane, letGo_sales]

@[simp] theorem letGo_slot (s : State) (l k : Nat) : (s.letGo l).slot k = s.slot k := by
  simp only [State.slot, letGo_lane]

/-- The member record of an OFFERED quote's account holds one reference less. -/
theorem letGo_memberRec {s : State} {l id n : Nat} (hs : Shape s) (hstate : (s.slot l).state = .offered)
    (hmember : (s.slot l).member = some id) (hn : s.memberIndex id = some n) :
    (s.letGo l).memberRec n = { s.memberRec n with refs := (s.memberRec n).refs - 1 } := by
  rw [letGo_offered hstate, hmember, releaseRef_held hn]
  exact memberRec_setMember _ (hs.records ▸ memberIndex_lt hn)

/-- The fetch of a PENDING quote's account has the lane out of its waiting set. -/
theorem letGo_fetch {s : State} {l id n : Nat} (hs : Shape s) (hstate : (s.slot l).state = .pending)
    (hmember : (s.slot l).member = some id) (hn : s.fetchIndex id = some n) :
    (s.letGo l).fetch n = { s.fetch n with waiting := (s.fetch n).waiting.set l none } := by
  rw [letGo_pending hstate, hmember, leaveFetch_outstanding l hn]
  exact fetch_setFetch _ (hs.fetches ▸ fetchIndex_lt hn)

/-! ## The slot left EMPTY (R52) -/

theorem emptySlot_lane {s : State} {l : Nat} (h : l < s.sales.lanes.length) :
    (s.emptySlot l).lane l = { s.lane l with slot := { s.slot l with state := .empty, life := none } } :=
  lane_setLane _ h

theorem emptySlot_lane_ne (s : State) {l k : Nat} (h : k ≠ l) : (s.emptySlot l).lane k = s.lane k :=
  lane_setLane_ne _ _ h

@[simp] theorem emptySlot_orders (s : State) (l : Nat) : (s.emptySlot l).sales.orders = s.sales.orders := rfl

/-! ## Voiding a quote (R56) -/

theorem Slot.held_iff (q : Slot) : Slot.held q = true ↔ q.state ≠ .empty := bne_iff_ne

/-- A held quote is given up and its slot emptied, and the reply that the voiding rule names carries its token. -/
theorem voidQuote_held {s : State} {l : Nat} (r : Reply) (h : (s.slot l).state ≠ .empty) :
    s.voidQuote l (some r) = ((s.letGo l).emptySlot l).quoteReply l r (some (s.slot l).token) 0 :=
  if_pos ((Slot.held_iff _).mpr h)

/-- Giving up the quote and emptying the slot is what R56 asks of a void. -/
theorem letGo_emptySlot_voided {s : State} {l : Nat} (hs : Shape s) (hl : l < 3) :
    QuoteVoided l s ((s.letGo l).emptySlot l) := by
  have hlanes : l < (s.letGo l).sales.lanes.length := by rwa [letGo_sales, hs.lanes]
  refine ⟨?lane, fun k hk => ?others, fun id n => letGo_memberRec hs, fun id n => letGo_fetch hs, ?orders⟩
  case lane => rw [emptySlot_lane hlanes, letGo_lane, letGo_slot]
  case others => rw [emptySlot_lane_ne _ hk, letGo_lane]
  case orders => rw [emptySlot_orders, letGo_sales]

/-- A void with a reply: the reply is sent from a state in which the quote has been voided. -/
theorem voidQuote_voided {s : State} {l : Nat} (r : Reply) (hs : Shape s) (hl : l < 3)
    (h : (s.slot l).state ≠ .empty) :
    ∃ u : State, s.voidQuote l (some r) = u.quoteReply l r (some (s.slot l).token) 0 ∧ QuoteVoided l s u :=
  ⟨_, voidQuote_held r h, letGo_emptySlot_voided hs hl⟩

/-! ## CANCEL (R60) -/

/-- Taking a hand-over off leaves every table its size. -/
theorem Shape.without {s : State} (h : Shape s) (c : Instr) : Shape (s.without c) :=
  { h with }

/-- CANCEL voids the lane's open quote if it carries the token; else only the hand-over is taken off. -/
theorem exec_cancel {lane token : Nat} {s : State} (h : Taken (.cancel lane token) s) :
    exec (.cancel lane token) s = .next (
      if (s.slot lane).state ≠ .empty ∧ (s.slot lane).token = token then
        (s.without (.cancel lane token)).voidQuote lane (some .cancelled)
      else s.without (.cancel lane token)) := by
  have hslot : (s.without (.cancel lane token)).slot lane = s.slot lane := rfl
  have hexec : exec (.cancel lane token) s = execCancel lane token s := rfl
  rw [hexec, execCancel, taking_eq _ h rfl]
  simp only [Slot.held_iff, hslot]

/-! ## The life timer (R57) -/

/-- The life timer's expiry voids the lane's quote as EXPIRED. -/
theorem exec_quoteLifeExpiry {lane : Nat} {s : State} (hreset : s.inReset = false)
    (hlife : (s.slot lane).life = some 0) :
    exec (.quoteLifeExpiry lane) s = .next (s.voidQuote lane (some .expired)) :=
  whenDue_eq _ hreset (by rw [hlife]; rfl)

/-- Settles O22: both commands are the void of R56 with their own reply, CANCEL for the open quote's token alone. -/
theorem cancelAndExpiryVoidTheQuote : Obligations.CancelAndExpiryVoidTheQuote := by
  refine ⟨fun lane token s hlane hs htaken => ⟨fun hopen htoken => ?named, fun hother => ?ignored⟩,
    fun lane s hlane hs hreset hoffered hlife => ?expired⟩
  case named =>
    obtain ⟨u, hvoid, hvoided⟩ :=
      voidQuote_voided (s := s.without (.cancel lane token)) .cancelled (hs.without _) hlane hopen
    refine ⟨u, ?_, hvoided⟩
    rw [exec_cancel htaken, if_pos ⟨hopen, htoken⟩, hvoid, ← htoken]
    rfl
  case ignored =>
    rw [exec_cancel htaken, if_neg fun ⟨hopen, htoken⟩ => hother.elim hopen (· htoken)]
  case expired =>
    obtain ⟨u, hvoid, hvoided⟩ := voidQuote_voided .expired hs hlane (by rw [hoffered]; decide)
    exact ⟨u, by rw [exec_quoteLifeExpiry hreset hlife, hvoid], hvoided⟩

end Sys2Proof.Machine
end

section
/-!
The Member Cache's records at the turn of the day and in a flush (R92, R93): what the two requests make of each record,
which write-backs a flush sends, and the obligation O27.
-/
namespace Sys2Proof.Machine

/-! ## DAY_RESET (R92) -/

/-- Clearing the list of records for the day clears each record of it; a record beyond the table reads FREE and stays so. -/
theorem memberRec_map_dayClear (s : State) (n : Nat) :
    (s.setMembers { s.members with records := s.members.records.map dayClear }).memberRec n =
      dayClear (s.memberRec n) := by
  have hfree : dayClear .blank = .blank := rfl
  simp only [State.memberRec, State.setMembers_members, List.getD_eq_getElem?_getD, List.getElem?_map]
  cases s.members.records[n]? with
  | none => exact hfree.symm
  | some m => rfl

/-- DAY_RESET clears the records and replies OK. -/
theorem exec_dayReset {seq : Byte} {args : List Byte} {s : State} (h : Taken (.dayReset seq args) s) :
    exec (.dayReset seq args) s = .next
      (((s.without (.dayReset seq args)).setMembers
        { s.members with records := s.members.records.map dayClear }).reply seq 16 .ok []) :=
  taking_eq _ h rfl

theorem State.without_portS (s : State) (c : Instr) : (s.without c).portS = s.portS := rfl

theorem without_memberRec (s : State) (c : Instr) (n : Nat) : (s.without c).memberRec n = s.memberRec n := rfl

/-- Taking a hand-over off and writing the Member Cache touches nothing else. -/
theorem without_setMembers_frame (s : State) (c : Instr) (m : Members) :
    SameExcept [.members, .handed] s ((s.without c).setMembers m) :=
  ((setHanded_frame s _).within (by decide)).trans ((setMembers_frame _ m).within (by decide))

/-! ## One record of a flush (R93) -/

/-- A held record with uses that the site computer has not been told. -/
def Member.needsWriteBack (m : Member) : Bool := m.state != .free && m.dirty

theorem needsWriteBack_iff (m : Member) : m.needsWriteBack = true ↔ m.state ≠ .free ∧ m.dirty = true := by
  simp [Member.needsWriteBack]

/-- A record as a flush leaves it. -/
def Member.flushed (m : Member) : Member := if m.needsWriteBack then { m with dirty := false } else m

/-- A dirty record is written back and cleaned. -/
theorem flushRecord_dirty {s : State} {n : Nat} (h : (s.memberRec n).needsWriteBack = true) :
    s.flushRecord n = (s.writeBack (s.memberRec n)).setMember n { s.memberRec n with dirty := false } :=
  if_pos ((needsWriteBack_iff _).mp h)

/-- A flush passes over any other record. -/
theorem flushRecord_clean {s : State} {n : Nat} (h : ¬(s.memberRec n).needsWriteBack = true) : s.flushRecord n = s :=
  if_neg fun hdirty => h ((needsWriteBack_iff _).mpr hdirty)

/-- A write-back leaves the Member Cache. -/
@[simp] theorem writeBack_members (s : State) (m : Member) : (s.writeBack m).members = s.members :=
  (writeBack_frame s m).same .members (by decide)

/-- Writing a record back as it stands changes nothing. -/
theorem setMember_memberRec {s : State} {n : Nat} (h : n < s.members.records.length) :
    s.setMember n (s.memberRec n) = s := by
  simp [State.setMember, State.setMembers, State.memberRec, h]

/-- A flushed record stands at its place in a cache otherwise unchanged. -/
theorem flushRecord_members (s : State) {n : Nat} (h : n < s.members.records.length) :
    (s.flushRecord n).members = (s.setMember n (s.memberRec n).flushed).members := by
  by_cases hdirty : (s.memberRec n).needsWriteBack = true
  · rw [flushRecord_dirty hdirty, Member.flushed, if_pos hdirty]
    simp only [State.setMember, State.setMembers_members, writeBack_members]
  · rw [flushRecord_clean hdirty, Member.flushed, if_neg hdirty, setMember_memberRec h]

/-- What a flushed record sends to Port S. -/
theorem flushRecord_portS (s : State) (n : Nat) :
    (s.flushRecord n).portS =
      if (s.memberRec n).needsWriteBack then (s.writeBack (s.memberRec n)).portS else s.portS := by
  by_cases hdirty : (s.memberRec n).needsWriteBack = true
  · rw [flushRecord_dirty hdirty, State.setMember_portS, if_pos hdirty]
  · rw [flushRecord_clean hdirty, if_neg hdirty]

/-! ## The first records of a flush, in record order -/

/-- The state in which a flush has passed the records below `k`. -/
def State.flushBelow (s : State) (k : Nat) : State := (List.range k).foldl State.flushRecord s

theorem flushBelow_succ (s : State) (k : Nat) : s.flushBelow (k + 1) = (s.flushBelow k).flushRecord k := by
  simp [State.flushBelow, List.range_succ]

/-- A flush keeps the number of records, the recency list and the Fetch Table, flushes the records it has passed and
leaves those it has yet to reach. -/
structure FlushedBelow (k : Nat) (s t : State) : Prop where
  length : t.members.records.length = s.members.records.length
  recency : t.members.recency = s.members.recency
  fetches : t.members.fetches = s.members.fetches
  passed : ∀ n, n < k → t.memberRec n = (s.memberRec n).flushed
  ahead : ∀ n, k ≤ n → t.memberRec n = s.memberRec n

/-- Flushing the next record. -/
theorem FlushedBelow.flushRecord {k : Nat} {s t : State} (h : FlushedBelow k s t)
    (hk : k < s.members.records.length) : FlushedBelow (k + 1) s (t.flushRecord k) := by
  have hlen : k < t.members.records.length := h.length ▸ hk
  have hmembers := flushRecord_members t hlen
  have hread (n : Nat) : (t.flushRecord k).memberRec n = (t.setMember k (t.memberRec k).flushed).memberRec n := by
    rw [State.memberRec, hmembers]; rfl
  refine ⟨?_, ?_, ?_, fun n hn => ?_, fun n hn => ?_⟩
  · rw [hmembers, ← h.length]; exact List.length_set
  · rw [hmembers, ← h.recency]; rfl
  · rw [hmembers, ← h.fetches]; rfl
  · rw [hread]
    obtain hlt | rfl := Nat.lt_succ_iff_lt_or_eq.mp hn
    · rw [memberRec_setMember_ne _ _ (Nat.ne_of_lt hlt), h.passed n hlt]
    · rw [memberRec_setMember _ hlen, h.ahead n (Nat.le_refl _)]
  · rw [hread, memberRec_setMember_ne _ _ (by omega), h.ahead n (by omega)]

theorem flushBelow_flushed (s : State) : ∀ k, k ≤ s.members.records.length → FlushedBelow k s (s.flushBelow k)
  | 0, _ => ⟨rfl, rfl, rfl, fun n hn => absurd hn n.not_lt_zero, fun _ _ => rfl⟩
  | k + 1, hk => by
    rw [flushBelow_succ]
    exact (flushBelow_flushed s k (by omega)).flushRecord hk

/-- A flush sends the write-backs of the dirty records it has passed, in record order, each with the uses its record held
before the flush; what it makes of Port S rests on Port S alone, so any state with the same Port S may tell it. -/
theorem flushBelow_portS {s v : State} (hv : v.portS = s.portS) : ∀ k, k ≤ s.members.records.length →
    (s.flushBelow k).portS = (((List.range k).filter fun n => (s.memberRec n).needsWriteBack).foldl
      (fun w n => w.writeBack (s.memberRec n)) v).portS
  | 0, _ => hv.symm
  | k + 1, hk => by
    have hport := flushBelow_portS hv k (by omega)
    have hahead := (flushBelow_flushed s k (by omega)).ahead k (Nat.le_refl _)
    rw [flushBelow_succ, flushRecord_portS, hahead, List.range_succ, List.filter_append, List.foldl_append]
    by_cases hdirty : (s.memberRec k).needsWriteBack = true
    · rw [if_pos hdirty, List.filter_cons, if_pos hdirty, List.filter_nil]
      exact toSite_portS _ _ _ _ hport
    · rw [if_neg hdirty, List.filter_cons, if_neg hdirty, List.filter_nil]
      exact hport

/-- MEMBER_FLUSH flushes the 32 records and replies OK. -/
theorem exec_memberFlush {seq : Byte} {args : List Byte} {s : State} (h : Taken (.memberFlush seq args) s) :
    exec (.memberFlush seq args) s = .next
      (((s.without (.memberFlush seq args)).flushBelow 32).reply seq 17 .ok []) :=
  taking_eq _ h rfl

/-- Settles O27: DAY_RESET maps the day's clearing over the records; MEMBER_FLUSH passes the records one by one, and each
record is read as it stood before the flush. -/
theorem dayResetAndFlushCleanTheRecords : Obligations.DayResetAndFlushCleanTheRecords := by
  refine ⟨fun seq args s _ htaken => ?day, fun seq args s hs htaken => ?flush⟩
  case day =>
    exact ⟨_, exec_dayReset htaken, without_setMembers_frame s _ _, rfl, rfl,
      fun n _ => memberRec_map_dayClear (s.without _) n⟩
  case flush =>
    have hrecords : 32 ≤ (s.without (.memberFlush seq args)).members.records.length := Nat.le_of_eq hs.records.symm
    have hflushed := flushBelow_flushed (s.without (.memberFlush seq args)) 32 hrecords
    have hport := flushBelow_portS (v := s) (s.without_portS _).symm 32 hrecords
    simp only [without_memberRec] at hport
    exact ⟨_, exec_memberFlush htaken, hflushed.recency, hflushed.fetches, hflushed.passed, hport⟩

end Sys2Proof.Machine
end

section
/-!
Clearing a latched cause (R171): the kind a number names (Table 8-3), when a kind's condition holds (R162), and what
CLEAR_CAUSE makes of each, with the obligation O45.
-/
namespace Sys2Proof.Machine

/-! ## A cause kind's number (Table 8-3) -/

/-- The number of a kind names that kind. -/
@[simp] theorem causeOfNumber_causeNumber (k : CauseKind) : causeOfNumber (causeNumber k) = some k := by
  cases k <;> rfl

/-- A number outside 1 to 22 names no kind. -/
theorem causeOfNumber_outside {n : Nat} (h : n = 0 ∨ 22 < n) : causeOfNumber n = none := by
  obtain rfl | hlarge := h
  · rfl
  · have hkinds : causeKinds.length ≤ n - 1 := Nat.le_sub_one_of_lt hlarge
    rw [causeOfNumber, if_neg (Nat.ne_of_gt (Nat.zero_lt_of_lt hlarge)), List.getElem?_eq_none hkinds]

/-! ## When a kind's condition holds (R162) -/

/-- The roles whose silence raises NODE_SILENT (R42). -/
theorem watchedRole_iff (r : Role) :
    watchedRole r = true ↔ r ∈ [.drive, .estop, .entryEye, .exitEye, .checkEye, .wheelSwitch] := by
  cases r <;> decide

/-- A STOP stands from a node that is an ESTOP. -/
theorem condition_estopNode (s : State) :
    s.condition .estopNode = true ↔ ∃ a ∈ s.halt.estopActive, (s.node a).role = .estop := by
  simp only [State.condition, List.any_eq_true, beq_iff_eq]

/-- A record of a watched role is SILENT. -/
theorem condition_nodeSilent (s : State) :
    s.condition .nodeSilent = true ↔ ∃ r ∈ s.nodes, r.silent = true ∧
      r.role ∈ [.drive, .estop, .entryEye, .exitEye, .checkEye, .wheelSwitch] := by
  simp only [State.condition, List.any_eq_true, Bool.and_eq_true, watchedRole_iff, and_comm]

/-- The drive's last report is FAULT. -/
theorem condition_driveFault (s : State) :
    s.condition .driveFault = true ↔ s.track.lastReport = some .fault := beq_iff_eq

/-- The kinds of Table 8-3 with a condition, each with what its condition reads; no other kind's condition ever holds. -/
theorem condition_iff (s : State) (k : CauseKind) : s.condition k = true ↔
    (k = .estopLine ∧ s.halt.estopLine = true ∨
      k = .estopNode ∧ (∃ a ∈ s.halt.estopActive, (s.node a).role = .estop) ∨
      k = .nodeSilent ∧ (∃ r ∈ s.nodes, r.silent = true ∧
        r.role ∈ [.drive, .estop, .entryEye, .exitEye, .checkEye, .wheelSwitch]) ∨
      k = .driveFault ∧ s.track.lastReport = some .fault) := by
  rw [← condition_estopNode, ← condition_nodeSilent, ← condition_driveFault]
  cases k <;> simp [State.condition]

/-! ## CLEAR_CAUSE (R171) -/

/-- A number that names no kind is refused. -/
theorem exec_clearCause_unknown {seq n : Byte} {rest : List Byte} {s : State}
    (h : Taken (.clearCause seq (n :: rest)) s) (hn : causeOfNumber n.toNat = none) :
    exec (.clearCause seq (n :: rest)) s =
      .next ((s.without (.clearCause seq (n :: rest))).reply seq 7 .badValue []) := by
  have hexec : exec (.clearCause seq (n :: rest)) s = execClearCause seq (n :: rest) s := rfl
  rw [hexec, execClearCause, taking_eq _ h rfl]
  simp only [hn]

/-- A named kind leaves the cause set if it stands there and its condition does not hold. -/
theorem exec_clearCause_kind {seq n : Byte} {rest : List Byte} {s : State} {k : CauseKind}
    (h : Taken (.clearCause seq (n :: rest)) s) (hn : causeOfNumber n.toNat = some k) :
    let u := s.without (.clearCause seq (n :: rest))
    exec (.clearCause seq (n :: rest)) s = .next (
      if k ∉ s.halt.causes then u.reply seq 7 .notFound []
      else if s.condition k then u.reply seq 7 .conditionPresent []
      else (u.setHalt { s.halt with causes := s.halt.causes.erase k }).reply seq 7 .ok []) := by
  have hexec : exec (.clearCause seq (n :: rest)) s = execClearCause seq (n :: rest) s := rfl
  rw [hexec, execClearCause, taking_eq _ h rfl]
  simp only [hn]
  rfl

/-- Settles O45: a number outside the table names no kind, and a kind's own number names it, so that R171's three answers
are those of the set and of the condition. -/
theorem clearCauseNeedsTheConditionGone : Obligations.ClearCauseNeedsTheConditionGone := by
  intro seq n rest s htaken
  refine ⟨fun hout => ?unknown, fun k hk => ?kind⟩
  case unknown =>
    have hrange : n.toNat = 0 ∨ 22 < n.toNat := hout.imp_left (congrArg BitVec.toNat)
    exact exec_clearCause_unknown htaken (causeOfNumber_outside hrange)
  case kind =>
    have hnamed : causeOfNumber n.toNat = some k := by rw [hk, causeOfNumber_causeNumber]
    have hexec := exec_clearCause_kind htaken hnamed
    refine ⟨fun habsent => ?_, fun hlatched hpresent => ?_, fun hlatched hgone => ?_⟩
    · rw [hexec, if_pos habsent]
    · rw [hexec, if_neg (not_not_intro hlatched), if_pos ((condition_iff s k).mpr hpresent)]
    · rw [hexec, if_neg (not_not_intro hlatched), if_neg (mt (condition_iff s k).mp hgone)]

end Sys2Proof.Machine
end

section
/-!
Notices taken and masked (R186, R188, R189): what the two requests make of each class's record and of ATTN, which class
a TAKE_NOTICE chooses, and the obligation O53.
-/
namespace Sys2Proof.Machine

/-! ## ATTN over the eight classes (R186) -/

/-- ATTN, judged again, is asserted exactly while some class is pending and enabled. -/
theorem judgeAttn_attn_iff {m : Mgmt} (h : m.notices.length = 8) :
    (Mgmt.judgeAttn m).attn = true ↔ ∃ k, k < 8 ∧
      (m.notices.getD k .blank).pending = true ∧ (m.notices.getD k .blank).enabled = true := by
  simp only [Mgmt.judgeAttn, List.any_eq_true, Bool.and_eq_true]
  constructor
  · rintro ⟨r, hr, hpending, henabled⟩
    obtain ⟨k, hk, rfl⟩ := List.getElem_of_mem hr
    have hget : m.notices.getD k .blank = m.notices[k] := by
      rw [List.getD_eq_getElem?_getD, List.getElem?_eq_getElem hk, Option.getD_some]
    exact ⟨k, h ▸ hk, by rwa [hget], by rwa [hget]⟩
  · rintro ⟨k, hk, hpending, henabled⟩
    have hlt : k < m.notices.length := h.symm ▸ hk
    rw [List.getD_eq_getElem?_getD, List.getElem?_eq_getElem hlt, Option.getD_some] at hpending henabled
    exact ⟨_, List.getElem_mem hlt, hpending, henabled⟩

/-! ## The records of a taken notice and of a new mask (R188, R189) -/

/-- The taken class is no longer pending, its count 0, its detail kept. -/
theorem takeNotice_getD_self {m : Mgmt} {i : Nat} (h : i < m.notices.length) :
    (Mgmt.takeNotice m i).notices.getD i .blank =
      { m.notices.getD i .blank with pending := false, count := 0 } := by
  simp [Mgmt.takeNotice, Mgmt.judgeAttn, h]

/-- Every other class stands. -/
theorem takeNotice_getD_ne (m : Mgmt) {i k : Nat} (h : k ≠ i) :
    (Mgmt.takeNotice m i).notices.getD k .blank = m.notices.getD k .blank := by
  simp [Mgmt.takeNotice, Mgmt.judgeAttn, h.symm]

/-- ATTN after a class is taken: some other class is pending and enabled. -/
theorem takeNotice_attn_iff {m : Mgmt} {i : Nat} (hlen : m.notices.length = 8) (hi : i < 8) :
    (Mgmt.takeNotice m i).attn = true ↔ ∃ k, k < 8 ∧ k ≠ i ∧
      (m.notices.getD k .blank).pending = true ∧ (m.notices.getD k .blank).enabled = true := by
  have hself := takeNotice_getD_self (m := m) (hlen.symm ▸ hi)
  have hattn : (Mgmt.takeNotice m i).attn = true ↔ ∃ k, k < 8 ∧
      ((Mgmt.takeNotice m i).notices.getD k .blank).pending = true ∧
      ((Mgmt.takeNotice m i).notices.getD k .blank).enabled = true :=
    judgeAttn_attn_iff (List.length_modify .. |>.trans hlen)
  rw [hattn]
  refine exists_congr fun k => and_congr_right fun _ => ?_
  by_cases hk : k = i
  · subst hk
    rw [hself]
    simp
  · rw [takeNotice_getD_ne m hk, and_iff_right hk]

/-- A new mask replaces a class's enable and leaves the rest of its record. -/
theorem setMask_getD {m : Mgmt} (mask : Byte) {i : Nat} (h : i < m.notices.length) :
    (Mgmt.setMask m mask).notices.getD i .blank =
      { m.notices.getD i .blank with enabled := mask.getLsbD i } := by
  simp [Mgmt.setMask, Mgmt.judgeAttn, h]

/-- ATTN after a new mask: some pending class is enabled in it. -/
theorem setMask_attn_iff {m : Mgmt} (mask : Byte) (hlen : m.notices.length = 8) :
    (Mgmt.setMask m mask).attn = true ↔ ∃ i, i < 8 ∧
      (m.notices.getD i .blank).pending = true ∧ mask.getLsbD i = true := by
  have hattn : (Mgmt.setMask m mask).attn = true ↔ ∃ i, i < 8 ∧
      ((Mgmt.setMask m mask).notices.getD i .blank).pending = true ∧
      ((Mgmt.setMask m mask).notices.getD i .blank).enabled = true :=
    judgeAttn_attn_iff (List.length_mapIdx.trans hlen)
  rw [hattn]
  refine exists_congr fun i => and_congr_right fun hi => ?_
  rw [setMask_getD mask (hlen.symm ▸ hi)]

/-! ## The class a TAKE_NOTICE takes (R188) -/

/-- A named class is taken while it is pending. -/
theorem chosenNotice_named (s : State) (i : Nat) :
    s.chosenNotice (i + 1) = if (s.mgmt.notices.getD i .blank).pending then some i else none := rfl

/-- With no class named, the first class that is pending and enabled is taken. -/
theorem chosenNotice_first {s : State} {i : Nat} (hi : i < 8)
    (hpending : (s.mgmt.notices.getD i .blank).pending = true)
    (henabled : (s.mgmt.notices.getD i .blank).enabled = true)
    (hfirst : ∀ k, k < i → (s.mgmt.notices.getD k .blank).pending = false ∨
      (s.mgmt.notices.getD k .blank).enabled = false) :
    s.chosenNotice 0 = some i := by
  rw [State.chosenNotice, if_pos rfl, List.find?_range_eq_some]
  refine ⟨by rw [hpending, henabled]; rfl, List.mem_range.mpr hi, fun k hk => ?_⟩
  rw [Bool.not_eq_true', Bool.and_eq_false_iff]
  exact hfirst k hk

/-- With no class named and none that is pending and enabled, none is taken. -/
theorem chosenNotice_none {s : State}
    (h : ∀ k, k < 8 → (s.mgmt.notices.getD k .blank).pending = false ∨
      (s.mgmt.notices.getD k .blank).enabled = false) :
    s.chosenNotice 0 = none := by
  rw [State.chosenNotice, if_pos rfl, List.find?_range_eq_none]
  intro k hk
  rw [Bool.not_eq_true', Bool.and_eq_false_iff]
  exact h k hk

/-! ## The two requests -/

theorem without_chosenNotice (s : State) (c : Instr) (n : Nat) :
    (s.without c).chosenNotice n = s.chosenNotice n := rfl

/-- Taking a hand-over off and writing Management touches nothing else. -/
theorem without_setMgmt_frame (s : State) (c : Instr) (m : Mgmt) :
    SameExcept [.mgmt, .handed] s ((s.without c).setMgmt m) :=
  ((setHanded_frame s _).within (by decide)).trans ((setMgmt_frame _ m).within (by decide))

/-- TAKE_NOTICE by the class number it names: refused outside the eight, else answered with the class it takes. -/
theorem exec_takeNotice {seq b : Byte} {rest : List Byte} {s : State}
    (h : Taken (.takeNotice seq (b :: rest)) s) :
    let u := s.without (.takeNotice seq (b :: rest))
    exec (.takeNotice seq (b :: rest)) s = .next (
      if 8 < b.toNat then u.reply seq 19 .badValue []
      else match s.chosenNotice b.toNat with
        | none => u.reply seq 19 .ok [0]
        | some i =>
          (u.setMgmt (Mgmt.takeNotice s.mgmt i)).reply seq 19 .ok (takenData i (s.mgmt.notices.getD i .blank))) :=
  taking_eq _ h rfl

/-- A TAKE_NOTICE that finds a class takes it. -/
theorem exec_takeNotice_some {seq b : Byte} {rest : List Byte} {s : State} {i : Nat}
    (h : Taken (.takeNotice seq (b :: rest)) s) (hb : b.toNat ≤ 8) (hchosen : s.chosenNotice b.toNat = some i) :
    exec (.takeNotice seq (b :: rest)) s = .next
      (((s.without (.takeNotice seq (b :: rest))).setMgmt (Mgmt.takeNotice s.mgmt i)).reply seq 19 .ok
        (takenData i (s.mgmt.notices.getD i .blank))) := by
  rw [exec_takeNotice h, if_neg (Nat.not_lt.mpr hb), hchosen]

/-- A TAKE_NOTICE that finds none answers the class as none. -/
theorem exec_takeNotice_none {seq b : Byte} {rest : List Byte} {s : State}
    (h : Taken (.takeNotice seq (b :: rest)) s) (hb : b.toNat ≤ 8) (hchosen : s.chosenNotice b.toNat = none) :
    exec (.takeNotice seq (b :: rest)) s = .next
      ((s.without (.takeNotice seq (b :: rest))).reply seq 19 .ok [0]) := by
  rw [exec_takeNotice h, if_neg (Nat.not_lt.mpr hb), hchosen]

/-- SET_NOTICE_MASK by its unused byte: refused unless it is clear, else the mask is replaced. -/
theorem exec_setNoticeMask {seq hi lo : Byte} {rest : List Byte} {s : State}
    (h : Taken (.setNoticeMask seq (hi :: lo :: rest)) s) :
    let u := s.without (.setNoticeMask seq (hi :: lo :: rest))
    exec (.setNoticeMask seq (hi :: lo :: rest)) s = .next (
      if hi ≠ 0 then u.reply seq 20 .badValue []
      else (u.setMgmt (Mgmt.setMask s.mgmt lo)).reply seq 20 .ok [hi, lo]) :=
  taking_eq _ h rfl

/-- Settles O53: a TAKE_NOTICE is the choice of a class, by name or by priority, followed by one and the same taking;
SET_NOTICE_MASK is one write of every enable. -/
theorem noticesAreTakenAndMasked : Obligations.NoticesAreTakenAndMasked := by
  refine ⟨fun seq b rest s hs htaken => ?take,
    fun seq hi lo rest s hs htaken => ⟨fun hused => ?refused, fun hclear => ?masked⟩⟩
  case take =>
    intro c u rec_ taken
    have take (i : Nat) (hi : i < 8) (hb : b.toNat ≤ 8) (hchosen : s.chosenNotice b.toNat = some i) : taken i :=
      ⟨_, exec_takeNotice_some htaken hb hchosen, without_setMgmt_frame s c _, rfl, rfl,
        takeNotice_getD_self (hs.notices.symm ▸ hi), fun _ hk => takeNotice_getD_ne s.mgmt hk,
        takeNotice_attn_iff hs.notices hi⟩
    refine ⟨fun hlarge => ?outside, fun i hbi hi => ?named, fun hb => ?unnamed⟩
    case outside => rw [exec_takeNotice htaken, if_pos hlarge]
    case named =>
      have hb : b.toNat ≤ 8 := hbi ▸ hi
      have hchosen := chosenNotice_named s i
      rw [← hbi] at hchosen
      exact ⟨fun hpending => take i hi hb (hchosen.trans (if_pos hpending)),
        fun hclear => exec_takeNotice_none htaken hb (hchosen.trans (if_neg (Bool.eq_false_iff.mp hclear)))⟩
    case unnamed =>
      subst hb
      exact ⟨fun i hi hpending henabled hfirst =>
          take i hi (Nat.zero_le 8) (chosenNotice_first hi hpending henabled hfirst),
        fun hnone => exec_takeNotice_none htaken (Nat.zero_le 8) (chosenNotice_none hnone)⟩
  case refused => rw [exec_setNoticeMask htaken, if_pos hused]
  case masked =>
    have hexec := (exec_setNoticeMask htaken).trans (congrArg _ (if_neg (not_not_intro hclear)))
    exact ⟨_, hexec, without_setMgmt_frame s _ _, rfl, rfl,
      fun i hi => setMask_getD lo (hs.notices.symm ▸ hi), setMask_attn_iff lo hs.notices⟩

end Sys2Proof.Machine
end

section
/-!
Facts of lists that the core library does not name. The model's files import nothing, and these proofs stand on them alone.
-/
namespace Sys2Proof.Machine

/-- A list below a bound has a place for one more. -/
theorem length_concat_le {α : Type} {l : List α} {a : α} {n : Nat} (h : l.length < n) : (l ++ [a]).length ≤ n := by
  rw [List.length_append]
  exact h

/-! ## Reading with a default -/

theorem getD_of_lt {α : Type} (l : List α) (d : α) {n : Nat} (h : n < l.length) : l.getD n d = l[n] := by
  rw [List.getD_eq_getElem?_getD, List.getElem?_eq_getElem h]
  rfl

theorem getD_of_le {α : Type} (l : List α) (d : α) {n : Nat} (h : l.length ≤ n) : l.getD n d = d := by
  rw [List.getD_eq_getElem?_getD, List.getElem?_eq_none h]
  rfl

theorem getD_map {α β : Type} (l : List α) (d : α) {n : Nat} (f : α → β) : (l.map f).getD n (f d) = f (l.getD n d) := by
  rw [List.getD_eq_getElem?_getD, List.getD_eq_getElem?_getD, List.getElem?_map]
  cases l[n]? <;> rfl

theorem getD_replicate {α : Type} (a : α) {d : α} {i n : Nat} (h : i < n) : (List.replicate n a).getD i d = a := by
  rw [List.getD_eq_getElem?_getD, List.getElem?_replicate, if_pos h]
  rfl

theorem getD_append_left {α : Type} {l l' : List α} {d : α} {n : Nat} (h : n < l.length) : (l ++ l').getD n d = l.getD n d := by
  rw [List.getD_eq_getElem?_getD, List.getD_eq_getElem?_getD, List.getElem?_append_left h]

/-! ## One element changed -/

theorem modify_of_some {α : Type} {l : List α} {j : Nat} {a : α} {f : α → α} (h : l[j]? = some a) : l.modify j f = l.set j (f a) := by
  induction l generalizing j with
  | nil => cases h
  | cons b l ih =>
    cases j with
    | zero =>
      obtain rfl := Option.some.inj h
      rfl
    | succ j => exact congrArg (b :: ·) (ih h)

/-! ## Lists whose keys are distinct -/

theorem nodup_map_of_inj {α β : Type} {f : α → β} {l : List α} (h : l.Nodup) (inj : ∀ a ∈ l, ∀ b ∈ l, f a = f b → a = b) :
    (l.map f).Nodup :=
  List.pairwise_map.mpr (List.Pairwise.imp_of_mem (fun ha hb hne same => hne (inj _ ha _ hb same)) h)

theorem inj_of_nodup_map {α β : Type} {f : α → β} {l : List α} (h : (l.map f).Nodup) {a b : α} (ha : a ∈ l) (hb : b ∈ l)
    (same : f a = f b) : a = b := by
  induction l with
  | nil => cases ha
  | cons c l ih =>
    rw [List.map_cons] at h
    obtain ⟨fresh, rest⟩ := List.nodup_cons.mp h
    obtain rfl | later := List.mem_cons.mp ha
    · obtain rfl | after := List.mem_cons.mp hb
      · rfl
      · exact absurd (List.mem_map.mpr ⟨b, after, same.symm⟩) fresh
    · obtain rfl | after := List.mem_cons.mp hb
      · exact absurd (List.mem_map.mpr ⟨a, later, same⟩) fresh
      · exact ih rest later after

end Sys2Proof.Machine
end

section
/-!
Commands as one step takes them (R1, R2, R38): what it is for a command to answer with a property, the three moments at
which a command runs, the parts each command touches, and the obligations O1, O2 and O3.
-/
namespace Sys2Proof.Machine

-- Proofs in order: a thread that waits for another proof counts against the check's memory limit.
set_option Elab.async false

/-! ## A command answers with a property of the next state -/

/-- An outcome is a next state with a property. -/
def Answers (P : State → Prop) (o : Host.Outcome State Fault Refusal) : Prop := ∃ t, o = .next t ∧ P t

theorem Answers.next {P : State → Prop} {t : State} (h : P t) : Answers P (.next t) := ⟨t, rfl, h⟩

theorem Answers.elim {P : State → Prop} {o : Host.Outcome State Fault Refusal} {t : State} (h : Answers P o)
    (ho : o = .next t) : P t := by
  obtain ⟨u, hu, hp⟩ := h
  rw [ho] at hu
  cases hu
  exact hp

theorem running_answers {P : State → Prop} {s : State} {g : State → State} (idle : P s) (act : P (g s)) :
    Answers P (running s g) := by
  unfold running
  split
  · exact .next idle
  · exact .next act

theorem whenDue_answers {P : State → Prop} {d : Bool} {s : State} {g : State → State} (idle : P s)
    (act : d = true → P (g s)) : Answers P (whenDue d s g) := by
  refine running_answers idle ?_
  split
  next h => exact act h
  next => exact idle

theorem taking_answers {P : State → Prop} {c : Instr} {s : State} {g : State → State} (idle : P s)
    (act : P (g (s.setHanded (s.handed.erase c)))) : Answers P (taking c s g) := by
  refine running_answers idle ?_
  unfold State.takeHanded
  cases s.isNext c
  · exact idle
  · exact act

/-! ## What each command touches (Table 0-1) -/

theorem running_frame {l : List Part} {s : State} {g : State → State} (h : SameExcept l s (g s)) :
    Answers (SameExcept l s) (running s g) := running_answers .refl h

theorem whenDue_frame {l : List Part} {d : Bool} {s : State} {g : State → State} (h : SameExcept l s (g s)) :
    Answers (SameExcept l s) (whenDue d s g) := whenDue_answers .refl fun _ => h

theorem taking_frame {l : List Part} {c : Instr} {s : State} {g : State → State} (hl : Part.handed ∈ l)
    (h : ∀ t, SameExcept l t (g t)) : Answers (SameExcept l s) (taking c s g) :=
  taking_answers .refl (((setHanded_frame ..).within (by simpa using hl)).trans (h _))

/-- A reply, as part of what a command touches. -/
theorem reply_within {l : List Part} (h : ∀ p ∈ [Part.portS, .mgmt], p ∈ l) (s : State) (seq : Byte) (code : Nat)
    (st : Status) (d : List Byte) : SameExcept l s (s.reply seq code st d) := (reply_frame ..).within h

/-! ### Resets, the tick and the link -/

theorem takeEstop_frame (s : State) (estop : Bool) : SameExcept haltParts s (s.takeEstop estop) :=
  .ite (lineAsserted_frame s) .refl

theorem execPowerOnReset_frame (estop : Bool) (s : State) :
    Answers (SameExcept (touches (.powerOnReset estop)) s) (execPowerOnReset estop s) := by
  refine .next ⟨fun p hp => ?_⟩
  have hpending : p = .pending := by cases p <;> simp [touches] at hp ⊢
  subst hpending
  exact (takeEstop_frame _ estop).same .pending (by decide)

theorem execLineReset_frame (s : State) : Answers (SameExcept (touches .lineReset) s) (execLineReset s) := by
  refine .next ⟨fun p hp => ?_⟩
  have hpending : p = .pending := by cases p <;> simp [touches] at hp ⊢
  subst hpending
  rfl

theorem endReset_frame (s : State) : SameExcept [.mgmt, .reset, .portF, .raised] s s.endReset := by
  have start (m : Mgmt) (b : Bool) : SameExcept [.mgmt, .reset] s { s with mgmt := m, inReset := b } := by
    constructor; intro p hp; cases p <;> first | rfl | simp at hp
  exact ((start _ _).within (by decide)).trans ((offerUrgent_frame _ .f _).within (by decide))

theorem execLineResetEnd_frame (estop : Bool) (s : State) :
    Answers (SameExcept (.reset :: haltParts) s) (execLineResetEnd estop s) :=
  .next (.ite (((endReset_frame s).within (by decide)).trans ((takeEstop_frame _ _).within (by decide))) .refl)

theorem tick_frame (s : State) : SameExcept [.nodes, .sales, .members, .merge, .track, .halt] s s.tick := by
  constructor; intro p hp; cases p <;> first | rfl | simp at hp

theorem execReceiveByte_frame (p : PortId) (b : Byte) (s : State) :
    Answers (SameExcept [portPart p, .mgmt, .raised] s) (execReceiveByte p b s) :=
  running_frame (((countHalt_frame s p b).within (by simp)).trans (receive_frame ..))

theorem execTransmitEnd_frame (p : PortId) (s : State) :
    Answers (SameExcept [portPart p] s) (execTransmitEnd p s) := running_frame (setPort_frame ..)

theorem execNodeFrameTake_frame (p : PortId) (s : State) :
    Answers (SameExcept (.portS :: .nodes :: .handed :: .raised :: reviewParts) s) (execNodeFrameTake p s) := by
  refine running_frame ?_
  split
  · exact .refl
  · exact .ite .refl ((((setPort_frame ..).within (by cases p <;> decide)).trans
      ((judgeResume_frame ..).within (by cases p <;> decide))).trans (judgeFrame_frame ..))

theorem execSiteFieldFrame_frame (f : Frame) (s : State) :
    Answers (SameExcept [.handed, .portF, .portS, .mgmt] s) (execSiteFieldFrame f s) :=
  taking_frame (by decide) fun t =>
    .ite ((offerNormal_frame t .f _).within (by decide)) ((countBlocked_frame t).within (by decide))

theorem execPortReset_frame (seq : Byte) (args : List Byte) (s : State) :
    Answers (SameExcept (.portF :: .raised :: replyParts) s) (execPortReset seq args s) := by
  refine taking_frame (by decide) fun t => ?_
  have answer := reply_within (l := .portF :: .raised :: replyParts) (by decide)
  split
  · exact answer ..
  · split
    · exact answer ..
    · rename_i p _
      exact .ite (((restartPort_frame t p).within (by cases p <;> decide)).trans (answer ..)) (answer ..)

/-! ### Reports of the field -/

theorem execStep_frame (src : Nat) (delta : Byte) (early : Option Nat) (s : State) :
    Answers (SameExcept (.handed :: haltParts) s) (execStep src delta early s) :=
  taking_frame (by decide) fun t => .ite .refl (.ite
    (((raiseCause_frame ..).within (by decide)).trans ((notifyTrack_frame ..).within (by decide)))
    ((applyStep_frame t _ early).within (by decide)))

theorem execEntryEyeBlocked_frame (src : Nat) (s : State) :
    Answers (SameExcept (.handed :: .raised :: reviewParts) s) (execEntryEyeBlocked src s) :=
  taking_frame (by decide) fun t => .ite ((notifyTrack_frame ..).within (by decide)) (.ite
    (((setMerge_frame ..).within (by decide)).trans ((notifyTrack_frame ..).within (by decide)))
    (((setMerge_frame ..).within (by decide)).trans ((frontEdge_frame _ src).within (by decide))))

theorem execEntryEyeClear_frame (src : Nat) (s : State) :
    Answers (SameExcept (.handed :: .raised :: reviewParts) s) (execEntryEyeClear src s) :=
  taking_frame (by decide) fun t => (((setMerge_frame t _).within (by decide)).trans
    ((rearEdge_frame _).within (by decide))).trans ((review_frame _).within (by decide))

theorem execMergeEyeBlocked_frame (lane : Nat) (s : State) :
    Answers (SameExcept (.handed :: reviewParts) s) (execMergeEyeBlocked lane s) := by
  refine taking_frame (by decide) fun t => ?_
  have eye (v : LaneMerge) : SameExcept (.handed :: reviewParts) t (t.setMergeLane lane v) :=
    (setMerge_frame ..).within (by decide)
  dsimp only
  split
  · exact (eye _).trans ((markUnpaid_frame ..).within (by decide))
  · exact .ite ((eye _).trans (((stage_frame ..).within (by decide)).trans ((review_frame _).within (by decide)))) (eye _)

theorem execMergeEyeClear_frame (lane : Nat) (s : State) :
    Answers (SameExcept [.handed, .sales, .merge, .track, .portF, .mgmt] s) (execMergeEyeClear lane s) := by
  refine taking_frame (by decide) fun t => ?_
  have eye (v : LaneMerge) : SameExcept [.handed, .sales, .merge, .track, .portF, .mgmt] t (t.setMergeLane lane v) :=
    (setMerge_frame ..).within (by decide)
  dsimp only
  split
  · exact eye _
  · exact .ite ((eye _).trans (((setOrderState_frame ..).within (by decide)).trans
      ((judgeConveyor_frame _).within (by decide)))) (eye _)

theorem execCheckEyeEdge_frame (src : Nat) (blocked : Bool) (s : State) :
    Answers (SameExcept (.handed :: moveParts) s) (execCheckEyeEdge src blocked s) := by
  refine taking_frame (by decide) fun t => .ite .refl ?_
  split
  · exact .refl
  · exact (sighting_frame ..).within (by decide)

theorem execExitEyeBlocked_frame (src : Nat) (s : State) :
    Answers (SameExcept (.handed :: moveParts) s) (execExitEyeBlocked src s) :=
  taking_frame (by decide) fun t => .ite ((setTrack_frame ..).within (by decide))
    (((setTrack_frame ..).within (by decide)).trans ((judgeExit_frame _ src).within (by decide)))

theorem execExitEyeClear_frame (src : Nat) (s : State) :
    Answers (SameExcept (.handed :: .portS :: .stations :: .raised :: reviewParts) s) (execExitEyeClear src s) := by
  refine taking_frame (by decide) fun t => ?_
  have eye (v : Track) : SameExcept (.handed :: .portS :: .stations :: .raised :: reviewParts) t (t.setTrack v) :=
    (setTrack_frame ..).within (by decide)
  dsimp only
  split
  · exact (eye _).trans ((leave_frame ..).within (by decide))
  · exact .ite (eye _) ((eye _).trans ((notifyTrack_frame ..).within (by decide)))

theorem execWheelSwitchEdge_frame (src : Nat) (blocked : Bool) (s : State) :
    Answers (SameExcept [.handed, .track, .portF, .mgmt] s) (execWheelSwitchEdge src blocked s) := by
  refine taking_frame (by decide) fun t => .ite .refl ?_
  have ignored (tag : Option Nat) : SameExcept [.handed, .track, .portF, .mgmt] t (t.ignoreWheel tag) :=
    (notifyTrack_frame ..).within (by decide)
  split
  · exact ignored _
  · exact .ite (((setCars_frame ..).within (by decide)).trans ((driveCmd_frame ..).within (by decide))) (ignored _)

theorem execGateState_frame (lane : Nat) (isOpen : Bool) (s : State) :
    Answers (SameExcept [.handed, .merge, .portF, .mgmt] s) (execGateState lane isOpen s) := by
  refine taking_frame (by decide) fun t => ?_
  have gate (u : State) (g : Gate) : SameExcept [.handed, .merge, .portF, .mgmt] u (u.setGate lane g) :=
    (setGate_frame ..).within (by decide)
  split
  · exact (uncommandedOpen_frame ..).within (by decide)
  · exact gate ..
  · exact .refl
  · exact .refl
  · exact .refl
  · exact .refl
  · exact ((notifySales_frame t 2 lane none none).within (by decide)).trans (gate ..)
  · exact gate ..

theorem execQuote_frame (lane plan : Nat) (addons : ServiceSet) (member : Nat) (s : State) :
    Answers (SameExcept [.handed, .sales, .members, .portF, .portS, .mgmt] s) (execQuote lane plan addons member s) := by
  refine taking_frame (by decide) fun t => ?_
  have answer (u : State) (r : Reply) : SameExcept [.handed, .sales, .members, .portF, .portS, .mgmt] u
      (u.quoteReply lane r none 0) := (quoteReply_frame ..).within (by decide)
  have void : SameExcept [.handed, .sales, .members, .portF, .portS, .mgmt] t (t.voidQuote lane none) :=
    (voidQuote_frame ..).within (by decide)
  refine .ite (answer ..) (.ite (answer ..) ?_)
  dsimp only
  split
  · exact void.trans (answer ..)
  · exact void.trans (.ite ((quoteCash_frame ..).within (by decide)) ((quoteMember_frame ..).within (by decide)))

theorem execPaid_frame (lane token tender : Nat) (s : State) :
    Answers (SameExcept (.handed :: .members :: reviewParts) s) (execPaid lane token tender s) := by
  refine taking_frame (by decide) fun t => ?_
  have refuse (u : State) (r : Reply) : SameExcept (.handed :: .members :: reviewParts) u (u.refusePayment lane r) :=
    (refusePayment_frame ..).within (by decide)
  have void : SameExcept (.handed :: .members :: reviewParts) t (t.voidQuote lane none) :=
    (voidQuote_frame ..).within (by decide)
  exact .ite (refuse ..) (.ite (refuse ..) (.ite (void.trans (refuse ..)) (.ite (void.trans (refuse ..))
    ((pay_frame ..).within (by decide)))))

theorem execCancel_frame (lane token : Nat) (s : State) :
    Answers (SameExcept [.handed, .sales, .members, .portF, .mgmt] s) (execCancel lane token s) :=
  taking_frame (by decide) fun _ => .ite ((voidQuote_frame ..).within (by decide)) .refl

theorem execActState_frame (station : Nat) (report : ActReport) (s : State) :
    Answers (SameExcept [.handed, .stations, .halt, .portF, .portS, .raised, .mgmt] s)
      (execActState station report s) := by
  refine taking_frame (by decide) fun t => .ite ?_ .refl
  cases report
  · exact (engagedReport_frame ..).within (by decide)
  · exact (retractedReport_frame ..).within (by decide)
  · exact (retractedReport_frame ..).within (by decide)

theorem execActStateFault_frame (station : Nat) (s : State) :
    Answers (SameExcept (.handed :: outParts) s) (execActStateFault station s) :=
  taking_frame (by decide) fun _ => .ite ((outOfService_frame ..).within (by decide)) .refl

theorem execCurrent_frame (station value : Nat) (s : State) :
    Answers (SameExcept (.handed :: outParts) s) (execCurrent station value s) := by
  refine taking_frame (by decide) fun t => .ite ?_ .refl
  have taken (v : Station) : SameExcept (.handed :: outParts) t (t.setStation station v) :=
    (setStation_frame ..).within (by decide)
  exact .ite ((taken _).trans ((backOff_frame ..).within (by decide)))
    (.ite ((taken _).trans ((outOfService_frame ..).within (by decide))) (taken _))

theorem execDriveState_frame (src : Nat) (report : DriveReport) (level : Nat) (roller : Bool) (s : State) :
    Answers (SameExcept (.handed :: .raised :: reviewParts) s) (execDriveState src report level roller s) := by
  refine taking_frame (by decide) fun t => ?_
  have recorded : SameExcept (.handed :: .raised :: reviewParts) t
      ((t.judgeRoller roller).recordReport report level roller) :=
    ((judgeRoller_frame ..).within (by decide)).trans ((recordReport_frame ..).within (by decide))
  cases report
  · exact recorded.trans ((runningReport_frame _).within (by decide))
  · exact recorded.trans ((stoppedReport_frame _).within (by decide))
  · exact recorded.trans ((raiseCause_frame ..).within (by decide))

theorem execHaltDriveConfirm_frame (src : Nat) (report : DriveReport) (s : State) :
    Answers (SameExcept [.handed, .halt, .track, .portF, .portS, .mgmt] s) (execHaltDriveConfirm src report s) := by
  refine taking_frame (by decide) fun t => ?_
  cases report
  · exact .refl
  · exact (confirmDrive_frame t).within (by decide)
  · exact .refl

theorem execStopActive_frame (src : Nat) (s : State) :
    Answers (SameExcept (.handed :: haltParts) s) (execStopActive src s) :=
  taking_frame (by decide) fun _ => ((setHalt_frame ..).within (by decide)).trans ((takeCause_frame ..).within (by decide))

theorem execStopReleased_frame (src : Nat) (s : State) :
    Answers (SameExcept [.handed, .halt] s) (execStopReleased src s) :=
  taking_frame (by decide) fun _ => (setHalt_frame ..).within (by decide)

theorem execMemberData_frame (id known tier limit uses : Nat) (s : State) :
    Answers (SameExcept [.handed, .members, .sales, .portF, .portS, .mgmt] s)
      (execMemberData id known tier limit uses s) := by
  refine taking_frame (by decide) fun t => .ite ((notifyMember_frame ..).within (by decide)) ?_
  split
  · exact .ite ((fetchFill_frame ..).within (by decide)) ((fetchRefuse_frame ..).within (by decide))
  · exact (unsolicited_frame ..).within (by decide)

/-! ### Requests of the site computer -/

theorem execReadEntry_frame (seq : Byte) (args : List Byte) (s : State) :
    Answers (SameExcept replyParts s) (execReadEntry seq args s) := by
  refine taking_frame (by decide) fun t => ?_
  have answer := reply_within (l := replyParts) (by decide)
  split
  · split
    · exact answer ..
    · exact .ite (answer ..) (answer ..)
  · exact answer ..

theorem execWriteEntry_frame (seq : Byte) (args : List Byte) (s : State) :
    Answers (SameExcept replyParts s) (execWriteEntry seq args s) := by
  refine taking_frame (by decide) fun t => ?_
  split
  · exact reply_within (by decide) ..
  · exact reply_within (by decide) ..

/-- A judged write touches what the written entry is of, and what a reply touches. -/
theorem taking_write_frame {l : List Part} {c : Instr} {s : State} {seq : Byte} {args : List Byte} {len size table : Nat}
    {v : State → Nat → (Nat → Byte) → Verdict} {w : State → Nat → (Nat → Byte) → State}
    (hw : ∀ t i b, SameExcept (l ++ replyParts) t (w t i b)) :
    Answers (SameExcept (l ++ replyParts) s) (taking c s fun s => s.writing seq args len size fun i b =>
      s.finishWrite seq table i (v s i b) (w s i b)) := by
  have answered : ∀ p ∈ [Part.portS, .mgmt], p ∈ l ++ replyParts :=
    fun p hp => List.mem_append_right _ ((by decide : ∀ p ∈ [Part.portS, .mgmt], p ∈ replyParts) p hp)
  exact taking_frame (List.mem_append_right _ (by decide)) fun t =>
    writing_frame _ _ _ _ _ _ (fun i b => finishWrite_frame _ _ _ _ _ _ (hw t i b) answered) answered

theorem execWriteNodeEntry_frame (seq : Byte) (args : List Byte) (s : State) :
    Answers (SameExcept (.nodes :: replyParts) s) (execWriteNodeEntry seq args s) :=
  taking_write_frame (l := [.nodes]) fun _ _ _ => (setNode_frame ..).within (by decide)

theorem execWriteStationEntry_frame (seq : Byte) (args : List Byte) (s : State) :
    Answers (SameExcept (.stations :: .sales :: replyParts) s) (execWriteStationEntry seq args s) :=
  taking_write_frame (l := [.stations, .sales]) fun _ _ _ => (writeStation_frame ..).within (by decide)

theorem execWriteParamEntry_frame (seq : Byte) (args : List Byte) (s : State) :
    Answers (SameExcept replyParts s) (execWriteParamEntry seq args s) :=
  taking_write_frame (l := []) fun _ _ _ => (setMgmt_frame ..).within (by decide)

theorem execWritePlanEntry_frame (seq : Byte) (args : List Byte) (s : State) :
    Answers (SameExcept (.sales :: replyParts) s) (execWritePlanEntry seq args s) :=
  taking_write_frame (l := [.sales]) fun _ _ _ => (setSales_frame ..).within (by decide)

theorem execWriteServiceEntry_frame (seq : Byte) (args : List Byte) (s : State) :
    Answers (SameExcept (.sales :: replyParts) s) (execWriteServiceEntry seq args s) :=
  taking_write_frame (l := [.sales]) fun _ _ _ => (setSales_frame ..).within (by decide)

theorem execArm_frame (seq : Byte) (args : List Byte) (s : State) :
    Answers (SameExcept (.halt :: .portS :: .handed :: reviewParts) s) (execArm seq args s) := by
  refine taking_frame (by decide) fun t => ?_
  have answer := reply_within (l := .halt :: .portS :: .handed :: reviewParts) (by decide)
  refine .ite (answer ..) (.ite (answer ..) ?_)
  split
  · exact answer ..
  · exact ((arm_frame t).within (by decide)).trans (answer ..)

theorem execDisarm_frame (seq : Byte) (args : List Byte) (s : State) :
    Answers (SameExcept (.halt :: .portF :: .sales :: .members :: .merge :: .start :: replyParts) s)
      (execDisarm seq args s) := by
  refine taking_frame (by decide) fun t => ?_
  have answer := reply_within (l := .halt :: .portF :: .sales :: .members :: .merge :: .start :: replyParts) (by decide)
  exact .ite (answer ..) (.ite (answer ..) (((disarm_frame t).within (by decide)).trans (answer ..)))

theorem execRelease_frame (seq : Byte) (args : List Byte) (s : State) :
    Answers (SameExcept (.halt :: .portF :: .raised :: .merge :: replyParts) s) (execRelease seq args s) := by
  refine taking_frame (by decide) fun t => ?_
  have answer := reply_within (l := .halt :: .portF :: .raised :: .merge :: replyParts) (by decide)
  exact .ite (answer ..) (.ite (answer ..) (((recover_frame t).within (by decide)).trans (answer ..)))

theorem execForceHalt_frame (seq : Byte) (args : List Byte) (s : State) :
    Answers (SameExcept (.handed :: haltParts) s) (execForceHalt seq args s) :=
  taking_frame (by decide) fun _ => ((takeCause_frame ..).within (by decide)).trans (reply_within (by decide) ..)

theorem execClearCause_frame (seq : Byte) (args : List Byte) (s : State) :
    Answers (SameExcept (.halt :: replyParts) s) (execClearCause seq args s) := by
  refine taking_frame (by decide) fun t => ?_
  have answer := reply_within (l := .halt :: replyParts) (by decide)
  split
  · exact answer ..
  · split
    · exact answer ..
    · exact .ite (answer ..) (.ite (answer ..) (((setHalt_frame ..).within (by decide)).trans (answer ..)))

theorem execLaneOpen_frame (seq : Byte) (args : List Byte) (s : State) :
    Answers (SameExcept (.sales :: replyParts) s) (execLaneOpen seq args s) := by
  refine taking_frame (by decide) fun t => ?_
  have answer := reply_within (l := .sales :: replyParts) (by decide)
  split
  · exact answer ..
  · exact .ite (answer ..) (.ite (answer ..) (.ite (answer ..) (.ite (answer ..)
      (((setLane_frame ..).within (by decide)).trans (answer ..)))))

theorem execLaneClose_frame (seq : Byte) (args : List Byte) (s : State) :
    Answers (SameExcept (.members :: .portS :: .handed :: reviewParts) s) (execLaneClose seq args s) := by
  refine taking_frame (by decide) fun t => ?_
  have answer := reply_within (l := .members :: .portS :: .handed :: reviewParts) (by decide)
  have close (l : Nat) : SameExcept (.members :: .portS :: .handed :: reviewParts) t (t.closeLane l (some .laneClosed)) :=
    (closeLane_frame ..).within (by decide)
  split
  · exact .ite (answer ..) (.ite (answer ..)
      (.trans (.ite ((close _).trans ((purge_frame ..).within (by decide))) (close _)) (answer ..)))
  · exact answer ..

theorem execCancelOrder_frame (seq : Byte) (args : List Byte) (s : State) :
    Answers (SameExcept (.members :: .portS :: .handed :: reviewParts) s) (execCancelOrder seq args s) := by
  refine taking_frame (by decide) fun t => ?_
  have answer := reply_within (l := .members :: .portS :: .handed :: reviewParts) (by decide)
  split
  · exact answer ..
  · split
    · exact answer ..
    · exact .ite (answer ..) (((voidOrder_frame ..).within (by decide)).trans (answer ..))

theorem execStationService_frame (seq : Byte) (args : List Byte) (s : State) :
    Answers (SameExcept (.portS :: .handed :: outParts) s) (execStationService seq args s) := by
  refine taking_frame (by decide) fun t => ?_
  have answer := reply_within (l := .portS :: .handed :: outParts) (by decide)
  split
  · exact .ite (answer ..) (.ite (answer ..) (.ite (answer ..) (.ite
      (((serviceOut_frame ..).within (by decide)).trans (answer ..)) (.ite (answer ..)
        (((setStation_frame ..).within (by decide)).trans (answer ..))))))
  · exact answer ..

theorem execRemoveCar_frame (seq : Byte) (args : List Byte) (s : State) :
    Answers (SameExcept (.handed :: .portS :: .stations :: .raised :: reviewParts) s) (execRemoveCar seq args s) := by
  refine taking_frame (by decide) fun t => ?_
  have answer := reply_within (l := .handed :: .portS :: .stations :: .raised :: reviewParts) (by decide)
  split
  · exact answer ..
  · refine .ite (answer ..) ?_
    split
    · exact answer ..
    · exact ((leave_frame ..).within (by decide)).trans (answer ..)

theorem execMemberLoad_frame (seq : Byte) (args : List Byte) (s : State) :
    Answers (SameExcept (.members :: .sales :: .portF :: replyParts) s) (execMemberLoad seq args s) := by
  refine taking_frame (by decide) fun t => ?_
  have answer := reply_within (l := .members :: .sales :: .portF :: replyParts) (by decide)
  split
  · exact .ite (answer ..) (((load_frame ..).within (by decide)).trans (answer ..))
  · exact answer ..

theorem execMemberPin_frame (seq : Byte) (args : List Byte) (s : State) :
    Answers (SameExcept (.members :: replyParts) s) (execMemberPin seq args s) := by
  refine taking_frame (by decide) fun t => ?_
  have answer := reply_within (l := .members :: replyParts) (by decide)
  split
  · exact answer ..
  · split
    · exact answer ..
    · exact .ite (answer ..) (.ite (answer ..) ((((setMember_frame ..).within (by decide)).trans
        ((offList_frame ..).within (by decide))).trans (answer ..)))

theorem execMemberUnpin_frame (seq : Byte) (args : List Byte) (s : State) :
    Answers (SameExcept (.members :: replyParts) s) (execMemberUnpin seq args s) := by
  refine taking_frame (by decide) fun t => ?_
  have answer := reply_within (l := .members :: replyParts) (by decide)
  split
  · exact answer ..
  · split
    · exact answer ..
    · exact .ite ((((setMember_frame ..).within (by decide)).trans ((toFront_frame ..).within (by decide))).trans
        (answer ..)) (answer ..)

theorem execDayReset_frame (seq : Byte) (args : List Byte) (s : State) :
    Answers (SameExcept (.members :: replyParts) s) (execDayReset seq args s) :=
  taking_frame (by decide) fun _ => ((setMembers_frame ..).within (by decide)).trans (reply_within (by decide) ..)

theorem execMemberFlush_frame (seq : Byte) (args : List Byte) (s : State) :
    Answers (SameExcept (.members :: replyParts) s) (execMemberFlush seq args s) :=
  taking_frame (by decide) fun _ => ((flush_frame _).within (by decide)).trans (reply_within (by decide) ..)

theorem execTakeNotice_frame (seq : Byte) (args : List Byte) (s : State) :
    Answers (SameExcept replyParts s) (execTakeNotice seq args s) := by
  refine taking_frame (by decide) fun t => ?_
  have answer := reply_within (l := replyParts) (by decide)
  split
  · exact answer ..
  · refine .ite (answer ..) ?_
    split
    · exact answer ..
    · exact ((setMgmt_frame ..).within (by decide)).trans (answer ..)

theorem execSetNoticeMask_frame (seq : Byte) (args : List Byte) (s : State) :
    Answers (SameExcept replyParts s) (execSetNoticeMask seq args s) := by
  refine taking_frame (by decide) fun t => ?_
  have answer := reply_within (l := replyParts) (by decide)
  split
  · exact .ite (answer ..) (((setMgmt_frame ..).within (by decide)).trans (answer ..))
  · exact answer ..

theorem execMgmtUnknownRequest_frame (seq code : Byte) (s : State) :
    Answers (SameExcept replyParts s) (execMgmtUnknownRequest seq code s) :=
  taking_frame (by decide) fun _ => reply_within (by decide) ..

/-! ### Expiries, silences and raised causes -/

theorem execEstopLineDeasserted_frame (s : State) : Answers (SameExcept [.halt] s) (execEstopLineDeasserted s) :=
  running_frame (setHalt_frame ..)

theorem execQuoteLifeExpiry_frame (lane : Nat) (s : State) :
    Answers (SameExcept [.sales, .members, .portF, .mgmt] s) (execQuoteLifeExpiry lane s) :=
  whenDue_frame (voidQuote_frame ..)

theorem execFetchTimerExpiry_frame (entry : Nat) (s : State) :
    Answers (SameExcept [.sales, .members, .portF, .mgmt] s) (execFetchTimerExpiry entry s) :=
  whenDue_frame (((notifyMember_frame ..).within (by decide)).trans ((fetchRefuse_frame ..).within (by decide)))

theorem execAdmitWindowExpiry_frame (s : State) : Answers (SameExcept reviewParts s) (execAdmitWindowExpiry s) := by
  refine whenDue_frame ?_
  split
  · exact (setMerge_frame ..).within (by decide)
  · exact (((withdraw_frame s).within (by decide)).trans ((notifySales_frame ..).within (by decide))).trans (review_frame _)

theorem execStartWaitExpiry_frame (s : State) : Answers (SameExcept [.track, .raised] s) (execStartWaitExpiry s) :=
  whenDue_frame (((setTrack_frame ..).within (by decide)).trans ((raiseCause_frame ..).within (by decide)))

theorem execStopWaitExpiry_frame (s : State) : Answers (SameExcept [.track, .raised] s) (execStopWaitExpiry s) :=
  whenDue_frame (((setTrack_frame ..).within (by decide)).trans ((raiseCause_frame ..).within (by decide)))

theorem execBroadcastTimerExpiry_frame (s : State) :
    Answers (SameExcept [.halt, .portF, .raised] s) (execBroadcastTimerExpiry s) :=
  whenDue_frame (((broadcast_frame s).within (by decide)).trans ((setHalt_frame ..).within (by decide)))

theorem execHaltWaitExpiry_frame (s : State) :
    Answers (SameExcept (.halt :: .portS :: .track :: outParts) s) (execHaltWaitExpiry s) := by
  have halt (t : State) (v : Halt) : SameExcept (.halt :: .portS :: .track :: outParts) t (t.setHalt v) :=
    (setHalt_frame ..).within (by decide)
  have forced (l : List Nat) (t : State) : SameExcept (.halt :: .portS :: .track :: outParts) t
      (l.foldl (fun t i => t.outOfService i .unconfirmed) t) :=
    SameExcept.foldl (fun t i => (outOfService_frame t i .unconfirmed).within (by decide)) l t
  have stopped (t : State) : SameExcept (.halt :: .portS :: .track :: outParts) t
      (if s.halt.awaitDrive then t.conveyorStopped else t) := .ite ((conveyorStopped_frame t).within (by decide)) .refl
  refine whenDue_frame ?_
  exact (((((halt ..).trans (forced ..)).trans (stopped _)).trans (halt ..)).trans
    ((enterMode_frame ..).within (by decide))).trans ((notifyHalt_frame ..).within (by decide))

theorem execHoldTimerExpiry_frame (s : State) :
    Answers (SameExcept (.halt :: .portS :: .stations :: reviewParts) s) (execHoldTimerExpiry s) := by
  have starts (t : State) : SameExcept (.halt :: .portS :: .stations :: reviewParts) t
      (if t.track.cars = [] then t else t.takeStart) := .ite .refl ((takeStart_frame t).within (by decide))
  refine whenDue_frame ?_
  exact ((((((setHalt_frame ..).within (by decide)).trans ((enterMode_frame ..).within (by decide))).trans
    (starts _)).trans ((resumeStations_frame _).within (by decide))).trans
    ((notifyHalt_frame ..).within (by decide))).trans ((review_frame _).within (by decide))

theorem execNodeSilent_frame (addr : Nat) (s : State) :
    Answers (SameExcept (.nodes :: .members :: outParts) s) (execNodeSilent addr s) :=
  whenDue_frame ((((setNode_frame ..).within (by decide)).trans ((notifyNode_frame ..).within (by decide))).trans
    ((silenceEffect_frame ..).within (by decide)))

theorem execStartRequest_frame (s : State) :
    Answers (SameExcept [.start, .track, .portF, .mgmt] s) (execStartRequest s) :=
  whenDue_frame (((setStartRequested_frame ..).within (by decide)).trans ((takeStart_frame _).within (by decide)))

theorem execRaiseCause_frame (k : CauseKind) (d : CauseDetail) (s : State) :
    Answers (SameExcept haltParts s) (execRaiseCause k d s) :=
  whenDue_frame (((setRaised_frame ..).within (by decide)).trans (takeCause_frame ..))

/-- Every command answers the next state, within its parts. -/
theorem exec_frame (c : Instr) (s : State) : Answers (SameExcept (touches c) s) (exec c s) :=
  match c with
  | .powerOnReset estop => execPowerOnReset_frame estop s
  | .lineReset => execLineReset_frame s
  | .lineResetEnd estop => execLineResetEnd_frame estop s
  | .tick => running_frame (tick_frame s)
  | .receiveByte p b => execReceiveByte_frame p b s
  | .transmitEnd p => execTransmitEnd_frame p s
  | .nodeFrameTake p => execNodeFrameTake_frame p s
  | .step src delta early => execStep_frame src delta early s
  | .entryEyeBlocked src => execEntryEyeBlocked_frame src s
  | .entryEyeClear src => execEntryEyeClear_frame src s
  | .mergeEyeBlocked lane => execMergeEyeBlocked_frame lane s
  | .mergeEyeClear lane => execMergeEyeClear_frame lane s
  | .checkEyeEdge src blocked => execCheckEyeEdge_frame src blocked s
  | .exitEyeBlocked src => execExitEyeBlocked_frame src s
  | .exitEyeClear src => execExitEyeClear_frame src s
  | .wheelSwitchEdge src blocked => execWheelSwitchEdge_frame src blocked s
  | .gateState lane isOpen => execGateState_frame lane isOpen s
  | .quote lane plan addons member => execQuote_frame lane plan addons member s
  | .paid lane token tender => execPaid_frame lane token tender s
  | .cancel lane token => execCancel_frame lane token s
  | .actState station report => execActState_frame station report s
  | .actStateFault station => execActStateFault_frame station s
  | .current station value => execCurrent_frame station value s
  | .driveState src report level roller => execDriveState_frame src report level roller s
  | .haltDriveConfirm src report => execHaltDriveConfirm_frame src report s
  | .stopActive src => execStopActive_frame src s
  | .stopReleased src => execStopReleased_frame src s
  | .estopLineAsserted => running_frame (lineAsserted_frame s)
  | .estopLineDeasserted => execEstopLineDeasserted_frame s
  | .memberData id known tier limit uses => execMemberData_frame id known tier limit uses s
  | .siteFieldFrame frame => execSiteFieldFrame_frame frame s
  | .readEntry seq args => execReadEntry_frame seq args s
  | .writeEntry seq args => execWriteEntry_frame seq args s
  | .writeNodeEntry seq args => execWriteNodeEntry_frame seq args s
  | .writeStationEntry seq args => execWriteStationEntry_frame seq args s
  | .writeParamEntry seq args => execWriteParamEntry_frame seq args s
  | .writePlanEntry seq args => execWritePlanEntry_frame seq args s
  | .writeServiceEntry seq args => execWriteServiceEntry_frame seq args s
  | .arm seq args => execArm_frame seq args s
  | .disarm seq args => execDisarm_frame seq args s
  | .release seq args => execRelease_frame seq args s
  | .forceHalt seq args => execForceHalt_frame seq args s
  | .clearCause seq args => execClearCause_frame seq args s
  | .laneOpen seq args => execLaneOpen_frame seq args s
  | .laneClose seq args => execLaneClose_frame seq args s
  | .cancelOrder seq args => execCancelOrder_frame seq args s
  | .stationService seq args => execStationService_frame seq args s
  | .removeCar seq args => execRemoveCar_frame seq args s
  | .memberLoad seq args => execMemberLoad_frame seq args s
  | .memberPin seq args => execMemberPin_frame seq args s
  | .memberUnpin seq args => execMemberUnpin_frame seq args s
  | .dayReset seq args => execDayReset_frame seq args s
  | .memberFlush seq args => execMemberFlush_frame seq args s
  | .portReset seq args => execPortReset_frame seq args s
  | .takeNotice seq args => execTakeNotice_frame seq args s
  | .setNoticeMask seq args => execSetNoticeMask_frame seq args s
  | .mgmtUnknownRequest seq code => execMgmtUnknownRequest_frame seq code s
  | .quoteLifeExpiry lane => execQuoteLifeExpiry_frame lane s
  | .fetchTimerExpiry entry => execFetchTimerExpiry_frame entry s
  | .admitWindowExpiry => execAdmitWindowExpiry_frame s
  | .startWaitExpiry => execStartWaitExpiry_frame s
  | .stopWaitExpiry => execStopWaitExpiry_frame s
  | .idleTimerExpiry => whenDue_frame ((stopConveyor_frame s).within (by decide))
  | .broadcastTimerExpiry => execBroadcastTimerExpiry_frame s
  | .haltWaitExpiry => execHaltWaitExpiry_frame s
  | .holdTimerExpiry => execHoldTimerExpiry_frame s
  | .nodeSilent addr => execNodeSilent_frame addr s
  | .startRequest => execStartRequest_frame s
  | .raiseCause k d => execRaiseCause_frame k d s

/-- Settles O1: a step is the front command run on the rest of the queue. -/
theorem stepRunsTheFrontCommand : Obligations.StepRunsTheFrontCommand :=
  ⟨fun c rest s h => by simp only [step, h], fun s h => by simp only [step, h]⟩

/-- Settles O2: each command's frame, command by command. -/
theorem commandsTouchOnlyTheirParts : Obligations.CommandsTouchOnlyTheirParts := exec_frame

/-! ## Outside its moment (logs 2, 3, 4, 5, 6 and 23) -/

theorem taking_reset {c : Instr} {s : State} (g : State → State) (h : s.inReset = true) : taking c s g = .next s :=
  running_reset _ h

theorem whenDue_reset {d : Bool} {s : State} (g : State → State) (h : s.inReset = true) : whenDue d s g = .next s :=
  running_reset _ h

/-- While a line reset is held every command but the resets is held off (R2). -/
theorem exec_inReset {c : Instr} {s : State} (h : s.inReset = true) (hc : isReset c = false) : exec c s = .next s := by
  cases c <;> simp only [exec] <;>
    first
      | exact taking_reset _ h
      | exact whenDue_reset _ h
      | exact running_reset _ h
      | exact Bool.noConfusion hc

/-- A command that acts on a frame is held off while its hand-over is not next at its port (R38). -/
theorem exec_notNext {c : Instr} {s : State} (hc : arrivesAt c ≠ none) (h : s.isNext (handoverOf c) = false) :
    exec c s = .next s := by
  cases c <;> simp only [exec] <;> first | exact taking_idle _ h | exact absurd rfl hc

/-- The second hand-over of the oldest DRIVE_STATE is next beside the first. -/
theorem isNext_second {src level : Nat} {report : DriveReport} {roller : Bool} {rest : List Instr} {s : State}
    (h : s.handedFrom .f = .driveState src report level roller :: .haltDriveConfirm src report :: rest) :
    s.isNext (.haltDriveConfirm src report) = true := by
  simp [State.isNext, arrivesAt, h, nextAmong, oneDriveState]

/-- An empty inbound queue, or a sender whose silence is due, leaves nothing to take (R13, log 6). -/
theorem exec_nodeFrameTake_held {p : PortId} {s : State}
    (h : ∀ f rest, (s.port p).inq = f :: rest → (s.node f.frame.src.toNat).silenceDue = true) :
    exec (.nodeFrameTake p) s = .next s := by
  have hexec : exec (.nodeFrameTake p) s = execNodeFrameTake p s := rfl
  rw [hexec, execNodeFrameTake, running]
  cases hq : (s.port p).inq with
  | nil => simp
  | cons f rest => simp [h f rest hq]

/-- A timer that does not stand at zero holds its expiry off. -/
theorem whenDue_timer {t : Timer} {s : State} (g : State → State) (h : t ≠ some 0) :
    whenDue (Timer.due t) s g = .next s := whenDue_idle g (Timer.due_of_ne h)

/-- A cause that is not outstanding is not taken (log 4). -/
theorem exec_raiseCause_idle {k : CauseKind} {d : CauseDetail} {s : State} (h : (k, d) ∉ s.raised) :
    exec (.raiseCause k d) s = .next s := by
  simp only [exec]
  exact whenDue_idle _ (decide_eq_false h)

/-- Settles O3: each kind of command is held off by its own gate. -/
theorem commandsOutsideTheirMoment : Obligations.CommandsOutsideTheirMoment := by
  refine ⟨fun c s => exec_inReset, fun c s => exec_notNext, fun p c rest s => isNext_head,
    fun src level report roller rest s => isNext_second, fun n s => ⟨?_, ?_, ?_⟩,
    fun k d s => exec_raiseCause_idle, fun p s h => exec_nodeFrameTake_held ?_,
    fun p f rest s hq hd => exec_nodeFrameTake_held ?_,
    fun s => ⟨?_, ?_, ?_, ?_, ?_, ?_, ?_, ?_⟩⟩
  case refine_4 => intro f rest hq; rw [h] at hq; cases hq
  case refine_5 => intro g more hg; rw [hq] at hg; cases hg; exact hd
  all_goals
    intro h
    simp only [exec]
    first | exact whenDue_timer _ h | exact whenDue_idle _ h

/-! ## A law that every command keeps is kept by every step -/

/-- A law that does not speak of the queue of commands and that every command keeps is kept by every step. -/
theorem step_keeps {P : State → Prop} (queue : ∀ s l, P s → P { s with pending := l })
    (command : ∀ c s, P s → Answers P (exec c s)) {s t : State} (h : P s) (ht : step s = .next t) : P t := by
  unfold step at ht
  split at ht
  · exact (command _ _ (queue _ _ h)).elim ht
  · cases ht
    exact h

end Sys2Proof.Machine
end

section
/-!
What every operation of the part keeps, said once: both ports in order (R9, R12, R17 to R22), ATTN (R186), the sizes of the
tables, the roles of the Node Table and the parameters. With it the obligations O58 and O59.
-/
namespace Sys2Proof.Machine

-- Proofs in order: a thread that waits for another proof counts against the check's memory limit.
set_option Elab.async false

/-! ## Order kept from one state to another -/

/-- A port keeps its bounds, its open collection is one that a header has passed, and no frame waits on an idle line. -/
def PortGood (q : Port) : Prop := PortBounded q ∧ CollectionOpen q ∧ TransmitterBusy q

theorem portLaw_iff (s : State) : PortLaw s ↔ ∀ p, PortGood (s.port p) := by
  constructor
  · rintro ⟨h1, h2, h3, h4, h5, h6⟩ p
    cases p
    · exact ⟨h1, h3, h5⟩
    · exact ⟨h2, h4, h6⟩
  · intro h
    obtain ⟨h1, h3, h5⟩ := h .s
    obtain ⟨h2, h4, h6⟩ := h .f
    exact ⟨h1, h2, h3, h4, h5, h6⟩

/-- What an operation keeps, whatever else it does. -/
structure Orderly (s t : State) : Prop where
  ports : PortLaw s → PortLaw t
  attn : AttnLaw s → AttnLaw t
  shape : Shape s → Shape t
  roles : ∀ a, (t.node a).role = (s.node a).role
  params : t.mgmt.params = s.mgmt.params

theorem Orderly.refl {s : State} : Orderly s s := ⟨id, id, id, fun _ => rfl, rfl⟩

theorem Orderly.trans {s t u : State} (h : Orderly s t) (k : Orderly t u) : Orderly s u :=
  ⟨k.ports ∘ h.ports, k.attn ∘ h.attn, k.shape ∘ h.shape, fun a => (k.roles a).trans (h.roles a),
    k.params.trans h.params⟩

theorem Orderly.ite {s t u : State} {c : Prop} [Decidable c] (h : Orderly s t) (k : Orderly s u) :
    Orderly s (if c then t else u) := by
  split
  · exact h
  · exact k

theorem Orderly.foldl {α : Type} {g : State → α → State} (h : ∀ t x, Orderly t (g t x)) (xs : List α) :
    ∀ s, Orderly s (xs.foldl g s) := by
  induction xs with
  | nil => intro s; exact .refl
  | cons x xs ih => intro s; exact (h s x).trans (ih (g s x))

theorem Orderly.param {s t : State} (h : Orderly s t) (p : Config.Param) : t.param p = s.param p := by
  rw [State.param, State.param, h.params]

/-! ## Setters -/

theorem setTrack_orderly (s : State) (v : Track) : Orderly s (s.setTrack v) :=
  ⟨id, id, fun h => { h with }, fun _ => rfl, rfl⟩
theorem setHanded_orderly (s : State) (v : List Instr) : Orderly s (s.setHanded v) :=
  ⟨id, id, fun h => { h with }, fun _ => rfl, rfl⟩
theorem setRaised_orderly (s : State) (v : List (CauseKind × CauseDetail)) : Orderly s (s.setRaised v) :=
  ⟨id, id, fun h => { h with }, fun _ => rfl, rfl⟩
theorem setStartRequested_orderly (s : State) (v : Bool) : Orderly s (s.setStartRequested v) :=
  ⟨id, id, fun h => { h with }, fun _ => rfl, rfl⟩

theorem setSales_orderly (s : State) (v : Sales) (services : v.services.length = s.sales.services.length)
    (plans : v.plans.length = s.sales.plans.length) (lanes : v.lanes.length = s.sales.lanes.length)
    (orders : v.orders.length = s.sales.orders.length) : Orderly s (s.setSales v) :=
  ⟨id, id, fun h => { h with
    services := services.trans h.services, plans := plans.trans h.plans,
    lanes := lanes.trans h.lanes, orders := orders.trans h.orders }, fun _ => rfl, rfl⟩

theorem setMembers_orderly (s : State) (v : Members) (records : v.records.length = s.members.records.length)
    (fetches : v.fetches.length = s.members.fetches.length)
    (waiting : (∀ f ∈ s.members.fetches, f.waiting.length = 3) → ∀ f ∈ v.fetches, f.waiting.length = 3) :
    Orderly s (s.setMembers v) :=
  ⟨id, id, fun h => { h with
    records := records.trans h.records, fetches := fetches.trans h.fetches, waiting := waiting h.waiting }, fun _ => rfl, rfl⟩

theorem setMerge_orderly (s : State) (v : Merge) (lanes : v.lanes.length = s.merge.lanes.length) :
    Orderly s (s.setMerge v) :=
  ⟨id, id, fun h => { h with merge := lanes.trans h.merge }, fun _ => rfl, rfl⟩

theorem setHalt_orderly (s : State) (v : Halt) (details : v.lastDetails.length = s.halt.lastDetails.length) :
    Orderly s (s.setHalt v) :=
  ⟨id, id, fun h => { h with details := details.trans h.details }, fun _ => rfl, rfl⟩

/-- A Halt block with its last details as they were. -/
theorem setHalt_kept_orderly (s : State) (v : Halt) (details : v.lastDetails = s.halt.lastDetails) :
    Orderly s (s.setHalt v) := setHalt_orderly _ _ (congrArg _ details)

theorem setStation_orderly (s : State) (i : Nat) (v : Station) : Orderly s (s.setStation i v) :=
  ⟨id, id, fun h => { h with stations := List.length_set.trans h.stations }, fun _ => rfl, rfl⟩

/-- A node record that keeps its role. -/
theorem setNode_orderly (s : State) (a : Nat) (r : NodeRecord) (hr : r.role = (s.node a).role) :
    Orderly s (s.setNode a r) := by
  refine ⟨id, id, fun h => { h with nodes := List.length_set.trans h.nodes }, fun b => ?_, rfl⟩
  by_cases hb : b = a
  · subst hb
    by_cases hlt : b < s.nodes.length
    · rw [node_setNode r hlt, hr]
    · simp [State.setNode, List.set_eq_of_length_le (Nat.le_of_not_lt hlt), State.node]
  · rw [node_setNode_ne s r hb]

theorem setMergeLane_orderly (s : State) (l : Nat) (v : LaneMerge) : Orderly s (s.setMergeLane l v) :=
  setMerge_orderly _ _ List.length_set
theorem setLane_orderly (s : State) (l : Nat) (v : LaneSales) : Orderly s (s.setLane l v) :=
  setSales_orderly _ _ rfl rfl List.length_set rfl
theorem setOrder_orderly (s : State) (r : Nat) (v : Order) : Orderly s (s.setOrder r v) :=
  setSales_orderly _ _ rfl rfl rfl List.length_set
theorem setMember_orderly (s : State) (n : Nat) (v : Member) : Orderly s (s.setMember n v) :=
  setMembers_orderly _ _ List.length_set rfl id
theorem setRecency_orderly (s : State) (l : List Nat) :
    Orderly s (s.setMembers { s.members with recency := l }) := setMembers_orderly _ _ rfl rfl id

/-- A Fetch Table entry whose waiting set has its three places. -/
theorem setFetch_orderly (s : State) (n : Nat) (v : Fetch)
    (hv : (∀ f ∈ s.members.fetches, f.waiting.length = 3) → v.waiting.length = 3) : Orderly s (s.setFetch n v) :=
  setMembers_orderly _ _ rfl List.length_set fun h f hf => (List.mem_or_eq_of_mem_set hf).elim (h f) (· ▸ hv h)

/-- A waiting set that keeps its places. -/
theorem fetch_waiting_length {s : State} (h : ∀ f ∈ s.members.fetches, f.waiting.length = 3) (n : Nat) :
    (s.fetch n).waiting.length = 3 := by
  unfold State.fetch
  rw [List.getD_eq_getElem?_getD]
  cases hn : s.members.fetches[n]? with
  | none => rfl
  | some f => exact h f (List.mem_of_getElem? hn)

/-- A port put in order by what the operation makes of it. -/
theorem setPort_orderly (s : State) (p : PortId) (q : Port) (good : PortGood (s.port p) → PortGood q)
    (errors : (s.port p).rxErrors.length = 6 → q.rxErrors.length = 6) : Orderly s (s.setPort p q) := by
  refine ⟨fun h => ?_, ?_, fun h => ?_, ?_, ?_⟩
  · rw [portLaw_iff] at *
    intro r
    by_cases hr : r = p
    · subst hr
      rw [port_setPort]
      exact good (h r)
    · have hother : (s.setPort p q).port r = s.port r := by cases p <;> cases r <;> first | rfl | exact absurd rfl hr
      rw [hother]
      exact h r
  · cases p <;> exact id
  · cases p
    · exact { h with rxS := errors h.rxS }
    · exact { h with rxF := errors h.rxF }
  · cases p <;> exact fun _ => rfl
  · cases p <;> rfl

/-! ## Notices and causes -/

/-- A raising judges ATTN and keeps the classes' number and the parameters (R185, R186). -/
theorem notify_orderly (s : State) (c : NoticeClass) (d : NoticeDetail) : Orderly s (s.notify c d) :=
  ⟨id, fun _ => rfl, fun h => { h with notices := (notify_length s c d).trans h.notices }, fun _ => rfl, rfl⟩

theorem raiseCause_orderly (s : State) (k : CauseKind) (d : CauseDetail) : Orderly s (s.raiseCause k d) :=
  setRaised_orderly ..

theorem noteLost_orderly (s : State) (f : Frame) : Orderly s (s.noteLost f) := by
  unfold State.noteLost
  split
  · exact notify_orderly ..
  · exact .refl

/-! ## The transmitter (R16 to R22) -/

@[simp] theorem Port.transmit_rxErrors (q : Port) : (Port.transmit q).rxErrors = q.rxErrors := by
  unfold Port.transmit Port.startFrame
  (repeat' split) <;> rfl

/-- The transmitter takes frames off the queues and leaves the receiving side alone. -/
theorem Port.transmit_keeps (q : Port) :
    (Port.transmit q).inq = q.inq ∧ (Port.transmit q).coll = q.coll ∧ (Port.transmit q).haltRun = q.haltRun ∧
      (Port.transmit q).urgent.Sublist q.urgent ∧ (Port.transmit q).normal.Sublist q.normal := by
  unfold Port.transmit Port.startFrame
  (repeat' split) <;> simp_all

/-- The transmitter puts a bounded port in order. -/
theorem Port.transmit_good {q : Port} (hb : PortBounded q) (hc : CollectionOpen q) : PortGood (Port.transmit q) := by
  obtain ⟨hinq, hcoll, hrun, hurgent, hnormal⟩ := Port.transmit_keeps q
  obtain ⟨h1, h2, h3, h4, h5, h6, h7⟩ := hb
  refine ⟨⟨hinq ▸ h1, hinq ▸ h2, Nat.le_trans hurgent.length_le h3, Nat.le_trans hnormal.length_le h4,
    Nat.le_trans hurgent.countP_le h5, hrun ▸ h6, hcoll ▸ h7⟩, ?_, Port.transmit_busy q⟩
  unfold CollectionOpen
  rw [hcoll]
  exact hc

theorem offerNormal_orderly (s : State) (p : PortId) (f : OutFrame) : Orderly s (s.offerNormal p f) := by
  unfold State.offerNormal
  dsimp only
  split
  next hroom =>
    refine setPort_orderly _ _ _ (fun ⟨hb, hc, _⟩ => Port.transmit_good ?_ hc) (by simp)
    obtain ⟨h1, h2, h3, h4, h5, h6, h7⟩ := hb
    exact ⟨h1, h2, h3, length_concat_le hroom, h5, h6, h7⟩
  next =>
    exact ((setPort_orderly _ _ _ (by exact id) (by exact id)).trans (notify_orderly ..)).trans (noteLost_orderly ..)

theorem offerUrgent_orderly (s : State) (p : PortId) (f : OutFrame) : Orderly s (s.offerUrgent p f) := by
  unfold State.offerUrgent
  dsimp only
  split
  · exact .refl
  next hone =>
    split
    next hroom =>
      refine setPort_orderly _ _ _ (fun ⟨hb, hc, _⟩ => Port.transmit_good ?_ hc) (by simp)
      obtain ⟨h1, h2, h3, h4, h5, h6, h7⟩ := hb
      refine ⟨h1, h2, length_concat_le hroom, Nat.le_trans (List.length_filter_le ..) h4, ?_, h6, h7⟩
      by_cases hk : f.frame.kind = Config.kHaltBcast
      · have hnone : (s.port p).urgent.countP (fun g => g.frame.kind == Config.kHaltBcast) = 0 := by
          rw [List.countP_eq_zero]
          intro g hg hgk
          exact hone ⟨hk, List.any_eq_true.mpr ⟨g, hg, hgk⟩⟩
        simp [List.countP_append, hnone, hk]
      · simpa [List.countP_append, hk] using h5
    next => exact (setPort_orderly _ _ _ (by exact id) (by exact id)).trans (raiseCause_orderly ..)

theorem toSite_orderly (s : State) (k : Byte) (l : List Byte) : Orderly s (s.toSite k l) := offerNormal_orderly ..

theorem reply_orderly (s : State) (seq : Byte) (code : Nat) (st : Status) (l : List Byte) :
    Orderly s (s.reply seq code st l) := offerNormal_orderly ..

theorem toField_orderly (s : State) (d : Option Nat) (k : Byte) (l : List Byte) : Orderly s (s.toField d k l) := by
  cases d
  · exact .refl
  · exact offerNormal_orderly ..

theorem toFieldUrgent_orderly (s : State) (d : Option Nat) (k : Byte) (l : List Byte) :
    Orderly s (s.toFieldUrgent d k l) := by
  cases d
  · exact .refl
  · exact offerUrgent_orderly ..

/-! ## The receiver (R3 to R15) -/

theorem rxError_orderly (s : State) (p : PortId) (e : RxError) : Orderly s (s.rxError p e) :=
  (setPort_orderly _ _ _ (by exact id) (by simp)).trans (notify_orderly ..)

/-- The receiver's collection stays within 56 bytes and within what its header promised. -/
theorem setRx_orderly (s : State) (p : PortId) (rx : RxState) (l : List Byte)
    (h : PortGood (s.port p) → l.length ≤ 56 ∧ (6 ≤ l.length → collLen l ≤ Config.maxLen ∧ l.length ≤ collLen l + 8)) :
    Orderly s (s.setRx p rx l) := by
  refine setPort_orderly _ _ _ (fun hgood => ?_) id
  obtain ⟨h7, hc⟩ := h hgood
  obtain ⟨⟨h1, h2, h3, h4, h5, h6, _⟩, _, ht⟩ := hgood
  exact ⟨⟨h1, h2, h3, h4, h5, h6, h7⟩, hc, ht⟩

theorem setRx_empty_orderly (s : State) (p : PortId) (rx : RxState) : Orderly s (s.setRx p rx []) :=
  setRx_orderly _ _ _ _ fun _ => ⟨by simp, by simp⟩

theorem setRx_same_orderly (s : State) (p : PortId) (rx : RxState) : Orderly s (s.setRx p rx (s.port p).coll) :=
  setRx_orderly _ _ _ _ fun ⟨hb, hc, _⟩ => ⟨hb.2.2.2.2.2.2, hc⟩

theorem abortFrame_orderly (s : State) (p : PortId) (e : RxError) : Orderly s (s.abortFrame p e) :=
  (setRx_empty_orderly ..).trans (rxError_orderly ..)

theorem judgePause_orderly (s : State) (p : PortId) : Orderly s (s.judgePause p) := by
  cases p with
  | s => exact .refl
  | f => exact .ite ((setPort_orderly _ _ _ (by exact id) (by exact id)).trans (offerUrgent_orderly ..)) .refl

theorem judgeResume_orderly (s : State) (p : PortId) : Orderly s (s.judgeResume p) := by
  cases p with
  | s => exact .refl
  | f => exact .ite ((setPort_orderly _ _ _ (by exact id) (by exact id)).trans (offerUrgent_orderly ..)) .refl

/-- A frame that finds room keeps the queue within its places, and the normal class within its own (R12). -/
theorem offerInbound_orderly (s : State) (p : PortId) (f : Frame) : Orderly s (s.offerInbound p f) := by
  unfold State.offerInbound
  dsimp only
  split
  next hroom =>
    refine (setPort_orderly s p { s.port p with inq := (s.port p).inq ++ [_] } ?_ (by exact id)).trans (judgePause_orderly ..)
    rintro ⟨⟨h1, h2, h3, h4, h5, h6, h7⟩, hc, ht⟩
    refine ⟨?_, hc, ht⟩
    cases hsafe : s.safetyClass p f with
    | true =>
      rw [admits, hsafe] at hroom
      exact ⟨length_concat_le (of_decide_eq_true hroom), by simpa [List.countP_append] using h2, h3, h4, h5, h6, h7⟩
    | false =>
      rw [admits, hsafe] at hroom
      have hfill : (s.port p).inq.length < Config.inboundNormal := by simpa using hroom
      have hnormal : (s.port p).inq.countP (fun f => !f.safety) ≤ (s.port p).inq.length := List.countP_le_length
      have hsize : Config.inboundNormal ≤ Config.inboundSize := by decide
      refine ⟨?_, ?_, h3, h4, h5, h6, h7⟩
      · simp only [List.length_append, List.length_singleton]
        omega
      · simp only [List.countP_append, List.countP_singleton]
        simp only [Bool.not_false, if_true]
        omega
  next => exact (setPort_orderly _ _ _ (by exact id) (by exact id)).trans (notify_orderly ..)

/-- LEN stands in the first six bytes, so a content byte beyond them leaves it. -/
theorem collLen_append {l : List Byte} (b : Byte) (h : 5 ≤ l.length) : collLen (l ++ [b]) = collLen l := by
  simp [collLen, List.getD_eq_getElem?_getD, List.getElem?_append_left (show 4 < l.length by omega)]

/-- A header that raises no error gives a LEN of 48 at most (R5). -/
theorem collLen_of_headerError {l : List Byte} (h : headerError l = none) : collLen l ≤ Config.maxLen := by
  unfold headerError at h
  split at h
  · cases h
  · split at h
    · cases h
    · split at h
      · cases h
      · omega

theorem content_orderly (s : State) (p : PortId) (b : Byte) : Orderly s (s.content p b) := by
  unfold State.content
  dsimp only
  split
  next hshort =>
    exact setRx_orderly _ _ _ _ fun _ => ⟨by simp; omega, fun h6 => absurd h6 (by simp; omega)⟩
  next =>
    split
    next hfive =>
      split
      · exact abortFrame_orderly ..
      next hok =>
        exact setRx_orderly _ _ _ _ fun _ => ⟨by simp; omega, fun _ => ⟨collLen_of_headerError hok, by simp; omega⟩⟩
    next hlong =>
      split
      next hroom =>
        refine setRx_orderly _ _ _ _ fun ⟨_, hc, _⟩ => ?_
        obtain ⟨hlen, -⟩ := hc (by omega)
        rw [collLen_append b (by omega)]
        have hmax : Config.maxLen = 48 := rfl
        exact ⟨by simp; omega, fun _ => ⟨hlen, by simp; omega⟩⟩
      next => exact abortFrame_orderly ..

theorem closeFrame_orderly (s : State) (p : PortId) : Orderly s (s.closeFrame p) := by
  have opened := setRx_empty_orderly s p .collect
  unfold State.closeFrame
  dsimp only
  split
  · exact opened
  · split
    · exact opened.trans (rxError_orderly ..)
    · exact opened.trans (offerInbound_orderly ..)

theorem receive_orderly (s : State) (p : PortId) (b : Byte) : Orderly s (s.receive p b) := by
  unfold State.receive
  split
  · exact .ite (setRx_empty_orderly ..) .refl
  · exact .ite (closeFrame_orderly ..) (.ite (setRx_same_orderly ..) (.ite (.ite .refl (abortFrame_orderly ..))
      (content_orderly ..)))
  · exact .ite (content_orderly ..) (.ite (content_orderly ..) (.ite (content_orderly ..)
      (.ite ((setRx_empty_orderly ..).trans (rxError_orderly ..)) (.ite (abortFrame_orderly ..) (abortFrame_orderly ..)))))

/-- The halt run count starts again at its sixth byte (R9). -/
theorem countHalt_orderly (s : State) (p : PortId) (b : Byte) : Orderly s (s.countHalt p b) := by
  have counted (n : Nat) (hn : n < Config.haltRun) : Orderly s (s.setPort p { s.port p with haltRun := n }) := by
    refine setPort_orderly _ _ _ (fun ⟨hb, hc, ht⟩ => ⟨?_, hc, ht⟩) id
    obtain ⟨h1, h2, h3, h4, h5, _, h7⟩ := hb
    exact ⟨h1, h2, h3, h4, h5, hn, h7⟩
  unfold State.countHalt
  dsimp only
  split
  · split
    next hrun => exact counted _ hrun
    next => exact (counted 0 (by decide)).trans (raiseCause_orderly ..)
  · exact counted 0 (by decide)

theorem endTransmission_orderly (s : State) (p : PortId) :
    Orderly s (s.setPort p (Port.transmit (Port.endFrame (s.port p)))) := by
  refine setPort_orderly _ _ _ (fun ⟨hb, hc, _⟩ => Port.transmit_good ?_ ?_) ?_
  all_goals
    rw [Port.endFrame]
    split
    all_goals first | exact hb | exact hc | simp

theorem countBlocked_orderly (s : State) : Orderly s s.countBlocked :=
  (setPort_orderly s .s _ (by exact id) (by exact id)).trans (notify_orderly ..)

/-- A sweep only takes frames off the normal queue. -/
theorem sweep_orderly (s : State) : Orderly s s.sweep := by
  refine (setPort_orderly s .f { s.portF with normal := s.portF.normal.filter fun f => !blockedIn s.halt.mode f } ?_
    (by exact id)).trans
    (Orderly.foldl (fun t _ => countBlocked_orderly t) _ _)
  rintro ⟨⟨h1, h2, h3, h4, h5, h6, h7⟩, hc, ht⟩
  refine ⟨⟨h1, h2, h3, Nat.le_trans (List.length_filter_le ..) h4, h5, h6, h7⟩, hc, fun hline => ?_⟩
  obtain ⟨hu, hn⟩ := ht hline
  have hfree : s.portF.normal = [] := hn
  exact ⟨hu, by simp [hfree]⟩

theorem Port.cleared_good : PortGood Port.cleared := by
  refine ⟨?_, ?_, ?_⟩ <;> simp [PortBounded, CollectionOpen, TransmitterBusy, Port.cleared, Config.haltRun]

/-- A restarted port has nothing queued (R28). -/
theorem Port.restart_good (q : Port) : PortGood (Port.restart q) := by
  refine ⟨?_, ?_, ?_⟩ <;> simp [PortBounded, CollectionOpen, TransmitterBusy, Port.restart, Port.cleared, Config.haltRun]

theorem restartPort_orderly (s : State) (p : PortId) : Orderly s (s.restartPort p) := by
  have start : Orderly s (s.setPort p (Port.restart (s.port p))) :=
    setPort_orderly _ _ _ (fun _ => Port.restart_good _) fun _ => rfl
  have lost := Orderly.foldl (fun (t : State) (f : OutFrame) => noteLost_orderly t f.frame)
  unfold State.restartPort
  exact .ite ((start.trans (lost ..)).trans (offerUrgent_orderly ..)) (start.trans (lost ..))

/-! ## The conveyor (section 6.1) -/

theorem driveCmd_orderly (s : State) (a b : Nat) : Orderly s (s.driveCmd a b) := toField_orderly ..
theorem driveStop_orderly (s : State) : Orderly s s.driveStop := toFieldUrgent_orderly ..

theorem startConveyor_orderly (s : State) : Orderly s s.startConveyor :=
  (setTrack_orderly ..).trans (driveCmd_orderly ..)

theorem takeStart_orderly (s : State) : Orderly s s.takeStart := by
  unfold State.takeStart
  split
  · split
    · exact startConveyor_orderly s
    · exact .refl
    · exact .refl
    · exact (setTrack_orderly ..)
  · exact .refl

theorem handStart_orderly (s : State) : Orderly s s.handStart := by
  unfold State.handStart
  exact .ite (setStartRequested_orderly ..) .refl

theorem conveyorStopped_orderly (s : State) : Orderly s s.conveyorStopped := by
  have h := fun v => (setTrack_orderly s v)
  unfold State.conveyorStopped
  exact .ite ((h _).trans (startConveyor_orderly _)) (h _)

theorem judgeSpeed_orderly (s : State) : Orderly s s.judgeSpeed := by
  unfold State.judgeSpeed
  exact .ite ((setTrack_orderly ..).trans (driveCmd_orderly ..)) .refl

theorem judgeStandby_orderly (s : State) : Orderly s s.judgeStandby := by
  unfold State.judgeStandby
  split
  · split
    · exact setTrack_orderly ..
    · exact .refl
  · exact setTrack_orderly ..

theorem judgeConveyor_orderly (s : State) : Orderly s s.judgeConveyor :=
  (judgeSpeed_orderly s).trans (judgeStandby_orderly _)

theorem stopConveyor_orderly (s : State) : Orderly s s.stopConveyor :=
  (setTrack_orderly ..).trans (driveStop_orderly _)

/-! ## Merge and Entry (chapter 5) -/

theorem setGate_orderly (s : State) (l : Nat) (g : Gate) : Orderly s (s.setGate l g) := setMergeLane_orderly ..

theorem openGate_orderly (s : State) (l : Nat) : Orderly s (s.openGate l) :=
  (toField_orderly ..).trans (setGate_orderly ..)

theorem closeGate_orderly (s : State) (l : Nat) : Orderly s (s.closeGate l) :=
  (toField_orderly ..).trans (setGate_orderly ..)

theorem closeIfOpen_orderly (s : State) (l : Nat) : Orderly s (s.closeIfOpen l) := by
  unfold State.closeIfOpen
  split
  · exact closeGate_orderly ..
  · exact closeGate_orderly ..
  · exact .refl
  · exact .refl

theorem closeOpenGates_orderly (s : State) : Orderly s s.closeOpenGates :=
  Orderly.foldl closeIfOpen_orderly _ _

theorem setOrderState_orderly (s : State) (r : Nat) (st : OrderState) : Orderly s (s.setOrderState r st) :=
  setOrder_orderly ..

theorem grantLane_orderly (s : State) (l : Nat) : Orderly s (s.grantLane l) := by
  unfold State.grantLane
  split
  · exact .refl
  · exact (setOrderState_orderly ..).trans
      ((setMerge_orderly _ _ (by exact rfl)).trans (openGate_orderly ..))

theorem arbitrate_orderly (s : State) : Orderly s s.arbitrate := by
  unfold State.arbitrate
  split
  · split
    · exact .refl
    · split
      · exact (grantLane_orderly ..)
      · exact .refl
      · exact (setStartRequested_orderly ..)
      · exact (setStartRequested_orderly ..)
  · exact .refl

theorem review_orderly (s : State) : Orderly s s.review :=
  (arbitrate_orderly s).trans (judgeConveyor_orderly _)

theorem markUnpaid_orderly (s : State) (l : Nat) : Orderly s (s.markUnpaid l) :=
  (setMergeLane_orderly ..).trans (notify_orderly ..)

theorem stage_orderly (s : State) (l r : Nat) : Orderly s (s.stage l r) :=
  (setOrderState_orderly ..).trans
    ((setMergeLane_orderly ..).trans (handStart_orderly _))

theorem judgePayment_orderly (s : State) (l r : Nat) : Orderly s (s.judgePayment l r) := by
  unfold State.judgePayment
  exact .ite ((stage_orderly ..).trans (review_orderly _)) (judgeConveyor_orderly _)

theorem stageOnBinding_orderly (s : State) (l : Nat) :
    Orderly s (s.stageOnBinding l) := by
  unfold State.stageOnBinding
  split
  · split
    · exact (markUnpaid_orderly ..)
    · exact .ite (stage_orderly ..) .refl
  · exact .refl

theorem judgeVoid_orderly (s : State) (l : Nat) : Orderly s (s.judgeVoid l) := by
  unfold State.judgeVoid
  exact .ite (markUnpaid_orderly ..) .refl

theorem endGrant_orderly (s : State) (l : Nat) : Orderly s (s.endGrant l) :=
  (setMerge_orderly _ _ (by exact rfl)).trans (closeGate_orderly ..)

theorem ungrant_orderly (s : State) (l r : Nat) : Orderly s (s.ungrant l r) := by
  unfold State.ungrant
  exact .ite ((setOrderState_orderly ..).trans (handStart_orderly _))
    (setOrderState_orderly ..)

theorem withdraw_orderly (s : State) : Orderly s s.withdraw := by
  unfold State.withdraw
  split
  · exact .refl
  · split
    · exact (endGrant_orderly ..)
    · exact (ungrant_orderly ..).trans (endGrant_orderly ..)

theorem uncommandedOpen_orderly (s : State) (l : Nat) : Orderly s (s.uncommandedOpen l) := by
  have note : Orderly s (s.notifyGate l) := (notify_orderly ..)
  unfold State.uncommandedOpen
  exact .ite (setGate_orderly ..) (.ite (note.trans (closeGate_orderly ..))
    (note.trans (setGate_orderly ..)))

end Sys2Proof.Machine
namespace Sys2Proof.Machine

-- Proofs in order: a thread that waits for another proof counts against the check's memory limit.
set_option Elab.async false

/-! ## Quotes (chapter 3) and members (chapter 4) -/

theorem setSlot_orderly (s : State) (l : Nat) (v : Slot) : Orderly s (s.setSlot l v) := setLane_orderly ..

theorem toFront_orderly (s : State) (n : Nat) : Orderly s (s.toFront n) := setRecency_orderly ..
theorem offList_orderly (s : State) (n : Nat) : Orderly s (s.offList n) := setRecency_orderly ..
theorem emptySlot_orderly (s : State) (l : Nat) : Orderly s (s.emptySlot l) := setLane_orderly ..

theorem modMember_orderly (s : State) (id : Nat) (g : Member → Member) :
    Orderly s (s.modMember id g) := by
  unfold State.modMember
  split
  · exact setMember_orderly ..
  · exact .refl

theorem releaseRef_orderly (s : State) (m : Option Nat) : Orderly s (s.releaseRef m) := by
  cases m
  · exact .refl
  · exact modMember_orderly s _ fun r => { r with refs := r.refs - 1 }

theorem spendUse_orderly (s : State) (m : Option Nat) : Orderly s (s.spendUse m) := by
  cases m
  · exact .refl
  · exact modMember_orderly s _ fun r => { r with uses := r.uses + 1, dirty := true }

theorem leaveFetch_orderly (s : State) (l : Nat) (m : Option Nat) : Orderly s (s.leaveFetch l m) := by
  unfold State.leaveFetch
  split
  · exact setFetch_orderly _ _ _ fun h => List.length_set.trans (fetch_waiting_length h _)
  · exact .refl

theorem quoteReply_orderly (s : State) (l : Nat) (r : Reply) (k : Option Nat) (price : Nat) :
    Orderly s (s.quoteReply l r k price) := toField_orderly ..

theorem refusePayment_orderly (s : State) (l : Nat) (r : Reply) : Orderly s (s.refusePayment l r) :=
  toField_orderly ..

theorem offerSlot_orderly (s : State) (l : Nat) : Orderly s (s.offerSlot l) :=
  (setSlot_orderly ..).trans (quoteReply_orderly ..)

theorem fillSlot_orderly (s : State) (l plan : Nat) (a : ServiceSet) (price : Nat) (m : Option Nat) :
    Orderly s (s.fillSlot l plan a price m) := setLane_orderly ..

theorem pendSlot_orderly (s : State) (l : Nat) : Orderly s (s.pendSlot l) :=
  (setSlot_orderly ..).trans (quoteReply_orderly ..)

theorem refusePending_orderly (s : State) (l : Nat) (r : Reply) :
    Orderly s (s.refusePending l r) :=
  (emptySlot_orderly ..).trans (quoteReply_orderly ..)

theorem letGo_orderly (s : State) (l : Nat) : Orderly s (s.letGo l) := by
  unfold State.letGo
  split
  · exact releaseRef_orderly ..
  · exact leaveFetch_orderly ..
  · exact .refl

theorem voidQuote_orderly (s : State) (l : Nat) (r : Option Reply) :
    Orderly s (s.voidQuote l r) := by
  have h : Orderly s ((s.letGo l).emptySlot l) :=
    (letGo_orderly ..).trans (emptySlot_orderly ..)
  unfold State.voidQuote
  split
  · cases r
    · exact h
    · exact h.trans (quoteReply_orderly ..)
  · exact .refl

theorem closeLane_orderly (s : State) (l : Nat) (r : Option Reply) :
    Orderly s (s.closeLane l r) := by
  unfold State.closeLane
  exact .ite ((voidQuote_orderly ..).trans (setLane_orderly ..)) .refl

theorem resolveLane_orderly (s : State) (n l tier : Nat) :
    Orderly s (s.resolveLane n l tier) := by
  unfold State.resolveLane
  split
  · exact (refusePending_orderly ..)
  · exact (setMember_orderly ..).trans (offerSlot_orderly ..)

theorem forWaiting_orderly (s : State) (w : List (Option Nat)) (g : State → Nat → Nat → State)
    (h : ∀ t a b, Orderly t (g t a b)) : Orderly s (s.forWaiting w g) := by
  refine Orderly.foldl (fun t a => ?_) _ s
  split
  · exact h ..
  · exact .refl

theorem writeBack_orderly (s : State) (m : Member) : Orderly s (s.writeBack m) := toSite_orderly ..

theorem evict_orderly (s : State) (n : Nat) : Orderly s (s.evict n) := by
  have h := (offList_orderly s n)
  unfold State.evict
  exact .ite (h.trans (writeBack_orderly ..)) h

theorem lookupHit_orderly (s : State) (n tier : Nat) : Orderly s (s.lookupHit n tier).1 := by
  have h : Orderly s (if (s.memberRec n).state = .cached then s.toFront n else s) :=
    .ite (toFront_orderly ..) .refl
  unfold State.lookupHit
  dsimp only
  split
  · exact h
  · exact h.trans (setMember_orderly ..)

theorem lookupMiss_orderly (s : State) (l id tier : Nat) :
    Orderly s (s.lookupMiss l id tier).1 := by
  unfold State.lookupMiss
  split
  · exact .refl
  · split
    · exact setFetch_orderly _ _ _ fun h => List.length_set.trans (fetch_waiting_length h _)
    · split
      · exact (setFetch_orderly _ _ _ fun _ => by simp).trans (toSite_orderly ..)
      · exact .refl

theorem lookup_orderly (s : State) (l id tier : Nat) :
    Orderly s (s.lookup l id tier).1 := by
  unfold State.lookup
  split
  · exact (lookupHit_orderly ..)
  · exact lookupMiss_orderly ..

theorem fetchFill_orderly (s : State) (n id tier limit uses : Nat) :
    Orderly s (s.fetchFill n id tier limit uses) := by
  have h := setFetch_orderly s n .blank fun _ => rfl
  unfold State.fetchFill
  dsimp only
  split
  · exact h
  · exact (((h.trans (evict_orderly ..)).trans (setMember_orderly ..)).trans
      (toFront_orderly ..)).trans
      (forWaiting_orderly _ _ _ fun t a b => resolveLane_orderly t _ a b)

theorem fetchRefuse_orderly (s : State) (n : Nat) (r : Reply) :
    Orderly s (s.fetchRefuse n r) :=
  (setFetch_orderly _ _ _ fun _ => rfl).trans
    (forWaiting_orderly _ _ _ fun t a _ => refusePending_orderly t a r)

theorem withdrawMember_orderly (s : State) (n : Nat) : Orderly s (s.withdrawMember n) := by
  unfold State.withdrawMember
  exact .ite ((setMember_orderly ..).trans (offList_orderly ..)) (setMember_orderly ..)

theorem unsolicited_orderly (s : State) (id known tier limit uses : Nat) :
    Orderly s (s.unsolicited id known tier limit uses) := by
  unfold State.unsolicited
  split
  · exact .ite (setMember_orderly ..)
      ((withdrawMember_orderly ..).trans (notify_orderly ..))
  · exact (notify_orderly ..)

theorem returnUse_orderly (s : State) (m : Option Nat) : Orderly s (s.returnUse m) := by
  unfold State.returnUse
  split
  · split
    · exact (setMember_orderly ..)
    · exact (toSite_orderly ..)
  · exact .refl

theorem loadHeld_orderly (s : State) (n tier limit uses : Nat) (pin : Bool) :
    Orderly s (s.loadHeld n tier limit uses pin) := by
  unfold State.loadHeld
  exact .ite ((setMember_orderly ..).trans (offList_orderly ..)) ((setMember_orderly ..).trans (toFront_orderly ..))

theorem loadNew_orderly (s : State) (v id tier limit uses : Nat) (pin : Bool) :
    Orderly s (s.loadNew v id tier limit uses pin) := by
  have h : ∀ m, Orderly s ((s.evict v).setMember v m) := fun m =>
    (evict_orderly ..).trans (setMember_orderly ..)
  unfold State.loadNew
  exact .ite (h _) ((h _).trans (toFront_orderly ..))

theorem loadResolve_orderly (s : State) (n id : Nat) :
    Orderly s (s.loadResolve n id) := by
  unfold State.loadResolve
  split
  · exact (setFetch_orderly _ _ _ fun _ => rfl).trans
      (forWaiting_orderly _ _ _ fun t a b => resolveLane_orderly t _ a b)
  · exact .refl

theorem load_orderly (s : State) (id tier limit uses : Nat) (pin : Bool) :
    Orderly s (s.load id tier limit uses pin).1 := by
  unfold State.load
  split
  · split
    · exact .refl
    · exact (loadHeld_orderly ..).trans (loadResolve_orderly ..)
  · split
    · exact .refl
    · split
      · exact .refl
      · exact (loadNew_orderly ..).trans (loadResolve_orderly ..)

theorem flushRecord_orderly (s : State) (n : Nat) : Orderly s (s.flushRecord n) := by
  unfold State.flushRecord
  exact .ite ((writeBack_orderly ..).trans (setMember_orderly ..)) .refl

theorem flush_orderly (s : State) : Orderly s ((List.range 32).foldl State.flushRecord s) :=
  Orderly.foldl flushRecord_orderly _ s

/-! ## Sales (chapter 3) -/

theorem quoteCash_orderly (s : State) (l plan : Nat) (a : ServiceSet) :
    Orderly s (s.quoteCash l plan a) := by
  unfold State.quoteCash
  exact .ite (quoteReply_orderly ..)
    ((fillSlot_orderly ..).trans (offerSlot_orderly ..))

theorem quoteMember_orderly (s : State) (l plan : Nat) (a : ServiceSet) (id : Nat) :
    Orderly s (s.quoteMember l plan a id) := by
  have h := (lookup_orderly s l id (s.plan plan).tier)
  unfold State.quoteMember
  dsimp only
  split
  · exact (quoteReply_orderly ..)
  · split
    · exact (h.trans (fillSlot_orderly ..)).trans (offerSlot_orderly ..)
    · exact (h.trans (fillSlot_orderly ..)).trans (pendSlot_orderly ..)
    · exact h.trans (quoteReply_orderly ..)

theorem makeOrder_orderly (s : State) (l r tag tender : Nat) :
    Orderly s (s.makeOrder l r tag tender) := by
  unfold State.makeOrder
  exact ((((((setSales_orderly _ _ (by exact rfl) (by exact rfl) (by exact rfl) (by exact rfl)).trans (setOrder_orderly ..)).trans
    (setLane_orderly ..)).trans (spendUse_orderly ..)).trans
    (releaseRef_orderly ..)).trans (emptySlot_orderly ..)).trans
    ((toField_orderly ..).trans (judgePayment_orderly ..))

theorem pay_orderly (s : State) (l tender : Nat) : Orderly s (s.pay l tender) := by
  unfold State.pay
  split
  · exact .refl
  · exact makeOrder_orderly ..

theorem voidReport_orderly (s : State) (o : Order) (reason : Nat) :
    Orderly s (s.voidReport o reason) := toSite_orderly ..

theorem freeOrder_orderly (s : State) (r : Nat) : Orderly s (s.freeOrder r) :=
  (setOrder_orderly ..).trans (setSales_orderly _ _ (by exact rfl) (by exact rfl) (by exact rfl) (by exact rfl))

theorem dequeue_orderly (s : State) (l r : Nat) : Orderly s (s.dequeue l r) := setLane_orderly ..

theorem callOff_orderly (s : State) (r reason : Nat) :
    Orderly s (s.callOff r reason) := by
  have h := (dequeue_orderly s (s.order r).lane r)
  unfold State.callOff
  exact (((Orderly.ite (h.trans (endGrant_orderly ..)) h).trans
    (returnUse_orderly ..)).trans (voidReport_orderly ..)).trans
    (freeOrder_orderly ..)

theorem voidOrder_orderly (s : State) (r reason : Nat) :
    Orderly s (s.voidOrder r reason) := by
  have h := (callOff_orderly s r reason).trans
    (judgeVoid_orderly (s.callOff r reason) (s.order r).lane)
  exact .ite (h.trans (review_orderly _)) (h.trans (judgeConveyor_orderly _))

theorem purge_orderly (s : State) (l : Nat) : Orderly s (s.purge l) :=
  Orderly.foldl (fun t r => voidOrder_orderly t r 2) _ s

theorem cascade_orderly (s : State) (svc : Nat) : Orderly s (s.cascade svc) := by
  unfold State.cascade
  exact .ite .refl ((setSales_orderly _ _ (by exact rfl) (by exact rfl) (by exact rfl) (by simp)).trans (notify_orderly ..))

/-! ## Stations (chapter 7) -/

theorem stationCmd_orderly (s : State) (i a b : Nat) : Orderly s (s.stationCmd i a b) :=
  toField_orderly ..
theorem retract_orderly (s : State) (i : Nat) : Orderly s (s.retract i) := toFieldUrgent_orderly ..
theorem setCars_orderly (s : State) (l : List Car) : Orderly s (s.setCars l) := setTrack_orderly ..
theorem credit_orderly (s : State) (tag svc : Nat) : Orderly s (s.credit tag svc) := setTrack_orderly ..

theorem release_orderly (s : State) (i : Nat) : Orderly s (s.release i) :=
  (retract_orderly ..).trans (setStation_orderly ..)

theorem endCrossing_orderly (s : State) (i tag : Nat) : Orderly s (s.endCrossing i tag) := by
  unfold State.endCrossing
  dsimp only
  split
  · split
    · exact (release_orderly ..).trans (credit_orderly ..)
    · exact (release_orderly ..)
    · exact .refl
    · exact .refl
  · exact .refl

theorem countBackoff_orderly (s : State) (i d : Nat) : Orderly s (s.countBackoff i d) := by
  unfold State.countBackoff
  exact .ite (.ite ((stationCmd_orderly ..).trans (setStation_orderly ..))
    (setStation_orderly ..)) .refl

theorem engage_orderly (s : State) (i tag pace : Nat) : Orderly s (s.engage i tag pace) :=
  (stationCmd_orderly ..).trans (setStation_orderly ..)

theorem startCrossing_orderly (s : State) (i : Nat) (m : Move) :
    Orderly s (s.startCrossing i m) := by
  unfold State.startCrossing
  dsimp only
  split
  · exact .refl
  · exact .ite (engage_orderly ..) .refl

theorem judgeStation_orderly (s : State) (i : Nat) (moves : List Move) (d : Option Nat) :
    Orderly s (s.judgeStation i moves d) := by
  have ends (l : List Move) (t : State) : Orderly t (l.foldl (fun t m => t.endCrossing i m.tag) t) :=
    Orderly.foldl (fun t m => endCrossing_orderly t i m.tag) l t
  have starts (l : List Move) (t : State) : Orderly t (l.foldl (fun t m => t.startCrossing i m) t) :=
    Orderly.foldl (fun t m => (startCrossing_orderly t i m)) l t
  unfold State.judgeStation
  cases d
  · exact .ite ((ends ..).trans (starts ..)) .refl
  · exact .ite (((ends ..).trans (countBackoff_orderly ..)).trans (starts ..)) .refl

theorem handMoves_orderly (s : State) (moves : List Move) (d : Option Nat) :
    Orderly s (s.handMoves moves d) :=
  Orderly.foldl (fun t i => judgeStation_orderly t i moves d) _ s

theorem outOfService_orderly (s : State) (i : Nat) (r : OutReason) : Orderly s (s.outOfService i r) := by
  have a : Orderly s (if Station.working (s.station i) then s.retract i else s) :=
    .ite (retract_orderly ..) .refl
  have b := fun v => a.trans (setStation_orderly _ i v)
  have c := fun v svc => (b v).trans (cascade_orderly _ svc)
  have d : ∀ v svc (p : Prop) [Decidable p], Orderly s
      (let t := (if Station.working (s.station i) then s.retract i else s).setStation i v
       if p then t.cascade svc else t) := fun v svc p _ => .ite (c v svc) (b v)
  unfold State.outOfService
  cases r
  case management => exact d ..
  all_goals exact (d ..).trans (notify_orderly ..)

theorem backOff_orderly (s : State) (i : Nat) : Orderly s (s.backOff i) := by
  have h : ∀ v, Orderly s ((s.stationCmd i 2 0).setStation i v) := fun v =>
    (stationCmd_orderly ..).trans (setStation_orderly ..)
  unfold State.backOff
  exact .ite ((h _).trans (raiseCause_orderly ..)) (h _)

theorem serviceOut_orderly (s : State) (i : Nat) : Orderly s (s.serviceOut i) :=
  (Orderly.ite (outOfService_orderly ..) .refl).trans (stationCmd_orderly ..)

theorem departStation_orderly (s : State) (i tag : Nat) :
    Orderly s (s.departStation i tag) := by
  unfold State.departStation
  exact .ite (.ite ((retract_orderly ..).trans ((setStation_orderly ..).trans
    (notify_orderly ..))) (setStation_orderly ..)) .refl

theorem depart_orderly (s : State) (tag : Nat) : Orderly s (s.depart tag) :=
  Orderly.foldl (fun t i => departStation_orderly t i tag) _ s

theorem haltRetract_orderly (s : State) : Orderly s s.haltRetract :=
  Orderly.foldl release_orderly _ s

theorem resumeStation_orderly (s : State) (i : Nat) : Orderly s (s.resumeStation i) := by
  unfold State.resumeStation
  dsimp only
  split
  · split
    · exact engage_orderly ..
    · exact .refl
  · exact .refl

theorem resumeStations_orderly (s : State) : Orderly s s.resumeStations :=
  Orderly.foldl resumeStation_orderly _ s

/-! ## Halt (chapter 8) -/

theorem enterMode_orderly (s : State) (m : Mode) : Orderly s (s.enterMode m) := by
  have mode : Orderly s (s.setHalt { s.halt with mode := m, permit := m == .armed }) := setHalt_kept_orderly _ _ rfl
  unfold State.enterMode
  exact (Orderly.ite (mode.trans (setTrack_orderly ..)) mode).trans (sweep_orderly _)

theorem broadcast_orderly (s : State) : Orderly s s.broadcast := offerUrgent_orderly s .f _
theorem haltConveyor_orderly (s : State) : Orderly s s.haltConveyor := setTrack_orderly ..
theorem flagCars_orderly (s : State) : Orderly s s.flagCars := setTrack_orderly ..

theorem endWait_orderly (s : State) : Orderly s s.endWait := by
  unfold State.endWait
  exact .ite (((setHalt_kept_orderly _ _ (by exact rfl)).trans (enterMode_orderly ..)).trans
    (notify_orderly ..)) .refl

/-- Halt entry, steps 1 to 3: the cause first, the mode HALTING, the broadcast and its timer (R166). -/
def State.haltCalled (s : State) (k : CauseKind) (d : CauseDetail) : State :=
  let t := ((s.setHalt { Halt.latch s.halt k d with first := some (k, d), hold := none }).enterMode .halting).broadcast
  t.setHalt { t.halt with bcast := loaded (t.param .bcastEvery) }

/-- Halt entry, steps 4 to 7: the conveyor, the stations, the gates and the cars (R166). -/
def State.haltStopped (s : State) (k : CauseKind) (d : CauseDetail) : State :=
  (s.haltCalled k d).driveStop.haltConveyor.haltRetract.withdraw.closeOpenGates.flagCars

/-- Halt entry as it waits for its confirmation (R167). -/
def State.haltAwaiting (s : State) (k : CauseKind) (d : CauseDetail) : State :=
  let t := s.haltStopped k d
  t.setHalt { t.halt with
    awaitDrive := s.track.conveyor != .stopped, awaitStations := s.busyStations,
    haltWait := loaded (t.param .haltWait) }

theorem haltEntry_eq (s : State) (k : CauseKind) (d : CauseDetail) :
    s.haltEntry k d = ((s.haltAwaiting k d).notifyHalt (some .halting) (some k)).endWait := by
  simp only [State.haltEntry, State.haltAwaiting, State.haltStopped, State.haltCalled]

theorem haltCalled_orderly (s : State) (k : CauseKind) (d : CauseDetail) : Orderly s (s.haltCalled k d) := by
  unfold State.haltCalled
  exact (((setHalt_orderly _ _ (by exact List.length_set)).trans (enterMode_orderly ..)).trans (broadcast_orderly _)).trans
    (setHalt_kept_orderly _ _ (by dsimp only))

theorem haltStopped_orderly (s : State) (k : CauseKind) (d : CauseDetail) : Orderly s (s.haltStopped k d) :=
  ((((((haltCalled_orderly s k d).trans (driveStop_orderly _)).trans (haltConveyor_orderly _)).trans
    (haltRetract_orderly _)).trans (withdraw_orderly _)).trans (closeOpenGates_orderly _)).trans (flagCars_orderly _)

theorem haltEntry_orderly (s : State) (k : CauseKind) (d : CauseDetail) : Orderly s (s.haltEntry k d) := by
  have awaiting : Orderly s (s.haltAwaiting k d) := by
    unfold State.haltAwaiting
    exact (haltStopped_orderly s k d).trans (setHalt_kept_orderly _ _ (by dsimp only))
  rw [haltEntry_eq]
  exact (awaiting.trans (notify_orderly ..)).trans (endWait_orderly _)

theorem takeCause_orderly (s : State) (k : CauseKind) (d : CauseDetail) : Orderly s (s.takeCause k d) := by
  have join : Orderly s ((s.setHalt (Halt.latch s.halt k d)).notifyHalt none (some k)) :=
    (setHalt_orderly _ _ (by exact List.length_set)).trans (notify_orderly ..)
  unfold State.takeCause
  split
  · exact haltEntry_orderly ..
  · exact haltEntry_orderly ..
  · exact join
  · exact join
  · exact join

theorem lineAsserted_orderly (s : State) : Orderly s s.lineAsserted := by
  unfold State.lineAsserted
  exact .ite .refl ((setHalt_kept_orderly _ _ (by exact rfl)).trans (takeCause_orderly ..))

theorem confirmDrive_orderly (s : State) : Orderly s s.confirmDrive := by
  unfold State.confirmDrive
  exact .ite (((setHalt_kept_orderly _ _ (by exact rfl)).trans (conveyorStopped_orderly _)).trans
    (endWait_orderly _)) .refl

theorem confirmStation_orderly (s : State) (i : Nat) :
    Orderly s (s.confirmStation i) := by
  unfold State.confirmStation
  exact .ite ((setHalt_kept_orderly _ _ (by exact rfl)).trans (endWait_orderly _)) .refl

theorem retractedReport_orderly (s : State) (i : Nat) :
    Orderly s (s.retractedReport i) :=
  (Orderly.ite (setStation_orderly ..) .refl).trans (confirmStation_orderly ..)

theorem engagedReport_orderly (s : State) (i : Nat) :
    Orderly s (s.engagedReport i) := by
  unfold State.engagedReport
  exact .ite ((notify_orderly ..).trans ((retract_orderly ..).trans
    (setStation_orderly ..))) .refl

theorem recover_orderly (s : State) : Orderly s s.recover := by
  unfold State.recover
  exact ((((enterMode_orderly ..).trans
    (offerUrgent_orderly _ .f _)).trans (setHalt_kept_orderly _ _ (by exact rfl))).trans
    (closeOpenGates_orderly _)).trans (notify_orderly ..)

/-! ## Entry and Tracking (chapters 5 and 6) -/

theorem insertCar_orderly (s : State) (c : Car) : Orderly s (s.insertCar c) := setTrack_orderly ..

theorem bindCar_orderly (s : State) (l r : Nat) : Orderly s (s.bindCar l r) := by
  unfold State.bindCar
  exact (((((insertCar_orderly ..).trans (setOrder_orderly ..)).trans
    (dequeue_orderly ..)).trans (endGrant_orderly ..)).trans
    (stageOnBinding_orderly ..)).trans (review_orderly _)

theorem unannouncedCar_orderly (s : State) : Orderly s s.unannouncedCar := by
  unfold State.unannouncedCar
  exact (((insertCar_orderly ..).trans (notify_orderly ..)).trans
    (handStart_orderly _)).trans (judgeConveyor_orderly _)

theorem createCar_orderly (s : State) : Orderly s s.createCar := by
  unfold State.createCar
  split
  · exact bindCar_orderly ..
  · exact unannouncedCar_orderly _

theorem frontEdge_orderly (s : State) (src : Nat) : Orderly s (s.frontEdge src) := by
  have crush (c : Car) : Orderly s (s.entryCrush src c) :=
    (raiseCause_orderly ..)
  have create (t : State) : Orderly t t.createCar := (createCar_orderly _)
  unfold State.frontEdge
  split
  · exact (raiseCause_orderly ..).trans (notify_orderly ..)
  · split
    · exact create _
    · exact .ite (crush _) (.ite ((crush _).trans (create _)) (create _))

theorem moveCars_orderly (s : State) (d : Nat) : Orderly s (s.moveCars d) := setTrack_orderly ..

theorem takeEarly_orderly (s : State) (l : List (CauseKind × CauseDetail)) (e : Option Nat) :
    Orderly s (s.takeEarly l e) := by
  unfold State.takeEarly
  split
  · exact (setRaised_orderly ..).trans (takeCause_orderly ..)
  · exact .refl

theorem applyStep_orderly (s : State) (d : Nat) (e : Option Nat) : Orderly s (s.applyStep d e) := by
  unfold State.applyStep
  exact ((((moveCars_orderly ..).trans (setCars_orderly ..)).trans
    (setRaised_orderly ..)).trans (takeEarly_orderly ..)).trans
    ((handMoves_orderly ..).trans (review_orderly _))

theorem strayRear_orderly (s : State) : Orderly s s.strayRear := by
  unfold State.strayRear
  exact .ite .refl (notify_orderly ..)

theorem measure_orderly (s : State) (c : Car) : Orderly s (s.measure c) := by
  have h : ∀ c, Orderly s (s.setTail c) := fun c => (setTrack_orderly ..)
  unfold State.measure
  exact .ite ((h _).trans (raiseCause_orderly ..)) (h _)

theorem rearEdge_orderly (s : State) : Orderly s s.rearEdge := by
  unfold State.rearEdge
  split
  · exact .ite (measure_orderly ..) (strayRear_orderly _)
  · exact strayRear_orderly _

theorem judgeRoller_orderly (s : State) (r : Bool) : Orderly s (s.judgeRoller r) := by
  unfold State.judgeRoller
  split
  · split
    · exact (setCars_orderly ..)
    · exact (notify_orderly ..)
  · exact .refl

theorem nearMiss_orderly (s : State) (j k : Nat) (e : Int) (c : Car) :
    Orderly s (s.nearMiss j k e c) := by
  unfold State.nearMiss
  exact .ite ((setCars_orderly ..).trans (notify_orderly ..)) .refl

theorem correct_orderly (s : State) (j k pos : Nat) (c : Car) : Orderly s (s.correct j k pos c) := by
  have h := (nearMiss_orderly s j k (sightingError pos c) c)
  unfold State.correct
  dsimp only
  split
  · exact h.trans (raiseCause_orderly ..)
  · exact .ite h ((h.trans (setCars_orderly ..)).trans (handMoves_orderly ..))

theorem trackFault_orderly (s : State) (src k : Nat) (car : Option Nat) :
    Orderly s (s.trackFault src k car) := raiseCause_orderly ..

theorem sighting_orderly (s : State) (src k pos : Nat) : Orderly s (s.sighting src k pos) := by
  unfold State.sighting
  split
  · exact (trackFault_orderly ..)
  · split
    · exact .refl
    · exact (Orderly.ite (correct_orderly ..) (trackFault_orderly ..)).trans
        (setCars_orderly ..)

theorem judgeExit_orderly (s : State) (src : Nat) : Orderly s (s.judgeExit src) := by
  unfold State.judgeExit
  split
  · exact (trackFault_orderly ..)
  · exact .ite (trackFault_orderly ..) (.ite (notify_orderly ..)
      ((correct_orderly ..).trans (setCars_orderly ..)))

theorem freeBound_orderly (s : State) (tag : Option Nat) : Orderly s (s.freeBound tag) := by
  unfold State.freeBound
  split
  · exact freeOrder_orderly ..
  · exact .refl

theorem leave_orderly (s : State) (c : Car) (removed : Bool) :
    Orderly s (s.leave c removed) := by
  unfold State.leave
  exact ((((depart_orderly ..).trans (toSite_orderly ..)).trans
    (setCars_orderly ..)).trans (freeBound_orderly ..)).trans
    (review_orderly _)

theorem recordReport_orderly (s : State) (r : DriveReport) (l : Nat) (b : Bool) :
    Orderly s (s.recordReport r l b) := setTrack_orderly ..

theorem runningReport_orderly (s : State) : Orderly s s.runningReport := by
  unfold State.runningReport
  split
  · exact .ite ((notify_orderly ..).trans (stopConveyor_orderly _)) .refl
  · exact (setTrack_orderly ..).trans
      ((judgeSpeed_orderly _).trans (review_orderly _))
  · exact .refl
  · exact .refl

theorem ownStop_orderly (s : State) : Orderly s s.ownStop := by
  have h : ∀ v, Orderly s ((s.setTrack v).notifyTrack 6 none none) := fun v =>
    (setTrack_orderly ..).trans (notify_orderly ..)
  unfold State.ownStop
  exact .ite (h _) ((h _).trans (takeStart_orderly _))

theorem stoppedReport_orderly (s : State) : Orderly s s.stoppedReport := by
  unfold State.stoppedReport
  split
  · exact .refl
  · exact .refl
  · exact ownStop_orderly _
  · exact conveyorStopped_orderly _

/-! ## The Node Table (chapter 2) -/

theorem countRefusal_orderly (s : State) (a : Nat) (e : NodeError) :
    Orderly s (s.countRefusal a e) :=
  (setNode_orderly s a _ (by exact rfl)).trans (notify_orderly ..)

theorem noteGap_orderly (s : State) (a : Nat) (r : NodeRecord) (f : Frame) :
    Orderly s (s.noteGap a r f) := by
  have h := fun arg => notify_orderly s .node { reason 7 with node := some a, arg := arg }
  unfold State.noteGap
  exact .ite (.ite ((h _).trans (raiseCause_orderly ..)) (h _)) .refl

theorem noteLive_orderly (s : State) (a : Nat) (r : NodeRecord) : Orderly s (s.noteLive a r) := by
  have h := notify_orderly s .node { reason 9 with node := some a, arg := none }
  unfold State.noteLive
  exact .ite (.ite (h.trans (review_orderly _)) h) .refl

theorem hear_orderly (s : State) (f : Frame) : Orderly s (s.hear f) :=
  ((setNode_orderly s f.src.toNat _ (by exact rfl)).trans (noteGap_orderly ..)).trans
    (noteLive_orderly ..)

theorem deliver_orderly (s : State) (f : Frame) : Orderly s (s.deliver f) := by
  unfold State.deliver
  split
  · exact (setHanded_orderly ..)
  · exact (countRefusal_orderly ..)

theorem copyOn_orderly (s : State) (f : Frame) : Orderly s (s.copyOn f) := by
  unfold State.copyOn
  exact .ite (offerNormal_orderly s .s _) .refl

theorem route_orderly (s : State) (p : PortId) (f : Frame) :
    Orderly s (s.route p f) := by
  unfold State.route
  split
  · exact (copyOn_orderly ..).trans (deliver_orderly ..)
  · cases p
    · exact (setHanded_orderly ..)
    · exact (offerNormal_orderly s .s _)

theorem judgeFrame_orderly (s : State) (p : PortId) (f : Frame) :
    Orderly s (s.judgeFrame p f) := by
  unfold State.judgeFrame
  split
  · exact (countRefusal_orderly ..)
  · exact (hear_orderly ..).trans (route_orderly ..)

theorem silenceEffect_orderly (s : State) (a : Nat) (r : NodeRecord) :
    Orderly s (s.silenceEffect a r) := by
  have raise (k d) : Orderly s (s.raiseCause k d) := (raiseCause_orderly ..)
  have close (x) : Orderly s (s.closeLane r.lane x) := (closeLane_orderly ..)
  unfold State.silenceEffect
  split
  · exact raise ..
  · exact (outOfService_orderly ..)
  · exact close _
  · exact close _
  · exact .ite (raise ..) .refl

/-! ## Arming (section 8.6) and Management (chapter 9) -/

theorem openPresent_orderly (s : State) (l : Nat) : Orderly s (s.openPresent l) := by
  unfold State.openPresent
  exact .ite (setLane_orderly ..) .refl

theorem arm_orderly (s : State) : Orderly s s.arm := by
  have opens (t : State) : Orderly t ([0, 1, 2].foldl State.openPresent t) :=
    (Orderly.foldl openPresent_orderly _ t)
  unfold State.arm
  exact ((((setTrack_orderly ..).trans (opens _)).trans (enterMode_orderly ..)).trans
    (notify_orderly ..)).trans (review_orderly _)

theorem disarm_orderly (s : State) :
    Orderly s s.disarm := by
  have closes (t : State) : Orderly t
      ([0, 1, 2].foldl (fun t l => t.closeLane l (some .tunnelOffline)) t) :=
    Orderly.foldl (fun t l => closeLane_orderly t l _) _ t
  unfold State.disarm
  exact ((((enterMode_orderly ..).trans (closes _)).trans
    (withdraw_orderly _)).trans (closeOpenGates_orderly _)).trans
    (notify_orderly ..)

theorem writeStation_orderly (s : State) (i : Nat) (b : Nat → Byte) :
    Orderly s (s.writeStation i b) := by
  have h := fun v => (setStation_orderly s i v)
  unfold State.writeStation
  exact .ite ((h _).trans (cascade_orderly ..)) (h _)

theorem finishWrite_orderly (s : State) (seq : Byte) (t i : Nat) (v : Verdict) (w : State)
    (hw : Orderly s w) : Orderly s (s.finishWrite seq t i v w) := by
  unfold State.finishWrite
  split
  · exact hw.trans (reply_orderly ..)
  · exact (reply_orderly ..)
  · exact (reply_orderly ..)

theorem writing_orderly (s : State) (seq : Byte) (args : List Byte) (len size : Nat)
    (g : Nat → (Nat → Byte) → State) (hg : ∀ i b, Orderly s (g i b)) :
    Orderly s (s.writing seq args len size g) := by
  have bad := fun st d => (reply_orderly s seq 2 st d)
  unfold State.writing
  split
  · exact .ite (bad ..) (.ite (bad ..) (hg ..))
  · exact bad ..

end Sys2Proof.Machine
end

section
/-!
What every command keeps of the ports, of ATTN and of the tables, and the obligations O58 and O59.
-/
namespace Sys2Proof.Machine

-- Proofs in order: a thread that waits for another proof counts against the check's memory limit.
set_option Elab.async false

theorem running_orderly {s : State} {g : State → State} (h : Orderly s (g s)) : Answers (Orderly s) (running s g) :=
  running_answers .refl h

theorem whenDue_orderly {d : Bool} {s : State} {g : State → State} (h : Orderly s (g s)) :
    Answers (Orderly s) (whenDue d s g) := whenDue_answers .refl fun _ => h

theorem taking_orderly {c : Instr} {s : State} {g : State → State} (h : ∀ t, Orderly t (g t)) :
    Answers (Orderly s) (taking c s g) := taking_answers .refl ((setHanded_orderly ..).trans (h _))

/-- Taking a frame off an inbound queue (R13). -/
theorem takeFrame_orderly {s : State} {p : PortId} {f : InFrame} {rest : List InFrame} (h : (s.port p).inq = f :: rest) :
    Orderly s (s.setPort p { s.port p with inq := rest }) := by
  refine setPort_orderly _ _ _ (fun ⟨⟨h1, h2, h3, h4, h5, h6, h7⟩, hc, ht⟩ => ⟨⟨?_, ?_, h3, h4, h5, h6, h7⟩, hc, ht⟩) id
  · rw [h, List.length_cons] at h1
    exact Nat.le_of_succ_le h1
  · rw [h, List.countP_cons] at h2
    exact Nat.le_trans (Nat.le_add_right ..) h2

/-- A tick takes no part in the order: it leaves the ports, and the tables keep their sizes and roles (R1). -/
theorem tick_orderly (s : State) : Orderly s s.tick := by
  refine ⟨id, id, fun h => { h with
    nodes := (List.length_map _).trans h.nodes, lanes := (List.length_map _).trans h.lanes,
    fetches := (List.length_map _).trans h.fetches, waiting := ?_ }, fun a => ?_, rfl⟩
  · intro f hf
    obtain ⟨g, hg, rfl⟩ := List.mem_map.mp hf
    exact h.waiting g hg
  · have hrole (r : NodeRecord) : (s.tickNode r).role = r.role := by
      unfold State.tickNode
      (repeat' split) <;> rfl
    rw [State.node, State.node, List.getD_eq_getElem?_getD, List.getD_eq_getElem?_getD]
    have hnodes : s.tick.nodes = s.nodes.map s.tickNode := rfl
    rw [hnodes, List.getElem?_map]
    cases s.nodes[a]? with
    | none => rfl
    | some r => exact hrole r

/-- Management set with its parameters kept, the classes' number kept and ATTN judged again (R186). -/
theorem setMgmt_orderly (s : State) (v : Mgmt) (notices : v.notices.length = s.mgmt.notices.length)
    (params : v.params = s.mgmt.params) (attn : v.attn = v.notices.any fun r => r.pending && r.enabled) :
    Orderly s (s.setMgmt v) :=
  ⟨id, fun _ => attn, fun h => { h with
    notices := notices.trans h.notices, params := (congrArg _ params).trans h.params }, fun _ => rfl, params⟩

theorem takeEstop_orderly (s : State) (estop : Bool) : Orderly s (s.takeEstop estop) :=
  .ite (lineAsserted_orderly s) .refl

/-- The end of a line reset keeps the order it finds (R2). -/
theorem endReset_orderly (s : State) : Orderly s s.endReset := by
  have start (m : Mgmt) (b : Bool) (hn : m.notices = s.mgmt.notices) (hp : m.params = s.mgmt.params)
      (ha : m.attn = s.mgmt.attn) : Orderly s { s with mgmt := m, inReset := b } := by
    refine ⟨id, fun h => ?_, fun h => { h with
      params := (congrArg _ hp).trans h.params, notices := (congrArg _ hn).trans h.notices }, fun _ => rfl, hp⟩
    exact ha.trans (h.trans (by rw [hn]))
  exact (start { s.mgmt with lastReset := .line } false rfl rfl rfl).trans (offerUrgent_orderly ..)

theorem execLineResetEnd_orderly (estop : Bool) (s : State) : Answers (Orderly s) (execLineResetEnd estop s) :=
  .next (.ite ((endReset_orderly s).trans (takeEstop_orderly ..)) .refl)

/-- A judged write of a table, where the written state keeps order. -/
theorem taking_write_orderly {c : Instr} {s : State} {seq : Byte} {args : List Byte} {len size table : Nat}
    {v : State → Nat → (Nat → Byte) → Verdict} {w : State → Nat → (Nat → Byte) → State}
    (hw : ∀ t i b, Orderly t (w t i b)) :
    Answers (Orderly s) (taking c s fun s => s.writing seq args len size fun i b =>
      s.finishWrite seq table i (v s i b) (w s i b)) :=
  taking_orderly fun t => writing_orderly _ _ _ _ _ _ fun i b => finishWrite_orderly _ _ _ _ _ _ (hw t i b)

theorem execReceiveByte_orderly (p : PortId) (b : Byte) (s : State) :
    Answers (Orderly s) (execReceiveByte p b s) :=
  running_orderly ((countHalt_orderly s p b).trans (receive_orderly ..))

theorem execTransmitEnd_orderly (p : PortId) (s : State) :
    Answers (Orderly s) (execTransmitEnd p s) := running_orderly (endTransmission_orderly s p)

theorem execNodeFrameTake_orderly (p : PortId) (s : State) :
    Answers (Orderly s) (execNodeFrameTake p s) := by
  refine running_orderly ?_
  split
  · exact .refl
  next f rest hq =>
    have taken : Orderly s (s.setPort p { s.port p with inq := rest }) := takeFrame_orderly hq
    exact .ite .refl ((taken.trans
      (judgeResume_orderly ..)).trans (judgeFrame_orderly ..))

theorem execSiteFieldFrame_orderly (f : Frame) (s : State) :
    Answers (Orderly s) (execSiteFieldFrame f s) :=
  taking_orderly fun t =>
    .ite (offerNormal_orderly t .f _) (countBlocked_orderly t)

theorem execPortReset_orderly (seq : Byte) (args : List Byte) (s : State) :
    Answers (Orderly s) (execPortReset seq args s) := by
  refine taking_orderly fun t => ?_
  have answer := reply_orderly
  split
  · exact answer ..
  · split
    · exact answer ..
    · rename_i p _
      exact .ite ((restartPort_orderly t p).trans (answer ..)) (answer ..)

/-! ### Reports of the field -/

theorem execStep_orderly (src : Nat) (delta : Byte) (early : Option Nat) (s : State) :
    Answers (Orderly s) (execStep src delta early s) :=
  taking_orderly fun t => .ite .refl (.ite
    ((raiseCause_orderly ..).trans (notify_orderly ..))
    (applyStep_orderly t _ early))

theorem execEntryEyeBlocked_orderly (src : Nat) (s : State) :
    Answers (Orderly s) (execEntryEyeBlocked src s) :=
  taking_orderly fun t => .ite (notify_orderly ..) (.ite
    ((setMerge_orderly _ _ (by exact rfl)).trans (notify_orderly ..))
    ((setMerge_orderly _ _ (by exact rfl)).trans (frontEdge_orderly _ src)))

theorem execEntryEyeClear_orderly (src : Nat) (s : State) :
    Answers (Orderly s) (execEntryEyeClear src s) :=
  taking_orderly fun t => ((setMerge_orderly t _ (by exact rfl)).trans
    (rearEdge_orderly _)).trans (review_orderly _)

theorem execMergeEyeBlocked_orderly (lane : Nat) (s : State) :
    Answers (Orderly s) (execMergeEyeBlocked lane s) := by
  refine taking_orderly fun t => ?_
  have eye (v : LaneMerge) : Orderly t (t.setMergeLane lane v) :=
    setMergeLane_orderly ..
  dsimp only
  split
  · exact (eye _).trans (markUnpaid_orderly ..)
  · exact .ite ((eye _).trans ((stage_orderly ..).trans (review_orderly _))) (eye _)

theorem execMergeEyeClear_orderly (lane : Nat) (s : State) :
    Answers (Orderly s) (execMergeEyeClear lane s) := by
  refine taking_orderly fun t => ?_
  have eye (v : LaneMerge) : Orderly t (t.setMergeLane lane v) :=
    setMergeLane_orderly ..
  dsimp only
  split
  · exact eye _
  · exact .ite ((eye _).trans ((setOrderState_orderly ..).trans
      (judgeConveyor_orderly _))) (eye _)

theorem execCheckEyeEdge_orderly (src : Nat) (blocked : Bool) (s : State) :
    Answers (Orderly s) (execCheckEyeEdge src blocked s) := by
  refine taking_orderly fun t => .ite .refl ?_
  split
  · exact .refl
  · exact sighting_orderly ..

theorem execExitEyeBlocked_orderly (src : Nat) (s : State) :
    Answers (Orderly s) (execExitEyeBlocked src s) :=
  taking_orderly fun _ => .ite (setTrack_orderly ..)
    ((setTrack_orderly ..).trans (judgeExit_orderly _ src))

theorem execExitEyeClear_orderly (src : Nat) (s : State) :
    Answers (Orderly s) (execExitEyeClear src s) := by
  refine taking_orderly fun t => ?_
  have eye (v : Track) : Orderly t (t.setTrack v) :=
    setTrack_orderly ..
  dsimp only
  split
  · exact (eye _).trans (leave_orderly ..)
  · exact .ite (eye _) ((eye _).trans (notify_orderly ..))

theorem execWheelSwitchEdge_orderly (src : Nat) (blocked : Bool) (s : State) :
    Answers (Orderly s) (execWheelSwitchEdge src blocked s) := by
  refine taking_orderly fun t => .ite .refl ?_
  have ignored (tag : Option Nat) : Orderly t (t.ignoreWheel tag) :=
    notify_orderly ..
  split
  · exact ignored _
  · exact .ite ((setCars_orderly ..).trans (driveCmd_orderly ..)) (ignored _)

theorem execGateState_orderly (lane : Nat) (isOpen : Bool) (s : State) :
    Answers (Orderly s) (execGateState lane isOpen s) := by
  refine taking_orderly fun t => ?_
  have gate (u : State) (g : Gate) : Orderly u (u.setGate lane g) :=
    setGate_orderly ..
  split
  · exact uncommandedOpen_orderly ..
  · exact gate ..
  · exact .refl
  · exact .refl
  · exact .refl
  · exact .refl
  · exact (notify_orderly ..).trans (gate ..)
  · exact gate ..

theorem execQuote_orderly (lane plan : Nat) (addons : ServiceSet) (member : Nat) (s : State) :
    Answers (Orderly s) (execQuote lane plan addons member s) := by
  refine taking_orderly fun t => ?_
  have answer (u : State) (r : Reply) : Orderly u
      (u.quoteReply lane r none 0) := quoteReply_orderly ..
  have void : Orderly t (t.voidQuote lane none) :=
    voidQuote_orderly ..
  refine .ite (answer ..) (.ite (answer ..) ?_)
  dsimp only
  split
  · exact void.trans (answer ..)
  · exact void.trans (.ite (quoteCash_orderly ..) (quoteMember_orderly ..))

theorem execPaid_orderly (lane token tender : Nat) (s : State) :
    Answers (Orderly s) (execPaid lane token tender s) := by
  refine taking_orderly fun t => ?_
  have refuse (u : State) (r : Reply) : Orderly u (u.refusePayment lane r) :=
    refusePayment_orderly ..
  have void : Orderly t (t.voidQuote lane none) :=
    voidQuote_orderly ..
  exact .ite (refuse ..) (.ite (refuse ..) (.ite (void.trans (refuse ..)) (.ite (void.trans (refuse ..))
    (pay_orderly ..))))

theorem execCancel_orderly (lane token : Nat) (s : State) :
    Answers (Orderly s) (execCancel lane token s) :=
  taking_orderly fun _ => .ite (voidQuote_orderly ..) .refl

theorem execActState_orderly (station : Nat) (report : ActReport) (s : State) :
    Answers (Orderly s)
      (execActState station report s) := by
  refine taking_orderly fun t => .ite ?_ .refl
  cases report
  · exact engagedReport_orderly ..
  · exact retractedReport_orderly ..
  · exact retractedReport_orderly ..

theorem execActStateFault_orderly (station : Nat) (s : State) :
    Answers (Orderly s) (execActStateFault station s) :=
  taking_orderly fun _ => .ite (outOfService_orderly ..) .refl

theorem execCurrent_orderly (station value : Nat) (s : State) :
    Answers (Orderly s) (execCurrent station value s) := by
  refine taking_orderly fun t => .ite ?_ .refl
  have taken (v : Station) : Orderly t (t.setStation station v) :=
    setStation_orderly ..
  exact .ite ((taken _).trans (backOff_orderly ..))
    (.ite ((taken _).trans (outOfService_orderly ..)) (taken _))

theorem execDriveState_orderly (src : Nat) (report : DriveReport) (level : Nat) (roller : Bool) (s : State) :
    Answers (Orderly s) (execDriveState src report level roller s) := by
  refine taking_orderly fun t => ?_
  have recorded : Orderly t
      ((t.judgeRoller roller).recordReport report level roller) :=
    (judgeRoller_orderly ..).trans (recordReport_orderly ..)
  cases report
  · exact recorded.trans (runningReport_orderly _)
  · exact recorded.trans (stoppedReport_orderly _)
  · exact recorded.trans (raiseCause_orderly ..)

theorem execHaltDriveConfirm_orderly (src : Nat) (report : DriveReport) (s : State) :
    Answers (Orderly s) (execHaltDriveConfirm src report s) := by
  refine taking_orderly fun t => ?_
  cases report
  · exact .refl
  · exact confirmDrive_orderly t
  · exact .refl

theorem execStopActive_orderly (src : Nat) (s : State) :
    Answers (Orderly s) (execStopActive src s) :=
  taking_orderly fun _ => (setHalt_kept_orderly _ _ (by exact rfl)).trans (takeCause_orderly ..)

theorem execStopReleased_orderly (src : Nat) (s : State) :
    Answers (Orderly s) (execStopReleased src s) :=
  taking_orderly fun _ => setHalt_kept_orderly _ _ (by exact rfl)

theorem execMemberData_orderly (id known tier limit uses : Nat) (s : State) :
    Answers (Orderly s)
      (execMemberData id known tier limit uses s) := by
  refine taking_orderly fun t => .ite (notify_orderly ..) ?_
  split
  · exact .ite (fetchFill_orderly ..) (fetchRefuse_orderly ..)
  · exact unsolicited_orderly ..

/-! ### Requests of the site computer -/

theorem execReadEntry_orderly (seq : Byte) (args : List Byte) (s : State) :
    Answers (Orderly s) (execReadEntry seq args s) := by
  refine taking_orderly fun t => ?_
  have answer := reply_orderly
  split
  · split
    · exact answer ..
    · exact .ite (answer ..) (answer ..)
  · exact answer ..

theorem execWriteEntry_orderly (seq : Byte) (args : List Byte) (s : State) :
    Answers (Orderly s) (execWriteEntry seq args s) := by
  refine taking_orderly fun t => ?_
  split
  · exact reply_orderly ..
  · exact reply_orderly ..

theorem execWriteStationEntry_orderly (seq : Byte) (args : List Byte) (s : State) :
    Answers (Orderly s) (execWriteStationEntry seq args s) :=
  taking_write_orderly fun _ _ _ => writeStation_orderly ..

theorem execWritePlanEntry_orderly (seq : Byte) (args : List Byte) (s : State) :
    Answers (Orderly s) (execWritePlanEntry seq args s) :=
  taking_write_orderly fun _ _ _ => setSales_orderly _ _ rfl (by exact List.length_set) rfl rfl

theorem execWriteServiceEntry_orderly (seq : Byte) (args : List Byte) (s : State) :
    Answers (Orderly s) (execWriteServiceEntry seq args s) :=
  taking_write_orderly fun _ _ _ => setSales_orderly _ _ (by exact List.length_set) rfl rfl rfl

theorem execArm_orderly (seq : Byte) (args : List Byte) (s : State) :
    Answers (Orderly s) (execArm seq args s) := by
  refine taking_orderly fun t => ?_
  have answer := reply_orderly
  refine .ite (answer ..) (.ite (answer ..) ?_)
  split
  · exact answer ..
  · exact (arm_orderly t).trans (answer ..)

theorem execDisarm_orderly (seq : Byte) (args : List Byte) (s : State) :
    Answers (Orderly s)
      (execDisarm seq args s) := by
  refine taking_orderly fun t => ?_
  have answer := reply_orderly
  exact .ite (answer ..) (.ite (answer ..) ((disarm_orderly t).trans (answer ..)))

theorem execRelease_orderly (seq : Byte) (args : List Byte) (s : State) :
    Answers (Orderly s) (execRelease seq args s) := by
  refine taking_orderly fun t => ?_
  have answer := reply_orderly
  exact .ite (answer ..) (.ite (answer ..) ((recover_orderly t).trans (answer ..)))

theorem execForceHalt_orderly (seq : Byte) (args : List Byte) (s : State) :
    Answers (Orderly s) (execForceHalt seq args s) :=
  taking_orderly fun _ => (takeCause_orderly ..).trans (reply_orderly ..)

theorem execClearCause_orderly (seq : Byte) (args : List Byte) (s : State) :
    Answers (Orderly s) (execClearCause seq args s) := by
  refine taking_orderly fun t => ?_
  have answer := reply_orderly
  split
  · exact answer ..
  · split
    · exact answer ..
    · exact .ite (answer ..) (.ite (answer ..) ((setHalt_kept_orderly _ _ (by exact rfl)).trans (answer ..)))

theorem execLaneOpen_orderly (seq : Byte) (args : List Byte) (s : State) :
    Answers (Orderly s) (execLaneOpen seq args s) := by
  refine taking_orderly fun t => ?_
  have answer := reply_orderly
  split
  · exact answer ..
  · exact .ite (answer ..) (.ite (answer ..) (.ite (answer ..) (.ite (answer ..)
      ((setLane_orderly ..).trans (answer ..)))))

theorem execLaneClose_orderly (seq : Byte) (args : List Byte) (s : State) :
    Answers (Orderly s) (execLaneClose seq args s) := by
  refine taking_orderly fun t => ?_
  have answer := reply_orderly
  have close (l : Nat) : Orderly t (t.closeLane l (some .laneClosed)) :=
    closeLane_orderly ..
  split
  · exact .ite (answer ..) (.ite (answer ..)
      (.trans (.ite ((close _).trans (purge_orderly ..)) (close _)) (answer ..)))
  · exact answer ..

theorem execCancelOrder_orderly (seq : Byte) (args : List Byte) (s : State) :
    Answers (Orderly s) (execCancelOrder seq args s) := by
  refine taking_orderly fun t => ?_
  have answer := reply_orderly
  split
  · exact answer ..
  · split
    · exact answer ..
    · exact .ite (answer ..) ((voidOrder_orderly ..).trans (answer ..))

theorem execStationService_orderly (seq : Byte) (args : List Byte) (s : State) :
    Answers (Orderly s) (execStationService seq args s) := by
  refine taking_orderly fun t => ?_
  have answer := reply_orderly
  split
  · exact .ite (answer ..) (.ite (answer ..) (.ite (answer ..) (.ite
      ((serviceOut_orderly ..).trans (answer ..)) (.ite (answer ..)
        ((setStation_orderly ..).trans (answer ..))))))
  · exact answer ..

theorem execRemoveCar_orderly (seq : Byte) (args : List Byte) (s : State) :
    Answers (Orderly s) (execRemoveCar seq args s) := by
  refine taking_orderly fun t => ?_
  have answer := reply_orderly
  split
  · exact answer ..
  · refine .ite (answer ..) ?_
    split
    · exact answer ..
    · exact (leave_orderly ..).trans (answer ..)

theorem execMemberLoad_orderly (seq : Byte) (args : List Byte) (s : State) :
    Answers (Orderly s) (execMemberLoad seq args s) := by
  refine taking_orderly fun t => ?_
  have answer := reply_orderly
  split
  · exact .ite (answer ..) ((load_orderly ..).trans (answer ..))
  · exact answer ..

theorem execMemberPin_orderly (seq : Byte) (args : List Byte) (s : State) :
    Answers (Orderly s) (execMemberPin seq args s) := by
  refine taking_orderly fun t => ?_
  have answer := reply_orderly
  split
  · exact answer ..
  · split
    · exact answer ..
    · exact .ite (answer ..) (.ite (answer ..) (((setMember_orderly ..).trans
        (offList_orderly ..)).trans (answer ..)))

theorem execMemberUnpin_orderly (seq : Byte) (args : List Byte) (s : State) :
    Answers (Orderly s) (execMemberUnpin seq args s) := by
  refine taking_orderly fun t => ?_
  have answer := reply_orderly
  split
  · exact answer ..
  · split
    · exact answer ..
    · exact .ite (((setMember_orderly ..).trans (toFront_orderly ..)).trans
        (answer ..)) (answer ..)

theorem execDayReset_orderly (seq : Byte) (args : List Byte) (s : State) :
    Answers (Orderly s) (execDayReset seq args s) :=
  taking_orderly fun _ => (setMembers_orderly _ _ (by exact List.length_map _) (by exact rfl) (by exact id)).trans (reply_orderly ..)

theorem execMemberFlush_orderly (seq : Byte) (args : List Byte) (s : State) :
    Answers (Orderly s) (execMemberFlush seq args s) :=
  taking_orderly fun _ => (flush_orderly _).trans (reply_orderly ..)

theorem execTakeNotice_orderly (seq : Byte) (args : List Byte) (s : State) :
    Answers (Orderly s) (execTakeNotice seq args s) := by
  refine taking_orderly fun t => ?_
  have answer := reply_orderly
  split
  · exact answer ..
  · refine .ite (answer ..) ?_
    split
    · exact answer ..
    · exact (setMgmt_orderly _ _ (by exact List.length_modify ..) (by exact rfl) (by exact rfl)).trans (answer ..)

theorem execSetNoticeMask_orderly (seq : Byte) (args : List Byte) (s : State) :
    Answers (Orderly s) (execSetNoticeMask seq args s) := by
  refine taking_orderly fun t => ?_
  have answer := reply_orderly
  split
  · exact .ite (answer ..) ((setMgmt_orderly _ _ (by exact List.length_mapIdx) (by exact rfl) (by exact rfl)).trans (answer ..))
  · exact answer ..

theorem execMgmtUnknownRequest_orderly (seq code : Byte) (s : State) :
    Answers (Orderly s) (execMgmtUnknownRequest seq code s) :=
  taking_orderly fun _ => reply_orderly ..

/-! ### Expiries, silences and raised causes -/

theorem execEstopLineDeasserted_orderly (s : State) : Answers (Orderly s) (execEstopLineDeasserted s) :=
  running_orderly (setHalt_kept_orderly _ _ (by exact rfl))

theorem execQuoteLifeExpiry_orderly (lane : Nat) (s : State) :
    Answers (Orderly s) (execQuoteLifeExpiry lane s) :=
  whenDue_orderly (voidQuote_orderly ..)

theorem execFetchTimerExpiry_orderly (entry : Nat) (s : State) :
    Answers (Orderly s) (execFetchTimerExpiry entry s) :=
  whenDue_orderly ((notify_orderly ..).trans (fetchRefuse_orderly ..))

theorem execAdmitWindowExpiry_orderly (s : State) : Answers (Orderly s) (execAdmitWindowExpiry s) := by
  refine whenDue_orderly ?_
  split
  · exact setMerge_orderly _ _ (by exact rfl)
  · exact ((withdraw_orderly s).trans (notify_orderly ..)).trans (review_orderly _)

theorem execStartWaitExpiry_orderly (s : State) : Answers (Orderly s) (execStartWaitExpiry s) :=
  whenDue_orderly ((setTrack_orderly ..).trans (raiseCause_orderly ..))

theorem execStopWaitExpiry_orderly (s : State) : Answers (Orderly s) (execStopWaitExpiry s) :=
  whenDue_orderly ((setTrack_orderly ..).trans (raiseCause_orderly ..))

theorem execBroadcastTimerExpiry_orderly (s : State) :
    Answers (Orderly s) (execBroadcastTimerExpiry s) :=
  whenDue_orderly ((broadcast_orderly s).trans (setHalt_kept_orderly _ _ (by exact rfl)))

theorem execHaltWaitExpiry_orderly (s : State) : Answers (Orderly s) (execHaltWaitExpiry s) := by
  have forced (l : List Nat) (t : State) : Orderly t (l.foldl (fun t i => t.outOfService i .unconfirmed) t) :=
    Orderly.foldl (fun t i => outOfService_orderly t i .unconfirmed) l t
  have stopped (t : State) : Orderly t (if s.halt.awaitDrive then t.conveyorStopped else t) :=
    .ite (conveyorStopped_orderly t) .refl
  refine whenDue_orderly ?_
  exact (((((setHalt_orderly _ _ (by exact List.length_set)).trans (forced ..)).trans (stopped _)).trans
    (setHalt_kept_orderly _ _ (by dsimp only))).trans (enterMode_orderly ..)).trans (notify_orderly ..)

theorem execHoldTimerExpiry_orderly (s : State) :
    Answers (Orderly s) (execHoldTimerExpiry s) := by
  have starts (t : State) : Orderly t
      (if t.track.cars = [] then t else t.takeStart) := .ite .refl (takeStart_orderly t)
  refine whenDue_orderly ?_
  exact (((((setHalt_kept_orderly _ _ (by exact rfl)).trans (enterMode_orderly ..)).trans
    (starts _)).trans (resumeStations_orderly _)).trans
    (notify_orderly ..)).trans (review_orderly _)

theorem execNodeSilent_orderly (addr : Nat) (s : State) :
    Answers (Orderly s) (execNodeSilent addr s) :=
  whenDue_orderly (((setNode_orderly _ _ _ (by exact rfl)).trans (notify_orderly ..)).trans
    (silenceEffect_orderly ..))

theorem execStartRequest_orderly (s : State) :
    Answers (Orderly s) (execStartRequest s) :=
  whenDue_orderly ((setStartRequested_orderly ..).trans (takeStart_orderly _))

theorem execRaiseCause_orderly (k : CauseKind) (d : CauseDetail) (s : State) :
    Answers (Orderly s) (execRaiseCause k d s) :=
  whenDue_orderly ((setRaised_orderly ..).trans (takeCause_orderly ..))

/-- The commands that set a table anew: the two resets that do, and the writes of a node and of a parameter. -/
def setsTables : Instr → Bool
  | .powerOnReset _ | .lineReset | .writeNodeEntry _ _ | .writeParamEntry _ _ => true
  | _ => false

/-- Every other command keeps the order of ports, ATTN and tables. -/
theorem exec_orderly (c : Instr) (s : State) (h : setsTables c = false) : Answers (Orderly s) (exec c s) :=
  match c, h with
  | .powerOnReset _, h => nomatch h
  | .lineReset, h => nomatch h
  | .writeNodeEntry _ _, h => nomatch h
  | .writeParamEntry _ _, h => nomatch h
  | .lineResetEnd estop, _ => execLineResetEnd_orderly estop s
  | .tick, _ => running_orderly (tick_orderly s)
  | .receiveByte p b, _ => execReceiveByte_orderly p b s
  | .transmitEnd p, _ => execTransmitEnd_orderly p s
  | .nodeFrameTake p, _ => execNodeFrameTake_orderly p s
  | .step src delta early, _ => execStep_orderly src delta early s
  | .entryEyeBlocked src, _ => execEntryEyeBlocked_orderly src s
  | .entryEyeClear src, _ => execEntryEyeClear_orderly src s
  | .mergeEyeBlocked lane, _ => execMergeEyeBlocked_orderly lane s
  | .mergeEyeClear lane, _ => execMergeEyeClear_orderly lane s
  | .checkEyeEdge src blocked, _ => execCheckEyeEdge_orderly src blocked s
  | .exitEyeBlocked src, _ => execExitEyeBlocked_orderly src s
  | .exitEyeClear src, _ => execExitEyeClear_orderly src s
  | .wheelSwitchEdge src blocked, _ => execWheelSwitchEdge_orderly src blocked s
  | .gateState lane isOpen, _ => execGateState_orderly lane isOpen s
  | .quote lane plan addons member, _ => execQuote_orderly lane plan addons member s
  | .paid lane token tender, _ => execPaid_orderly lane token tender s
  | .cancel lane token, _ => execCancel_orderly lane token s
  | .actState station report, _ => execActState_orderly station report s
  | .actStateFault station, _ => execActStateFault_orderly station s
  | .current station value, _ => execCurrent_orderly station value s
  | .driveState src report level roller, _ => execDriveState_orderly src report level roller s
  | .haltDriveConfirm src report, _ => execHaltDriveConfirm_orderly src report s
  | .stopActive src, _ => execStopActive_orderly src s
  | .stopReleased src, _ => execStopReleased_orderly src s
  | .estopLineAsserted, _ => running_orderly (lineAsserted_orderly s)
  | .estopLineDeasserted, _ => execEstopLineDeasserted_orderly s
  | .memberData id known tier limit uses, _ => execMemberData_orderly id known tier limit uses s
  | .siteFieldFrame frame, _ => execSiteFieldFrame_orderly frame s
  | .readEntry seq args, _ => execReadEntry_orderly seq args s
  | .writeEntry seq args, _ => execWriteEntry_orderly seq args s
  | .writeStationEntry seq args, _ => execWriteStationEntry_orderly seq args s
  | .writePlanEntry seq args, _ => execWritePlanEntry_orderly seq args s
  | .writeServiceEntry seq args, _ => execWriteServiceEntry_orderly seq args s
  | .arm seq args, _ => execArm_orderly seq args s
  | .disarm seq args, _ => execDisarm_orderly seq args s
  | .release seq args, _ => execRelease_orderly seq args s
  | .forceHalt seq args, _ => execForceHalt_orderly seq args s
  | .clearCause seq args, _ => execClearCause_orderly seq args s
  | .laneOpen seq args, _ => execLaneOpen_orderly seq args s
  | .laneClose seq args, _ => execLaneClose_orderly seq args s
  | .cancelOrder seq args, _ => execCancelOrder_orderly seq args s
  | .stationService seq args, _ => execStationService_orderly seq args s
  | .removeCar seq args, _ => execRemoveCar_orderly seq args s
  | .memberLoad seq args, _ => execMemberLoad_orderly seq args s
  | .memberPin seq args, _ => execMemberPin_orderly seq args s
  | .memberUnpin seq args, _ => execMemberUnpin_orderly seq args s
  | .dayReset seq args, _ => execDayReset_orderly seq args s
  | .memberFlush seq args, _ => execMemberFlush_orderly seq args s
  | .portReset seq args, _ => execPortReset_orderly seq args s
  | .takeNotice seq args, _ => execTakeNotice_orderly seq args s
  | .setNoticeMask seq args, _ => execSetNoticeMask_orderly seq args s
  | .mgmtUnknownRequest seq code, _ => execMgmtUnknownRequest_orderly seq code s
  | .quoteLifeExpiry lane, _ => execQuoteLifeExpiry_orderly lane s
  | .fetchTimerExpiry entry, _ => execFetchTimerExpiry_orderly entry s
  | .admitWindowExpiry, _ => execAdmitWindowExpiry_orderly s
  | .startWaitExpiry, _ => execStartWaitExpiry_orderly s
  | .stopWaitExpiry, _ => execStopWaitExpiry_orderly s
  | .idleTimerExpiry, _ => whenDue_orderly (stopConveyor_orderly s)
  | .broadcastTimerExpiry, _ => execBroadcastTimerExpiry_orderly s
  | .haltWaitExpiry, _ => execHaltWaitExpiry_orderly s
  | .holdTimerExpiry, _ => execHoldTimerExpiry_orderly s
  | .nodeSilent addr, _ => execNodeSilent_orderly addr s
  | .startRequest, _ => execStartRequest_orderly s
  | .raiseCause k d, _ => execRaiseCause_orderly k d s


/-! ## The laws of the ports, of ATTN and of the tables -/

theorem nodeLaw_of_orderly {s t : State} (h : Orderly s t) (hs : Shape s) (hn : NodeLaw s) : NodeLaw t := by
  refine ⟨(h.shape hs).nodes, fun a ha => ?_⟩
  rw [h.roles a]
  exact hn.2 a ha

theorem tableLaw_of_orderly {s t : State} (h : Orderly s t) : TableLaw s → TableLaw t := by
  rintro ⟨hs, hn, hp⟩
  refine ⟨h.shape hs, nodeLaw_of_orderly h hs hn, ?_⟩
  unfold ParamLaw
  rw [h.params]
  exact hp

/-- A judged write keeps a property that its hand-over, its reply and the judged change keep. -/
theorem taking_write_answers {P : State → Prop} {c : Instr} {s : State} {seq : Byte} {args : List Byte}
    {len size table : Nat} {v : State → Nat → (Nat → Byte) → Verdict} {w : State → Nat → (Nat → Byte) → State}
    (handed : ∀ (t : State) (l : List Instr), P t → P (t.setHanded l))
    (reply : ∀ (t : State) (seq : Byte) (code : Nat) (st : Status) (d : List Byte), P t → P (t.reply seq code st d))
    (hs : P s) (hw : ∀ t i b, P t → i < size → v t i b = .good → P (w t i b)) :
    Answers P (taking c s fun s => s.writing seq args len size fun i b =>
      s.finishWrite seq table i (v s i b) (w s i b)) := by
  refine taking_answers hs ?_
  have ht := handed s (s.handed.erase c) hs
  have bad (code : Nat) (st : Status) (d : List Byte) := reply _ seq code st d ht
  dsimp only [State.writing]
  split
  · split
    · exact bad ..
    · split
      · exact bad ..
      next hi =>
        unfold State.finishWrite
        split
        next hgood => exact reply _ _ _ _ _ (hw _ _ _ ht (Nat.lt_of_not_le hi) hgood)
        · exact bad ..
        · exact bad ..
  · exact bad ..

/-! ### The resets -/

theorem portLaw_cleared (s : State) (hs : s.portS = .cleared) (hf : s.portF = .cleared ∨ s.portF = .resuming) :
    PortLaw s := by
  rw [portLaw_iff]
  intro p
  cases p
  · rw [State.port, hs]
    exact Port.cleared_good
  · obtain hf | hf := hf
    · rw [State.port, hf]
      exact Port.cleared_good
    · obtain ⟨hb, hc, _⟩ := Port.cleared_good
      rw [State.port, hf]
      exact ⟨hb, hc, fun hline => nomatch hline⟩

theorem lineReset_portLaw (s : State) : PortLaw s.lineReset := portLaw_cleared _ rfl (.inl rfl)

theorem powerOn_portLaw (l : List Instr) : PortLaw { State.reset with pending := l } := portLaw_cleared _ rfl (.inr rfl)

theorem fresh_waiting : ∀ f ∈ Members.fresh.fetches, f.waiting.length = 3 := by decide

theorem paramDefaults_inRange : ∀ i, i < 19 → paramInRange i (Config.paramDefaults.getD i 0) = true := by decide

/-- The tables after a line reset: the configuration kept, the rest as it was made (R2). -/
theorem lineReset_tableLaw {s : State} : TableLaw s → TableLaw s.lineReset := by
  rintro ⟨hs, ⟨hn, hroles⟩, hp⟩
  refine ⟨{ hs with
    nodes := (List.length_map _).trans hs.nodes, lanes := rfl, orders := rfl, records := rfl, fetches := rfl,
    waiting := fresh_waiting, merge := rfl, stations := (List.length_map _).trans hs.stations, details := rfl,
    notices := rfl, rxS := rfl, rxF := rfl }, ⟨(List.length_map _).trans hn, fun a ha => ?_⟩, hp⟩
  have hnode : s.lineReset.node a = NodeRecord.restart (s.node a) := by
    have hlt : a < s.nodes.length := by omega
    simp [State.node, State.lineReset, List.getD_eq_getElem?_getD, hlt]
  rw [hnode]
  exact hroles a ha

/-- The roles of the Node Table after power-on (R46). -/
theorem powerOn_roles : ∀ a, a < 64 → roleAllowed a (State.reset.node a).role = true := by decide

theorem powerOn_tableLaw (l : List Instr) : TableLaw { State.reset with pending := l } := by
  refine ⟨?_, ⟨rfl, powerOn_roles⟩, rfl, paramDefaults_inRange⟩
  constructor
  case waiting => exact fresh_waiting
  all_goals rfl

/-! ### The writes of a node and of a parameter -/

/-- A list of checks passes when each of them does (R194). -/
theorem firstBad_good_iff (l : List (Nat × Bool)) : firstBad l = .good ↔ ∀ e ∈ l, e.2 = true := by
  induction l with
  | nil => simp [firstBad]
  | cons e l ih =>
    obtain ⟨n, ok⟩ := e
    cases ok <;> simp [firstBad, ih]

/-- A node image that passes its judgement names a role its address may have (R32). -/
theorem roleAllowed_of_judgeNode {s : State} {a : Nat} {b : Nat → Byte} (h : s.judgeNode a b = .good) :
    roleAllowed a (nodeOfImage b).role = true := by
  unfold State.judgeNode at h
  dsimp only at h
  split at h
  · cases h
  · obtain ⟨role, hrole, hallowed⟩ := (Option.any_eq_true ..).mp ((firstBad_good_iff _).mp h _ List.mem_cons_self)
    have : (nodeOfImage b).role = role := by simp [nodeOfImage, hrole, NodeRecord.blank]
    rw [this]
    exact hallowed

theorem setNode_tableLaw {s : State} {a : Nat} {r : NodeRecord} (hr : roleAllowed a r.role = true) :
    TableLaw s → TableLaw (s.setNode a r) := by
  rintro ⟨hs, ⟨hn, hroles⟩, hp⟩
  refine ⟨{ hs with nodes := List.length_set.trans hn }, ⟨List.length_set.trans hn, fun c hc => ?_⟩, hp⟩
  by_cases h : c = a
  · subst h
    rw [node_setNode r (by omega)]
    exact hr
  · rw [node_setNode_ne s r h]
    exact hroles c hc

/-- A parameter that passes its judgement lies in its range (R183). -/
theorem paramInRange_of_judgeParam {s : State} {i v : Nat} (h : s.judgeParam i v = .good) : paramInRange i v = true := by
  unfold State.judgeParam at h
  split at h
  · cases h
  · exact (firstBad_good_iff _).mp h _ List.mem_cons_self

theorem setParam_tableLaw {s : State} {i v : Nat} (hv : paramInRange i v = true) :
    TableLaw s → TableLaw (s.setParam i v) := by
  rintro ⟨hs, hn, hp, hrange⟩
  refine ⟨{ hs with params := List.length_set.trans hp }, hn, List.length_set.trans hp, fun k hk => ?_⟩
  have hparams : (s.setParam i v).mgmt.params = s.mgmt.params.set i v := rfl
  rw [hparams]
  by_cases h : k = i
  · subst h
    rw [getD_set_eq _ _ _ _ (by omega)]
    exact hv
  · rw [getD_set_ne _ _ _ _ _ h]
    exact hrange k hk

/-! ### The obligations -/

/-- A property that orderly changes keep is kept by every command that keeps it where a table is set anew. -/
theorem exec_answers_of_orderly {P : State → Prop} (order : ∀ {t u : State}, Orderly t u → P t → P u)
    (powerOn : ∀ s : State, P s → P { State.reset with pending := s.pending }) (line : ∀ s : State, P s → P s.lineReset)
    (node : ∀ (t : State) (a : Nat) (b : Nat → Byte), P t → t.judgeNode a b = .good → P (t.setNode a (nodeOfImage b)))
    (param : ∀ (t : State) (i v : Nat), P t → t.judgeParam i v = .good → P (t.setParam i v)) (c : Instr) (s : State)
    (h : P s) : Answers P (exec c s) := by
  cases hc : setsTables c with
  | false =>
    obtain ⟨t, ht, hst⟩ := exec_orderly c s hc
    exact ⟨t, ht, order hst h⟩
  | true =>
    have handed (t : State) (l : List Instr) : P t → P (t.setHanded l) := order (setHanded_orderly t l)
    have reply (t : State) (seq : Byte) (code : Nat) (st : Status) (d : List Byte) : P t → P (t.reply seq code st d) :=
      order (reply_orderly t seq code st d)
    cases c
    case powerOnReset estop => exact .next (order (takeEstop_orderly ..) (powerOn s h))
    case lineReset => exact .next (line s h)
    case writeNodeEntry seq args => exact taking_write_answers handed reply h fun t a b ht _ => node t a b ht
    case writeParamEntry seq args => exact taking_write_answers handed reply h fun t i b ht _ => param t i _ ht
    all_goals cases hc

/-- Settles O58: only the two resets set a port otherwise than by the operations that keep it in order. -/
theorem portBoundsAreKept : Obligations.PortBoundsAreKept := fun _ _ =>
  step_keeps (fun _ _ => id)
    (exec_answers_of_orderly (fun h => h.ports) (fun _ _ => powerOn_portLaw _) (fun s _ => lineReset_portLaw s)
      (fun _ _ _ h _ => h) (fun _ _ _ h _ => h))

/-- Settles O59: ATTN is judged wherever a class changes, and the tables are written within their rules. -/
theorem tablesAndAttnAreKept : Obligations.TablesAndAttnAreKept :=
  ⟨fun _ _ => step_keeps (fun _ _ => id)
      (exec_answers_of_orderly (fun h => h.attn) (fun _ _ => rfl) (fun _ _ => rfl) (fun _ _ _ h _ => h)
        (fun _ _ _ h _ => h)),
    fun _ _ => step_keeps (fun _ _ ⟨hs, hn, hp⟩ => ⟨{ hs with }, hn, hp⟩)
      (exec_answers_of_orderly tableLaw_of_orderly (fun _ _ => powerOn_tableLaw _) (fun _ => lineReset_tableLaw)
        (fun _ _ _ h hj => setNode_tableLaw (roleAllowed_of_judgeNode hj) h)
        (fun _ _ _ h hj => setParam_tableLaw (paramInRange_of_judgeParam hj) h))⟩

end Sys2Proof.Machine
end

section
/-!
The halt laws and the standstill of the tunnel (R157, R161, Table 8-1): what leaves them alone, what a station may become,
and how halt entry stops the tunnel (R166, R167).
-/
namespace Sys2Proof.Machine

-- Proofs in order: a thread that waits for another proof counts against the check's memory limit.
set_option Elab.async false

/-! ## The two laws as one, and what leaves them alone -/

/-- The halt laws and the standstill. -/
def Safe (s : State) : Prop := HaltLaw s ∧ StandstillLaw s

/-- The next state holds the halt block, the stations and the conveyor as they were, an idle timer only where one ran or
the conveyor moves, and every car with its tag and services. -/
structure Calm (s t : State) : Prop where
  halt : t.halt = s.halt
  stations : t.stations = s.stations
  conveyor : t.track.conveyor = s.track.conveyor
  idle : t.track.idle ≠ none → s.track.idle ≠ none ∨ s.track.conveyor = .moving
  cars : ∀ c ∈ s.track.cars, ∃ d ∈ t.track.cars, d.tag = c.tag ∧ d.services = c.services

theorem Calm.refl {s : State} : Calm s s := ⟨rfl, rfl, rfl, .inl, fun c hc => ⟨c, hc, rfl, rfl⟩⟩

theorem Calm.trans {s t u : State} (h : Calm s t) (k : Calm t u) : Calm s u := by
  refine ⟨k.halt.trans h.halt, k.stations.trans h.stations, k.conveyor.trans h.conveyor, fun hi => ?_, fun c hc => ?_⟩
  · obtain hi | hm := k.idle hi
    · exact h.idle hi
    · exact .inr (h.conveyor ▸ hm)
  · obtain ⟨d, hd, htag, hsvc⟩ := h.cars c hc
    obtain ⟨e, he, htag', hsvc'⟩ := k.cars d hd
    exact ⟨e, he, htag'.trans htag, hsvc'.trans hsvc⟩

theorem Calm.ite {s t u : State} {c : Prop} [Decidable c] (h : Calm s t) (k : Calm s u) :
    Calm s (if c then t else u) := by
  split
  · exact h
  · exact k

theorem Calm.of_track {s t : State} (hh : t.halt = s.halt) (hs : t.stations = s.stations) (ht : t.track = s.track) :
    Calm s t :=
  ⟨hh, hs, by rw [ht], by rw [ht]; exact .inl, by rw [ht]; exact fun c hc => ⟨c, hc, rfl, rfl⟩⟩

/-- A change outside the halt block, the stations and Tracking is calm. -/
theorem SameExcept.calm {l : List Part} {s t : State} (h : SameExcept l s t)
    (hl : Part.halt ∉ l ∧ Part.stations ∉ l ∧ Part.track ∉ l := by decide) : Calm s t :=
  .of_track (h.same _ hl.1) (h.same _ hl.2.1) (h.same _ hl.2.2)

theorem StationServes.calm {s t : State} {st : Station}
    (cars : ∀ c ∈ s.track.cars, ∃ d ∈ t.track.cars, d.tag = c.tag ∧ d.services = c.services) (h : StationServes s st) :
    StationServes t st := by
  intro hw
  obtain ⟨hu, c, hc, hcar, hsvc⟩ := h hw
  obtain ⟨d, hd, htag, hset⟩ := cars c hc
  exact ⟨hu, d, hd, htag ▸ hcar, hset ▸ hsvc⟩

theorem Calm.safe {s t : State} (h : Calm s t) : Safe s → Safe t := by
  rintro ⟨⟨hp, hc, hh, hb⟩, hstop, hwork, hwait, hidle, hlen, hserve⟩
  refine ⟨?_, ?_⟩
  · unfold HaltLaw
    rw [h.halt]
    exact ⟨hp, hc, hh, hb⟩
  · unfold StandstillLaw
    rw [h.halt, h.stations, h.conveyor]
    refine ⟨hstop, hwork, hwait, fun hi => ?_, hlen, fun st hst => (hserve st hst).calm h.cars⟩
    obtain hi | hm := h.idle hi
    · exact hidle hi
    · exact hm

/-- Tracking set with the conveyor, the idle timer and the cars as they were. -/
theorem setTrack_calm (s : State) (v : Track) (conveyor : v.conveyor = s.track.conveyor) (idle : v.idle = s.track.idle)
    (cars : v.cars = s.track.cars) : Calm s (s.setTrack v) :=
  ⟨rfl, rfl, conveyor, fun h => .inl (idle ▸ h), fun c hc => ⟨c, cars ▸ hc, rfl, rfl⟩⟩

theorem setCars_calm (s : State) (l : List Car)
    (h : ∀ c ∈ s.track.cars, ∃ d ∈ l, d.tag = c.tag ∧ d.services = c.services) : Calm s (s.setCars l) :=
  ⟨rfl, rfl, rfl, .inl, h⟩

/-- Every car changed in place, its tag and services kept. -/
theorem mapCars_calm (s : State) (g : Car → Car) (h : ∀ c, (g c).tag = c.tag ∧ (g c).services = c.services) :
    Calm s (s.setCars (s.track.cars.map g)) :=
  setCars_calm _ _ fun c hc => ⟨g c, List.mem_map_of_mem hc, h c⟩

/-- The car at a place replaced by one of its tag and services. -/
theorem setCarAt_calm (s : State) (j : Nat) {c d : Car} (hc : s.track.cars[j]? = some c) (htag : d.tag = c.tag)
    (hsvc : d.services = c.services) : Calm s (s.setCars (s.track.cars.set j d)) := by
  refine setCars_calm _ _ fun e he => ?_
  obtain ⟨i, hi, rfl⟩ := List.getElem_of_mem he
  obtain ⟨hj, hcj⟩ := List.getElem?_eq_some_iff.mp hc
  by_cases hij : j = i
  · subst hij
    exact ⟨d, List.mem_set hj d, by rw [hcj, htag], by rw [hcj, hsvc]⟩
  · refine ⟨s.track.cars[i], ?_, rfl, rfl⟩
    have hlen : i < (s.track.cars.set j d).length := by simpa using hi
    have hget : (s.track.cars.set j d)[i] = s.track.cars[i] := List.getElem_set_ne hij _
    exact hget ▸ List.getElem_mem hlen

theorem modifyCar_calm (s : State) (j : Nat) (g : Car → Car) (h : ∀ c, (g c).tag = c.tag ∧ (g c).services = c.services) :
    Calm s (s.setCars (s.track.cars.modify j g)) := by
  cases hc : s.track.cars[j]? with
  | none =>
    have hlen : s.track.cars.length ≤ j := by simpa using hc
    rw [List.modify_eq_self hlen]
    exact .refl
  | some c =>
    rw [modify_of_some hc]
    exact setCarAt_calm s j hc (h c).1 (h c).2

theorem judgeSpeed_calm (s : State) : Calm s s.judgeSpeed := by
  unfold State.judgeSpeed
  exact .ite ((setTrack_calm _ _ (by exact rfl) (by exact rfl) (by exact rfl)).trans (driveCmd_frame ..).calm) .refl

/-- The idle timer runs while the conveyor moves alone (R122). -/
theorem judgeStandby_calm (s : State) : Calm s s.judgeStandby := by
  unfold State.judgeStandby
  split
  next h =>
    split
    · refine ⟨rfl, rfl, rfl, fun _ => .inr ?_, fun c hc => ⟨c, hc, rfl, rfl⟩⟩
      simp only [State.standby, Bool.and_eq_true, beq_iff_eq] at h
      exact h.1
    · exact .refl
  next => exact ⟨rfl, rfl, rfl, fun h => absurd rfl h, fun c hc => ⟨c, hc, rfl, rfl⟩⟩

theorem judgeConveyor_calm (s : State) : Calm s s.judgeConveyor := (judgeSpeed_calm s).trans (judgeStandby_calm _)

theorem review_calm (s : State) : Calm s s.review := (arbitrate_frame s).calm.trans (judgeConveyor_calm _)

theorem judgePayment_calm (s : State) (l r : Nat) : Calm s (s.judgePayment l r) := by
  unfold State.judgePayment
  exact .ite ((stage_frame ..).calm.trans (review_calm _)) (judgeConveyor_calm _)

theorem voidOrder_calm (s : State) (r reason : Nat) : Calm s (s.voidOrder r reason) := by
  have void : Calm s ((s.callOff r reason).judgeVoid (s.order r).lane) :=
    (callOff_frame ..).calm.trans (judgeVoid_frame ..).calm
  exact .ite (void.trans (review_calm _)) (void.trans (judgeConveyor_calm _))

theorem Calm.foldl {α : Type} {g : State → α → State} (h : ∀ t x, Calm t (g t x)) (xs : List α) :
    ∀ s, Calm s (xs.foldl g s) := by
  induction xs with
  | nil => intro s; exact .refl
  | cons x xs ih => intro s; exact (h s x).trans (ih _)

theorem purge_calm (s : State) (l : Nat) : Calm s (s.purge l) := .foldl (fun t r => voidOrder_calm t r 2) _ s

theorem makeOrder_calm (s : State) (l r tag tender : Nat) : Calm s (s.makeOrder l r tag tender) := by
  have paid : ∀ t : State, SameExcept [.sales, .members, .portF, .mgmt] s t → Calm s (t.judgePayment l r) :=
    fun t h => h.calm.trans (judgePayment_calm ..)
  unfold State.makeOrder
  refine paid _ ?_
  exact (((((((setSales_frame ..).within (by decide)).trans ((setOrder_frame ..).within (by decide))).trans
    ((setLane_frame ..).within (by decide))).trans ((spendUse_frame ..).within (by decide))).trans
    ((releaseRef_frame ..).within (by decide))).trans ((emptySlot_frame ..).within (by decide))).trans
    ((toField_frame ..).within (by decide))

theorem pay_calm (s : State) (l tender : Nat) : Calm s (s.pay l tender) := by
  unfold State.pay
  split
  · exact .refl
  · exact makeOrder_calm ..

theorem hear_calm (s : State) (f : Frame) : Calm s (s.hear f) := by
  have live (t : State) (a : Nat) (r : NodeRecord) : Calm t (t.noteLive a r) := by
    unfold State.noteLive
    exact .ite (.ite ((notifyNode_frame ..).calm.trans (review_calm _)) (notifyNode_frame ..).calm) .refl
  exact ((setNode_frame ..).calm.trans (noteGap_frame ..).calm).trans (live ..)

theorem judgeFrame_calm (s : State) (p : PortId) (f : Frame) : Calm s (s.judgeFrame p f) := by
  unfold State.judgeFrame
  split
  · exact (countRefusal_frame ..).calm
  · exact (hear_calm ..).trans (route_frame ..).calm

/-! ### Cars that come and stay -/

theorem insertCar_calm (s : State) (c : Car) : Calm s (s.insertCar c) :=
  ⟨rfl, rfl, rfl, .inl, fun d hd => ⟨d, List.mem_append_left _ hd, rfl, rfl⟩⟩

theorem bindCar_calm (s : State) (l r : Nat) : Calm s (s.bindCar l r) := by
  unfold State.bindCar
  exact (((((insertCar_calm ..).trans (setOrder_frame ..).calm).trans (dequeue_frame ..).calm).trans
    (endGrant_frame ..).calm).trans (stageOnBinding_frame ..).calm).trans (review_calm _)

theorem createCar_calm (s : State) : Calm s s.createCar := by
  unfold State.createCar
  split
  · exact bindCar_calm ..
  · unfold State.unannouncedCar
    exact (((insertCar_calm ..).trans (notifyTrack_frame ..).calm).trans (handStart_frame _).calm).trans
      (judgeConveyor_calm _)

theorem frontEdge_calm (s : State) (src : Nat) : Calm s (s.frontEdge src) := by
  have crush (c : Car) : Calm s (s.entryCrush src c) := (raiseCause_frame ..).calm
  unfold State.frontEdge
  split
  · exact (raiseCause_frame ..).calm.trans (notifyTrack_frame ..).calm
  · split
    · exact createCar_calm _
    · exact .ite (crush _) (.ite ((crush _).trans (createCar_calm _)) (createCar_calm _))

/-- The tail car is the last of the list, its place the last. -/
theorem tailCar_getElem? {s : State} {c : Car} (h : s.tailCar = some c) :
    s.track.cars[s.track.cars.length - 1]? = some c := by
  rw [← List.getLast?_eq_getElem?]
  exact h

theorem setTail_eq {s : State} {c : Car} (h : s.tailCar = some c) (d : Car) :
    s.setTail d = s.setCars (s.track.cars.set (s.track.cars.length - 1) d) := by
  obtain ⟨l, hl⟩ := List.getLast?_eq_some_iff.mp (show s.track.cars.getLast? = some c from h)
  simp [State.setTail, hl]

theorem setTail_calm {s : State} {c d : Car} (h : s.tailCar = some c) (htag : d.tag = c.tag)
    (hsvc : d.services = c.services) : Calm s (s.setTail d) := by
  rw [setTail_eq h]
  exact setCarAt_calm s _ (tailCar_getElem? h) htag hsvc

theorem rearEdge_calm (s : State) : Calm s s.rearEdge := by
  have stray : Calm s s.strayRear := by
    unfold State.strayRear
    exact .ite .refl (notifyTrack_frame ..).calm
  unfold State.rearEdge
  split
  next c hc =>
    refine .ite ?_ stray
    unfold State.measure
    exact .ite ((setTail_calm hc (by exact rfl) (by exact rfl)).trans (raiseCause_frame ..).calm) (setTail_calm hc rfl rfl)
  next => exact stray

/-- The list with a roller engaged holds the same cars by tag and services (R132). -/
theorem engageCalled_cars {l k : List Car} (h : engageCalled l = some k) :
    ∀ c ∈ l, ∃ d ∈ k, d.tag = c.tag ∧ d.services = c.services := by
  induction l generalizing k with
  | nil => cases h
  | cons a l ih =>
    unfold engageCalled at h
    split at h
    · obtain rfl := Option.some.inj h
      intro c hc
      obtain rfl | hc := List.mem_cons.mp hc
      · exact ⟨_, List.mem_cons_self, rfl, rfl⟩
      · exact ⟨c, List.mem_cons_of_mem _ hc, rfl, rfl⟩
    · obtain ⟨m, hm, rfl⟩ := Option.map_eq_some_iff.mp h
      intro c hc
      obtain rfl | hc := List.mem_cons.mp hc
      · exact ⟨_, List.mem_cons_self, rfl, rfl⟩
      · obtain ⟨d, hd, hsame⟩ := ih hm c hc
        exact ⟨d, List.mem_cons_of_mem _ hd, hsame⟩

theorem judgeRoller_calm (s : State) (r : Bool) : Calm s (s.judgeRoller r) := by
  unfold State.judgeRoller
  split
  · split
    next hl => exact setCars_calm _ _ (engageCalled_cars hl)
    next => exact (notifyTrack_frame ..).calm
  · exact .refl

theorem moveCars_calm (s : State) (d : Nat) : Calm s (s.moveCars d) :=
  ⟨rfl, rfl, rfl, .inl, fun _ hc => ⟨_, List.mem_map_of_mem hc, rfl, rfl⟩⟩

theorem passEye_same (s : State) (c : Car) : (s.passEye c).tag = c.tag ∧ (s.passEye c).services = c.services := by
  unfold State.passEye
  split <;> exact ⟨rfl, rfl⟩

theorem credit_calm (s : State) (tag svc : Nat) : Calm s (s.credit tag svc) :=
  mapCars_calm _ _ fun c => by split <;> exact ⟨rfl, rfl⟩

theorem nearMiss_calm {s : State} {j : Nat} {c : Car} (hc : s.track.cars[j]? = some c) (k : Nat) (e : Int) :
    Calm s (s.nearMiss j k e c) := by
  unfold State.nearMiss
  exact .ite ((setCarAt_calm s j hc (by exact rfl) (by exact rfl)).trans (notifyTrack_frame ..).calm) .refl

end Sys2Proof.Machine
end

section
/-!
Stations and the conveyor under the halt laws (R157, R161): what a station may become, the crossings, the conveyor's own
changes, and the changes of mode.
-/
namespace Sys2Proof.Machine

-- Proofs in order: a thread that waits for another proof counts against the check's memory limit.
set_option Elab.async false

/-! ## A station set within the laws -/

/-- What the laws ask of a station that is set. -/
def MayStand (s : State) (v : Station) : Prop :=
  Station.working v = true → s.halt.mode = .armed ∧ Station.used v = true ∧
    ∃ c ∈ s.track.cars, v.car = some c.tag ∧ hasService c.services v.service = true

theorem MayStand.idle {s : State} {v : Station} (h : Station.working v = false) : MayStand s v :=
  fun hw => absurd hw (by rw [h]; exact Bool.false_ne_true)

/-- A record at work may stand as well as another that it shares the actuator, the car and the service with. -/
theorem MayStand.congr {s : State} {v w : Station} (h : MayStand s v) (working : Station.working w = true → Station.working v = true)
    (actuator : w.actuator = v.actuator) (car : w.car = v.car) (service : w.service = v.service) : MayStand s w := by
  intro hw
  obtain ⟨hm, hu, hc⟩ := h (working hw)
  refine ⟨hm, ?_, ?_⟩
  · rw [Station.used, actuator]
    exact hu
  · rw [car, service]
    exact hc

theorem station_mem (s : State) {i : Nat} (h : i < s.stations.length) : s.station i ∈ s.stations := by
  rw [State.station, List.getD_eq_getElem?_getD, List.getElem?_eq_getElem h]
  exact List.getElem_mem h

theorem station_outside (s : State) {i : Nat} (h : s.stations.length ≤ i) : s.station i = .blank := by
  rw [State.station, List.getD_eq_getElem?_getD, List.getElem?_eq_none h]
  rfl

theorem station_congr {s t : State} (h : t.stations = s.stations) (i : Nat) : t.station i = s.station i := by
  rw [State.station, State.station, h]

theorem stationCmd_station (s : State) (i sub pace k : Nat) : (s.stationCmd i sub pace).station k = s.station k :=
  station_congr ((stationCmd_frame s i sub pace).same .stations (by decide)) k

theorem Safe.mayStand {s : State} (h : Safe s) (i : Nat) : MayStand s (s.station i) := by
  obtain ⟨-, -, hwork, -, -, -, hserve⟩ := h
  by_cases hi : i < s.stations.length
  · intro hw
    have hmem := station_mem s hi
    refine ⟨?_, hserve _ hmem hw⟩
    refine Classical.byContradiction fun hm => ?_
    rw [hwork hm _ hmem] at hw
    cases hw
  · rw [station_outside s (by omega)]
    exact .idle rfl

theorem setStation_safe {s : State} (i : Nat) {v : Station} (h : Safe s) (hv : MayStand s v) : Safe (s.setStation i v) := by
  obtain ⟨hhalt, hstop, hwork, hwait, hidle, hlen, hserve⟩ := h
  have mem : ∀ st ∈ (s.setStation i v).stations, st ∈ s.stations ∨ st = v := fun st hst => List.mem_or_eq_of_mem_set hst
  refine ⟨hhalt, hstop, fun hm st hst => ?_, hwait, hidle, List.length_set.trans hlen, fun st hst => ?_⟩
  · obtain hst | rfl := mem st hst
    · exact hwork hm st hst
    · refine Classical.byContradiction fun hw => ?_
      exact hm (hv (by simpa using hw)).1
  · obtain hst | rfl := mem st hst
    · exact hserve st hst
    · exact fun hw => (hv hw).2

/-- What a station may become is not touched by what the state keeps. -/
theorem MayStand.calm {s t : State} {v : Station} (h : Calm s t) : MayStand s v → MayStand t v := by
  intro hv hw
  obtain ⟨hm, hu, c, hc, hcar, hsvc⟩ := hv hw
  obtain ⟨d, hd, htag, hset⟩ := h.cars c hc
  exact ⟨h.halt ▸ hm, hu, d, hd, htag ▸ hcar, hset ▸ hsvc⟩

theorem Calm.setStation_safe {s t : State} {i : Nat} {v : Station} (h : Calm s t) (hs : Safe s) (hv : MayStand s v) :
    Safe (t.setStation i v) :=
  Machine.setStation_safe i (h.safe hs) (hv.calm h)

/-! ## Crossings (R145 to R148, R151) -/

theorem release_safe {s : State} (i : Nat) (h : Safe s) : Safe (s.release i) :=
  (retract_frame s i).calm.setStation_safe h (.idle rfl)

theorem endCrossing_safe {s : State} (i tag : Nat) (h : Safe s) : Safe (s.endCrossing i tag) := by
  unfold State.endCrossing
  dsimp only
  split
  · split
    · exact (credit_calm ..).safe (release_safe i h)
    · exact release_safe i h
    · exact h
    · exact h
  · exact h

theorem countBackoff_safe {s : State} (i d : Nat) (h : Safe s) : Safe (s.countBackoff i d) := by
  unfold State.countBackoff
  dsimp only
  split
  next hb =>
    have working : Station.working (s.station i) = true := by simp [Station.working, hb]
    split
    · exact (stationCmd_frame ..).calm.setStation_safe h ((h.mayStand i).congr (fun _ => working) rfl rfl rfl)
    · exact setStation_safe i h ((h.mayStand i).congr (fun _ => working) rfl rfl rfl)
  next => exact h

/-- A used station engages on a car of the list that wants its service, in ARMED (R147, R158). -/
theorem engage_safe {s : State} {i pace : Nat} {c : Car} (h : Safe s) (armed : s.halt.mode = .armed)
    (used : Station.used (s.station i) = true) (hc : c ∈ s.track.cars) (hw : wants c (s.station i) = true) :
    Safe (s.engage i c.tag pace) := by
  simp only [wants, Bool.and_eq_true] at hw
  have hv : MayStand s { s.station i with active := pace, activity := .engaged, car := some c.tag, backoffs := 0, stepsLeft := 0 } :=
    fun _ => ⟨armed, used, c, hc, rfl, hw.1⟩
  exact (stationCmd_frame s i 1 pace).calm.setStation_safe h hv

theorem car?_mem {s : State} {tag : Nat} {c : Car} (h : s.car? tag = some c) : c ∈ s.track.cars ∧ c.tag = tag :=
  ⟨List.mem_of_find?_eq_some h, by simpa using List.find?_some h⟩

theorem startCrossing_safe {s : State} {i : Nat} (m : Move) (h : Safe s) (used : Station.used (s.station i) = true) :
    Safe (s.startCrossing i m) := by
  unfold State.startCrossing
  dsimp only
  split
  · exact h
  next c hc =>
    obtain ⟨hmem, htag⟩ := car?_mem hc
    split
    next hgo =>
      obtain ⟨armed, -, -, hw, -⟩ := hgo
      exact htag ▸ engage_safe h armed used hmem hw
    next => exact h

/-! ### The station stays used through its own judgement -/

theorem setStation_used (s : State) (i : Nat) (v : Station) (hv : v.actuator = (s.station i).actuator) :
    Station.used ((s.setStation i v).station i) = Station.used (s.station i) := by
  by_cases hi : i < s.stations.length
  · rw [station_setStation v hi, Station.used, Station.used, hv]
  · have hlen : (s.setStation i v).stations.length ≤ i := by simpa [State.setStation] using hi
    rw [station_outside _ hlen, station_outside s (by omega)]

theorem release_used (s : State) (i : Nat) : Station.used ((s.release i).station i) = Station.used (s.station i) := by
  have hr : (s.retract i).stations = s.stations := (retract_frame s i).same .stations (by decide)
  have hi := station_congr hr i
  rw [State.release, setStation_used _ _ _ (by rw [hi]), hi]

theorem endCrossing_used (s : State) (i tag : Nat) :
    Station.used ((s.endCrossing i tag).station i) = Station.used (s.station i) := by
  unfold State.endCrossing
  dsimp only
  split
  · split
    · exact release_used s i
    · exact release_used s i
    · rfl
    · rfl
  · rfl

theorem countBackoff_used (s : State) (i d : Nat) :
    Station.used ((s.countBackoff i d).station i) = Station.used (s.station i) := by
  unfold State.countBackoff
  dsimp only
  split
  · split
    · rw [setStation_used _ _ _ (by rw [stationCmd_station]), stationCmd_station]
    · exact setStation_used _ _ _ rfl
  · rfl

theorem startCrossing_used (s : State) (i : Nat) (m : Move) :
    Station.used ((s.startCrossing i m).station i) = Station.used (s.station i) := by
  unfold State.startCrossing
  dsimp only
  split
  · rfl
  · split
    · rw [State.engage, setStation_used _ _ _ (by rw [stationCmd_station]), stationCmd_station]
    · rfl

/-- A safe state whose station `i` is used. -/
def SafeUsed (i : Nat) (s : State) : Prop := Safe s ∧ Station.used (s.station i) = true

theorem foldl_keeps {α β : Type} {P : α → Prop} {g : α → β → α} (h : ∀ a b, P a → P (g a b)) (l : List β) :
    ∀ a, P a → P (l.foldl g a) := by
  induction l with
  | nil => exact fun _ ha => ha
  | cons b l ih => exact fun a ha => ih _ (h a b ha)

theorem judgeStation_safe {s : State} (i : Nat) (moves : List Move) (d : Option Nat) (h : Safe s) :
    Safe (s.judgeStation i moves d) := by
  have ends (l : List Move) (t : State) : SafeUsed i t → SafeUsed i (l.foldl (fun t m => t.endCrossing i m.tag) t) :=
    foldl_keeps (fun t m ⟨hs, hu⟩ => ⟨endCrossing_safe i m.tag hs, (endCrossing_used t i m.tag).trans hu⟩) l t
  have starts (l : List Move) (t : State) : SafeUsed i t → SafeUsed i (l.foldl (fun t m => t.startCrossing i m) t) :=
    foldl_keeps (fun t m ⟨hs, hu⟩ => ⟨startCrossing_safe m hs hu, (startCrossing_used t i m).trans hu⟩) l t
  have steps (n : Nat) (t : State) : SafeUsed i t → SafeUsed i (t.countBackoff i n) :=
    fun ⟨hs, hu⟩ => ⟨countBackoff_safe i n hs, (countBackoff_used t i n).trans hu⟩
  unfold State.judgeStation
  dsimp only
  split
  next hu =>
    cases d with
    | none => exact (starts _ _ (ends _ _ ⟨h, hu⟩)).1
    | some n => exact (starts _ _ (steps n _ (ends _ _ ⟨h, hu⟩))).1
  next => exact h

theorem handMoves_safe {s : State} (moves : List Move) (d : Option Nat) (h : Safe s) : Safe (s.handMoves moves d) :=
  foldl_keeps (fun _ i => judgeStation_safe i moves d) _ s h

/-! ## Service state, currents and reports (R149 to R156) -/

theorem toIdle_working (st : Station) : Station.working (Station.toIdle st) = false := rfl

theorem afterOut_working (st : Station) (r : OutReason) : Station.working (Station.afterOut st r) = false := by
  cases r
  case management =>
    simp only [Station.afterOut]
    split
    next => rfl
    next h => simpa using h
  all_goals rfl

theorem outOfService_safe {s : State} (i : Nat) (r : OutReason) (h : Safe s) : Safe (s.outOfService i r) := by
  have retracted : Calm s (if Station.working (s.station i) then s.retract i else s) := .ite (retract_frame s i).calm .refl
  have out : Safe ((if Station.working (s.station i) then s.retract i else s).setStation i
      { Station.afterOut (s.station i) r with inService := false }) :=
    retracted.setStation_safe h (.idle (afterOut_working _ r))
  have cascaded (t : State) (p : Prop) [Decidable p] (ht : Safe t) :
      Safe (if p then t.cascade (s.station i).service else t) := by
    split
    · exact (cascade_frame ..).calm.safe ht
    · exact ht
  unfold State.outOfService
  dsimp only
  split
  · exact (notifyStation_frame ..).calm.safe (cascaded _ _ out)
  · exact cascaded _ _ out

theorem backOff_safe {s : State} {i : Nat} (h : Safe s) (he : (s.station i).activity = .engaged) : Safe (s.backOff i) := by
  have working : Station.working (s.station i) = true := by simp [Station.working, he]
  have off : ∀ v : Station, v.actuator = (s.station i).actuator → v.car = (s.station i).car →
      v.service = (s.station i).service → Safe ((s.stationCmd i 2 0).setStation i v) := fun v ha hc hsv =>
    (stationCmd_frame ..).calm.setStation_safe h ((h.mayStand i).congr (fun _ => working) ha hc hsv)
  unfold State.backOff
  dsimp only
  split
  · exact (raiseCause_frame ..).calm.safe (off _ rfl rfl rfl)
  · exact off _ rfl rfl rfl

theorem serviceOut_safe {s : State} (i : Nat) (h : Safe s) : Safe (s.serviceOut i) := by
  unfold State.serviceOut
  refine (stationCmd_frame ..).calm.safe ?_
  split
  · exact outOfService_safe i _ h
  · exact h

theorem departStation_safe {s : State} (i tag : Nat) (h : Safe s) : Safe (s.departStation i tag) := by
  unfold State.departStation
  dsimp only
  split
  · split
    · exact (notifyStation_frame ..).calm.safe ((retract_frame ..).calm.setStation_safe h (.idle rfl))
    next hw => exact setStation_safe i h (.idle (by simpa [Station.working] using hw))
  · exact h

theorem depart_safe {s : State} (tag : Nat) (h : Safe s) : Safe (s.depart tag) :=
  foldl_keeps (fun _ i => departStation_safe i tag) _ s h

theorem resumeStation_safe {s : State} (i : Nat) (armed : s.halt.mode = .armed) (h : Safe s) :
    Safe (s.resumeStation i) := by
  unfold State.resumeStation
  dsimp only
  split
  next hgo =>
    obtain ⟨used, -, -⟩ := hgo
    split
    next c hc =>
      have hopen := List.find?_some hc
      simp only [windowOpen, Bool.and_eq_true] at hopen
      exact engage_safe h armed used (List.mem_of_find?_eq_some hc) hopen.2
    next => exact h
  next => exact h

theorem resumeStations_safe {s : State} (armed : s.halt.mode = .armed) (h : Safe s) : Safe s.resumeStations := by
  refine (foldl_keeps (P := fun t => t.halt.mode = .armed ∧ Safe t) (fun t i ⟨hm, hs⟩ => ?_) _ s ⟨armed, h⟩).2
  have halt : (t.resumeStation i).halt = t.halt := (resumeStation_frame t i).same .halt (by decide)
  exact ⟨halt ▸ hm, resumeStation_safe i hm hs⟩

/-! ## The conveyor (sections 6.1, 6.1.1) -/

/-- A conveyor that may stand in a mode, with its idle timer. -/
theorem setTrack_safe {s : State} {v : Track} (h : Safe s)
    (stop : s.halt.mode ≠ .armed → v.conveyor = .stopped ∨ s.halt.mode = .halting ∧ v.conveyor = .stopping)
    (wait : s.halt.mode = .halting → v.conveyor ≠ .stopped → s.halt.awaitDrive = true)
    (idle : v.idle ≠ none → v.conveyor = .moving) (cars : v.cars = s.track.cars) : Safe (s.setTrack v) := by
  obtain ⟨hhalt, -, hwork, -, -, hlen, hserve⟩ := h
  refine ⟨hhalt, stop, hwork, wait, idle, hlen, fun st hst => (hserve st hst).calm ?_⟩
  exact fun c hc => ⟨c, cars ▸ hc, rfl, rfl⟩

/-- In ARMED the conveyor may take any state, the idle timer running while it moves alone. -/
theorem setTrack_armed_safe {s : State} {v : Track} (h : Safe s) (armed : s.halt.mode = .armed)
    (idle : v.idle ≠ none → v.conveyor = .moving) (cars : v.cars = s.track.cars) : Safe (s.setTrack v) :=
  setTrack_safe h (fun hm => absurd armed hm) (fun hm => by rw [armed] at hm; cases hm) idle cars

/-- A conveyor that does not move has no idle timer. -/
theorem Safe.idle {s : State} (h : Safe s) (hm : s.track.conveyor ≠ .moving) : s.track.idle = none := by
  obtain ⟨-, -, -, -, hidle, -⟩ := h
  refine Classical.byContradiction fun hi => ?_
  exact hm (hidle hi)

/-- A conveyor that starts or moves does so in ARMED. -/
theorem Safe.armed {s : State} (h : Safe s) (h1 : s.track.conveyor ≠ .stopped) (h2 : s.track.conveyor ≠ .stopping) :
    s.halt.mode = .armed := by
  obtain ⟨-, hstop, -⟩ := h
  refine Classical.byContradiction fun hm => ?_
  obtain hs | ⟨-, hs⟩ := hstop hm
  · exact h1 hs
  · exact h2 hs

theorem startConveyor_safe {s : State} (h : Safe s) (armed : s.halt.mode = .armed) (hm : s.track.conveyor ≠ .moving) :
    Safe s.startConveyor := by
  refine (driveCmd_frame ..).calm.safe (setTrack_armed_safe h armed (fun hi => ?_) rfl)
  exact absurd (h.idle hm) hi

theorem takeStart_safe {s : State} (h : Safe s) : Safe s.takeStart := by
  unfold State.takeStart
  split
  next armed =>
    split
    next hc => exact startConveyor_safe h armed (by rw [hc]; decide)
    next => exact h
    next => exact h
    next => exact (setTrack_calm _ _ rfl rfl rfl).safe h
  next => exact h

/-- The conveyor STOPPED satisfies the standstill in every mode (R117). -/
theorem stoppedTrack_safe {s : State} {v : Track} (h : Safe s) (conveyor : v.conveyor = .stopped) (idle : v.idle = none)
    (cars : v.cars = s.track.cars) : Safe (s.setTrack v) :=
  setTrack_safe h (fun _ => .inl conveyor) (fun _ hc => absurd conveyor hc) (fun hi => absurd idle hi) cars

theorem conveyorStopped_safe {s : State} (h : Safe s) (hm : s.track.conveyor ≠ .moving) : Safe s.conveyorStopped := by
  have stopped := stoppedTrack_safe (v := { s.track with conveyor := .stopped, stopWait := none, pendingStart := false })
    h rfl (h.idle hm) rfl
  unfold State.conveyorStopped
  dsimp only
  split
  next hgo => exact startConveyor_safe stopped hgo.2 (by simp)
  next => exact stopped

theorem stopConveyor_safe {s : State} (h : Safe s) (armed : s.halt.mode = .armed) : Safe s.stopConveyor :=
  (driveStop_frame _).calm.safe (setTrack_armed_safe h armed (fun hi => absurd rfl hi) rfl)

theorem runningReport_safe {s : State} (h : Safe s) : Safe s.runningReport := by
  unfold State.runningReport
  split
  next =>
    split
    next armed =>
      have noted := (notifyTrack_frame s 5 none none).calm
      exact stopConveyor_safe (noted.safe h) (noted.halt ▸ armed)
    next => exact h
  next hc =>
    have armed := h.armed (by rw [hc]; decide) (by rw [hc]; decide)
    refine ((judgeSpeed_calm _).trans (review_calm _)).safe (setTrack_armed_safe h armed (fun _ => rfl) rfl)
  next => exact h
  next => exact h

theorem stoppedReport_safe {s : State} (h : Safe s) : Safe s.stoppedReport := by
  unfold State.stoppedReport
  split
  next => exact h
  next => exact h
  next =>
    have own : Safe ((s.setTrack { s.track with conveyor := .stopped, idle := none }).notifyTrack 6 none none) :=
      (notifyTrack_frame ..).calm.safe (stoppedTrack_safe h rfl rfl rfl)
    unfold State.ownStop
    dsimp only
    split
    · exact own
    · exact takeStart_safe own
  next hc => exact conveyorStopped_safe h (by rw [hc]; decide)

end Sys2Proof.Machine
end

section
/-!
The changes of mode under the halt laws (R161, R166 to R173): the halt block set, halt entry and its confirmation, release,
arming and disarming.
-/
namespace Sys2Proof.Machine

-- Proofs in order: a thread that waits for another proof counts against the check's memory limit.
set_option Elab.async false

/-! ## The halt block set within the laws -/

/-- The halt block set in the same mode. -/
theorem Safe.setHalt {s : State} {v : Halt} (h : Safe s) (mode : v.mode = s.halt.mode) (permit : v.permit = s.halt.permit)
    (causes : s.halt.mode = .armed ∨ s.halt.mode = .recovering → v.causes = [])
    (hold : v.hold ≠ none → s.halt.hold ≠ none)
    (timers : v.bcast ≠ none ∨ v.haltWait ≠ none → s.halt.mode = .halting)
    (await : s.halt.mode = .halting → s.track.conveyor ≠ .stopped → v.awaitDrive = true) : Safe (s.setHalt v) := by
  obtain ⟨⟨hp, -, hh, -⟩, hstop, hwork, -, hidle, hlen, hserve⟩ := h
  refine ⟨⟨?_, fun hm => causes (mode ▸ hm), fun hv => ?_, fun hv => ?_⟩, ?_, ?_, ?_, hidle, hlen, hserve⟩
  · simpa [mode, permit] using hp
  · exact mode.trans (hh (hold hv))
  · exact mode.trans (timers hv)
  · simpa [mode] using hstop
  · simpa [mode] using hwork
  · intro hm
    exact await (mode ▸ hm)

theorem Safe.timers {s : State} (h : Safe s) : s.halt.bcast ≠ none ∨ s.halt.haltWait ≠ none → s.halt.mode = .halting :=
  h.1.2.2.2

theorem Safe.awaitDrive {s : State} (h : Safe s) :
    s.halt.mode = .halting → s.track.conveyor ≠ .stopped → s.halt.awaitDrive = true := h.2.2.2.1

theorem Safe.causes {s : State} (h : Safe s) : s.halt.mode = .armed ∨ s.halt.mode = .recovering → s.halt.causes = [] :=
  h.1.2.1

theorem Safe.hold {s : State} (h : Safe s) : s.halt.hold ≠ none → s.halt.mode = .recovering := h.1.2.2.1

theorem Safe.length {s : State} (h : Safe s) : s.stations.length = 24 := h.2.2.2.2.2.1

theorem Safe.still {s : State} (h : Safe s) (hm : s.halt.mode ≠ .armed) :
    ∀ st ∈ s.stations, Station.working st = false := h.2.2.1 hm

/-- A tunnel at rest: outside ARMED, the conveyor STOPPED or awaited, no station at work. -/
theorem safe_at_rest {t : State} (unarmed : t.halt.mode ≠ .armed) (permit : t.halt.permit = false)
    (causes : t.halt.mode = .recovering → t.halt.causes = []) (hold : t.halt.hold ≠ none → t.halt.mode = .recovering)
    (timers : t.halt.bcast ≠ none ∨ t.halt.haltWait ≠ none → t.halt.mode = .halting)
    (stop : t.track.conveyor = .stopped ∨
      t.halt.mode = .halting ∧ t.track.conveyor = .stopping ∧ t.halt.awaitDrive = true)
    (idle : t.track.idle = none) (still : ∀ st ∈ t.stations, Station.working st = false) (length : t.stations.length = 24) :
    Safe t := by
  refine ⟨⟨?_, ?_, hold, timers⟩, fun _ => ?_, fun _ => still, fun _ hc => ?_, fun hi => absurd idle hi, length, ?_⟩
  · rw [permit, beq_eq_false_iff_ne.mpr unarmed]
  · rintro (hm | hm)
    · exact absurd hm unarmed
    · exact causes hm
  · obtain h | ⟨hm, hs, -⟩ := stop
    · exact .inl h
    · exact .inr ⟨hm, hs⟩
  · obtain h | ⟨-, -, ha⟩ := stop
    · exact absurd h hc
    · exact ha
  · intro st hst hw
    rw [still st hst] at hw
    cases hw

/-! ## A change of mode -/

theorem enterMode_halt (s : State) (m : Mode) : (s.enterMode m).halt = { s.halt with mode := m, permit := m == .armed } := by
  have swept (t : State) : t.sweep.halt = t.halt := (sweep_frame t).same .halt (by decide)
  unfold State.enterMode
  rw [swept]
  split <;> rfl

theorem enterMode_track (s : State) (m : Mode) :
    (s.enterMode m).track = if m = .armed then { s.track with drift := 0 } else s.track := by
  have swept (t : State) : t.sweep.track = t.track := (sweep_frame t).same .track (by decide)
  unfold State.enterMode
  rw [swept]
  split <;> rfl

theorem enterMode_stations (s : State) (m : Mode) : (s.enterMode m).stations = s.stations :=
  (enterMode_frame s m).same .stations (by decide)

/-- The halt confirmed (R167, R169). -/
theorem endWait_confirmed (s : State) (drive : s.halt.awaitDrive = false) (stations : s.halt.awaitStations = []) :
    s.endWait = ((s.setHalt { s.halt with bcast := none, haltWait := none }).enterMode .halted).notifyHalt
      (some .halted) none := by
  rw [State.endWait, if_pos ⟨drive, stations⟩]

theorem endWait_awaited (s : State) (h : s.halt.awaitDrive = true ∨ s.halt.awaitStations ≠ []) : s.endWait = s := by
  refine if_neg fun ⟨hd, hs⟩ => ?_
  obtain h | h := h
  · rw [hd] at h
    cases h
  · exact h hs

theorem endWait_safe {s : State} (h : Safe s) (hm : s.halt.mode = .halting) : Safe s.endWait := by
  unfold State.endWait
  split
  next hdone =>
    obtain ⟨hdrive, -⟩ := hdone
    refine (notifyHalt_frame ..).calm.safe ?_
    have hunarmed : s.halt.mode ≠ .armed := by rw [hm]; decide
    have hstopped : s.track.conveyor = .stopped := by
      refine Classical.byContradiction fun hc => ?_
      rw [h.awaitDrive hm hc] at hdrive
      cases hdrive
    have hhold : s.halt.hold = none := by
      refine Classical.byContradiction fun hh => ?_
      rw [h.hold hh] at hm
      cases hm
    apply safe_at_rest <;> simp only [enterMode_halt, enterMode_track, enterMode_stations]
    case stop => exact .inl hstopped
    case idle => exact h.idle (by simp [hstopped])
    case still => exact h.still hunarmed
    case length => exact h.length
    all_goals simp [hhold]
  next => exact h

/-! ## Halt entry (R166, R167) -/

/-- What a release leaves of every station (R148, R157). -/
theorem release_station {s : State} {i k : Nat} (hi : i < s.stations.length) : (s.release i).station k =
    if k = i then { s.station i with activity := .retracting, stepsLeft := 0 } else s.station k := by
  have hr : (s.retract i).stations = s.stations := (retract_frame s i).same .stations (by decide)
  rw [State.release]
  split
  next h =>
    subst h
    exact station_setStation _ (hr ▸ hi)
  next h => rw [station_setStation_ne _ _ h, station_congr hr]

theorem release_length (s : State) (i : Nat) : (s.release i).stations.length = s.stations.length := by
  have hr : (s.retract i).stations = s.stations := (retract_frame s i).same .stations (by decide)
  exact List.length_set.trans (congrArg _ hr)

/-- Several stations released. -/
theorem foldl_release_station {l : List Nat} {s : State} (k : Nat) (hl : ∀ i ∈ l, i < s.stations.length) :
    (l.foldl State.release s).station k =
      (if k ∈ l then { s.station k with activity := .retracting, stepsLeft := 0 } else s.station k) ∧
    (l.foldl State.release s).stations.length = s.stations.length := by
  induction l generalizing s with
  | nil => simp
  | cons i l ih =>
    have hi := hl i List.mem_cons_self
    obtain ⟨hst, hlen⟩ := ih (s := s.release i) fun j hj => by
      rw [release_length]
      exact hl j (List.mem_cons_of_mem _ hj)
    rw [List.foldl_cons, hst, hlen, release_length, release_station hi]
    refine ⟨?_, rfl⟩
    by_cases hk : k = i
    · subst hk
      simp
    · simp [hk]

theorem haltCalled_halt (s : State) (k : CauseKind) (d : CauseDetail) : (s.haltCalled k d).halt =
    { Halt.latch s.halt k d with
      mode := .halting, permit := false, first := some (k, d), hold := none,
      bcast := loaded (s.param .bcastEvery) } := by
  have hb (t : State) : t.broadcast.halt = t.halt := (broadcast_frame t).same .halt (by decide)
  have hparam := ((setHalt_orderly s { Halt.latch s.halt k d with first := some (k, d), hold := none }
    List.length_set).trans ((enterMode_orderly _ .halting).trans (broadcast_orderly _))).param .bcastEvery
  simp only [State.haltCalled, State.setHalt_halt, hb, enterMode_halt, hparam]
  rfl

theorem haltCalled_track (s : State) (k : CauseKind) (d : CauseDetail) : (s.haltCalled k d).track = s.track := by
  have hb (t : State) : t.broadcast.track = t.track := (broadcast_frame t).same .track (by decide)
  simp [State.haltCalled, hb, enterMode_track]

theorem haltCalled_stations (s : State) (k : CauseKind) (d : CauseDetail) : (s.haltCalled k d).stations = s.stations := by
  have hb (t : State) : t.broadcast.stations = t.stations := (broadcast_frame t).same .stations (by decide)
  simp [State.haltCalled, hb, enterMode_stations]

theorem haltStopped_halt (s : State) (k : CauseKind) (d : CauseDetail) :
    (s.haltStopped k d).halt = (s.haltCalled k d).halt := by
  have hdrive (t : State) : t.driveStop.halt = t.halt := (driveStop_frame t).same .halt (by decide)
  have hconveyor (t : State) : t.haltConveyor.halt = t.halt := (haltConveyor_frame t).same .halt (by decide)
  have hretract (t : State) : t.haltRetract.halt = t.halt := (haltRetract_frame t).same .halt (by decide)
  have hwithdraw (t : State) : t.withdraw.halt = t.halt := (withdraw_frame t).same .halt (by decide)
  have hgates (t : State) : t.closeOpenGates.halt = t.halt := (closeOpenGates_frame t).same .halt (by decide)
  have hflags (t : State) : t.flagCars.halt = t.halt := (flagCars_frame t).same .halt (by decide)
  simp only [State.haltStopped, hflags, hgates, hwithdraw, hretract, hconveyor, hdrive]

/-- The conveyor and the cars as halt entry leaves them (R120, R166). -/
theorem haltStopped_track (s : State) (k : CauseKind) (d : CauseDetail) : (s.haltStopped k d).track =
    { s.track with
      conveyor := if s.track.conveyor = .stopped then .stopped else .stopping, startWait := none, stopWait := none,
      idle := none, pendingStart := false,
      cars := s.track.cars.map fun c => { c with haltedDuring := true } } := by
  have hdrive (t : State) : t.driveStop.track = t.track := (driveStop_frame t).same .track (by decide)
  have hretract (t : State) : t.haltRetract.track = t.track := (haltRetract_frame t).same .track (by decide)
  have hwithdraw (t : State) : t.withdraw.track = t.track := (withdraw_frame t).same .track (by decide)
  have hgates (t : State) : t.closeOpenGates.track = t.track := (closeOpenGates_frame t).same .track (by decide)
  simp only [State.haltStopped, State.flagCars, State.setCars, State.setTrack_track, hgates, hwithdraw, hretract,
    State.haltConveyor, hdrive, haltCalled_track]

/-- The stations as halt entry leaves them: the busy ones RETRACTING (R157). -/
theorem haltStopped_station {s : State} (hlen : s.stations.length = 24) (k : CauseKind) (d : CauseDetail) (i : Nat) :
    (s.haltStopped k d).station i =
      (if i ∈ s.busyStations then { s.station i with activity := .retracting, stepsLeft := 0 } else s.station i) ∧
    (s.haltStopped k d).stations.length = 24 := by
  have hdrive (t : State) : t.driveStop.stations = t.stations := (driveStop_frame t).same .stations (by decide)
  have hconveyor (t : State) : t.haltConveyor.stations = t.stations := (haltConveyor_frame t).same .stations (by decide)
  have hwithdraw (t : State) : t.withdraw.stations = t.stations := (withdraw_frame t).same .stations (by decide)
  have hgates (t : State) : t.closeOpenGates.stations = t.stations := (closeOpenGates_frame t).same .stations (by decide)
  have hflags (t : State) : t.flagCars.stations = t.stations := (flagCars_frame t).same .stations (by decide)
  have hbefore : (s.haltCalled k d).driveStop.haltConveyor.stations = s.stations := by
    rw [hconveyor, hdrive, haltCalled_stations]
  have hafter : (s.haltStopped k d).stations = (s.haltCalled k d).driveStop.haltConveyor.haltRetract.stations := by
    rw [State.haltStopped, hflags, hgates, hwithdraw]
  have hbusy : (s.haltCalled k d).driveStop.haltConveyor.busyStations = s.busyStations := by
    have hone : (s.haltCalled k d).driveStop.haltConveyor.busyStation = s.busyStation := by
      funext j
      simp only [State.busyStation, station_congr hbefore]
    rw [State.busyStations, hone, State.busyStations]
  obtain ⟨hst, hl⟩ := foldl_release_station (l := s.busyStations) (s := (s.haltCalled k d).driveStop.haltConveyor) i
    fun j hj => by
      rw [hbefore, hlen]
      exact List.mem_range.mp (List.mem_filter.mp hj).1
  rw [station_congr hafter, hafter, State.haltRetract, hbusy, hst, hl, station_congr hbefore, hbefore]
  exact ⟨rfl, hlen⟩

theorem haltAwaiting_halt (s : State) (k : CauseKind) (d : CauseDetail) : (s.haltAwaiting k d).halt =
    { Halt.latch s.halt k d with
      mode := .halting, permit := false, first := some (k, d), hold := none,
      bcast := loaded (s.param .bcastEvery), awaitDrive := s.track.conveyor != .stopped,
      awaitStations := s.busyStations, haltWait := loaded (s.param .haltWait) } := by
  simp only [State.haltAwaiting, State.setHalt_halt, haltStopped_halt, haltCalled_halt, (haltStopped_orderly s k d).param]

theorem haltAwaiting_track (s : State) (k : CauseKind) (d : CauseDetail) :
    (s.haltAwaiting k d).track = (s.haltStopped k d).track := by
  simp only [State.haltAwaiting, State.setHalt_track]

theorem haltAwaiting_stations (s : State) (k : CauseKind) (d : CauseDetail) :
    (s.haltAwaiting k d).stations = (s.haltStopped k d).stations := by
  simp only [State.haltAwaiting, State.setHalt_stations]

/-- Every station at work is busy, so halt entry leaves none at work. -/
theorem haltStopped_still {s : State} (h : Safe s) (k : CauseKind) (d : CauseDetail) :
    ∀ st ∈ (s.haltStopped k d).stations, Station.working st = false := by
  intro st hst
  obtain ⟨i, hi, rfl⟩ := List.getElem_of_mem hst
  obtain ⟨hstation, hlen⟩ := haltStopped_station h.length k d i
  have hget : (s.haltStopped k d).stations[i] = (s.haltStopped k d).station i := by
    rw [State.station, getD_of_lt _ _ hi]
  rw [hget, hstation]
  split
  next => rfl
  next hbusy =>
    refine Classical.byContradiction fun hw => ?_
    have hw : Station.working (s.station i) = true := by simpa using hw
    obtain ⟨-, hu, -⟩ := h.mayStand i hw
    refine hbusy (List.mem_filter.mpr ⟨List.mem_range.mpr (hlen ▸ hi), ?_⟩)
    have hidle : (s.station i).activity ≠ .idle := by
      intro hidle
      simp [Station.working, hidle] at hw
    simp [State.busyStation, hu, hidle]

theorem haltEntry_safe {s : State} (h : Safe s) (k : CauseKind) (d : CauseDetail) : Safe (s.haltEntry k d) := by
  have hhalt := haltAwaiting_halt s k d
  have htrack := haltAwaiting_track s k d
  have hawait : Safe (s.haltAwaiting k d) := by
    apply safe_at_rest
    case still =>
      rw [haltAwaiting_stations]
      exact haltStopped_still h k d
    case length =>
      rw [haltAwaiting_stations]
      exact (haltStopped_station h.length k d 0).2
    case stop =>
      rw [hhalt, htrack, haltStopped_track]
      by_cases hc : s.track.conveyor = .stopped
      · exact .inl (if_pos hc)
      · exact .inr ⟨rfl, if_neg hc, bne_iff_ne.mpr hc⟩
    case idle => rw [htrack, haltStopped_track]
    all_goals simp [hhalt]
  have hnoted := (notifyHalt_frame (s.haltAwaiting k d) (some .halting) (some k)).calm
  rw [haltEntry_eq]
  exact endWait_safe (hnoted.safe hawait) (by rw [hnoted.halt, hhalt])

/-- A cause joins the set where no halt entry follows (R165). -/
theorem latch_safe {s : State} (h : Safe s) (h1 : s.halt.mode ≠ .armed) (h2 : s.halt.mode ≠ .recovering) (k : CauseKind)
    (d : CauseDetail) : Safe (s.setHalt (Halt.latch s.halt k d)) :=
  h.setHalt rfl rfl (fun hm => absurd hm (by simp [h1, h2])) id h.timers h.awaitDrive

theorem takeCause_safe {s : State} (h : Safe s) (k : CauseKind) (d : CauseDetail) : Safe (s.takeCause k d) := by
  have join (h1 : s.halt.mode ≠ .armed) (h2 : s.halt.mode ≠ .recovering) :
      Safe ((s.setHalt (Halt.latch s.halt k d)).notifyHalt none (some k)) :=
    (notifyHalt_frame ..).calm.safe (latch_safe h h1 h2 k d)
  unfold State.takeCause
  split
  next => exact haltEntry_safe h k d
  next => exact haltEntry_safe h k d
  all_goals
    next hm => exact join (by rw [hm]; decide) (by rw [hm]; decide)

theorem lineAsserted_safe {s : State} (h : Safe s) : Safe s.lineAsserted := by
  unfold State.lineAsserted
  split
  · exact h
  · have asserted : Safe (s.setHalt { s.halt with estopLine := true }) :=
      h.setHalt rfl rfl h.causes id h.timers h.awaitDrive
    exact takeCause_safe asserted _ _

/-! ## Confirmation (R168 to R170) -/

theorem conveyorStopped_halt (s : State) : s.conveyorStopped.halt = s.halt :=
  (conveyorStopped_frame s).same .halt (by decide)

/-- Outside ARMED a conveyor that stops stays STOPPED (R117). -/
theorem conveyorStopped_unarmed {s : State} (h : s.halt.mode ≠ .armed) : s.conveyorStopped =
    s.setTrack { s.track with conveyor := .stopped, stopWait := none, pendingStart := false } := by
  unfold State.conveyorStopped
  exact if_neg fun hgo => h hgo.2

/-- In HALTING the conveyor stops without the drive being awaited any longer. -/
theorem confirmDrive_safe {s : State} (h : Safe s) : Safe s.confirmDrive := by
  unfold State.confirmDrive
  split
  next hgo =>
    obtain ⟨hm, -⟩ := hgo
    refine endWait_safe ?_ (by rw [conveyorStopped_halt]; exact hm)
    have hstopped : (s.setHalt { s.halt with awaitDrive := false }).conveyorStopped =
        (s.setTrack { s.track with conveyor := .stopped, stopWait := none, pendingStart := false }).setHalt
          { s.halt with awaitDrive := false } := conveyorStopped_unarmed (by simp [hm])
    rw [hstopped]
    have hidle : s.track.idle = none := h.idle fun hmoving => by
      have := h.armed (by rw [hmoving]; decide) (by rw [hmoving]; decide)
      rw [this] at hm
      cases hm
    have still : Safe (s.setTrack { s.track with conveyor := .stopped, stopWait := none, pendingStart := false }) :=
      stoppedTrack_safe h rfl hidle rfl
    exact still.setHalt rfl rfl still.causes id still.timers fun _ hc => absurd rfl hc
  next => exact h

theorem confirmStation_safe {s : State} (h : Safe s) (i : Nat) : Safe (s.confirmStation i) := by
  unfold State.confirmStation
  split
  next hgo => exact endWait_safe (h.setHalt rfl rfl h.causes id h.timers h.awaitDrive) hgo.1
  next => exact h

theorem retractedReport_safe {s : State} (h : Safe s) (i : Nat) : Safe (s.retractedReport i) := by
  unfold State.retractedReport
  dsimp only
  refine confirmStation_safe ?_ i
  split
  · exact setStation_safe i h (.idle rfl)
  · exact h

theorem engagedReport_safe {s : State} (h : Safe s) (i : Nat) : Safe (s.engagedReport i) := by
  unfold State.engagedReport
  dsimp only
  split
  · exact ((notifyStation_frame ..).calm.trans (retract_frame ..).calm).setStation_safe h (.idle rfl)
  · exact h

/-! ## Release, the hold's end, arming and disarming (R172 to R176) -/

theorem recover_safe {s : State} (h : Safe s) (hm : s.halt.mode = .halted) (hcauses : s.halt.causes = []) :
    Safe s.recover := by
  have hunarmed : s.halt.mode ≠ .armed := by rw [hm]; decide
  have hstopped : s.track.conveyor = .stopped := by
    obtain hs | ⟨hh, -⟩ := h.2.1 hunarmed
    · exact hs
    · rw [hm] at hh
      cases hh
  have htimers : ¬(s.halt.bcast ≠ none ∨ s.halt.haltWait ≠ none) := fun ht => by
    rw [h.timers ht] at hm
    cases hm
  have warned := (offerUrgent_frame (s.enterMode .recovering) .f
    (ownFrame Config.broadcastAddr Config.kWarn [byte ((s.enterMode .recovering).param .holdTicks)])).calm
  unfold State.recover
  refine ((closeOpenGates_frame _).calm.trans (notifyHalt_frame ..).calm).safe ?_
  apply safe_at_rest <;>
    simp only [State.setHalt_halt, State.setHalt_track, State.setHalt_stations, warned.halt, warned.stations, warned.conveyor, enterMode_halt,
      enterMode_track, enterMode_stations]
  case stop => exact .inl hstopped
  case idle =>
    have htrack := (offerUrgent_frame (s.enterMode .recovering) .f
      (ownFrame Config.broadcastAddr Config.kWarn [byte ((s.enterMode .recovering).param .holdTicks)])).same .track
      (by decide)
    rw [htrack, enterMode_track]
    exact h.idle (by simp [hstopped])
  case still => exact h.still hunarmed
  case length => exact h.length
  case causes => exact fun _ => hcauses
  case timers => exact fun ht => absurd ht htimers
  all_goals simp

/-- A tunnel at rest with no cause is armed (R173, R175). -/
theorem enterArmed_safe {s : State} (h : Safe s) (hhold : s.halt.hold = none) (hcauses : s.halt.causes = [])
    (hm : s.halt.mode ≠ .halting) : Safe (s.enterMode .armed) := by
  have htimers : ¬(s.halt.bcast ≠ none ∨ s.halt.haltWait ≠ none) := fun ht => hm (h.timers ht)
  obtain ⟨-, -, -, -, hidle, hlen, hserve⟩ := h
  refine ⟨?_, ?_⟩
  · unfold HaltLaw
    rw [enterMode_halt]
    exact ⟨rfl, fun _ => hcauses, fun hh => absurd hhold hh, fun ht => absurd ht htimers⟩
  · unfold StandstillLaw
    rw [enterMode_halt, enterMode_track, enterMode_stations, if_pos rfl]
    refine ⟨fun hh => absurd rfl hh, fun hh => absurd rfl hh, fun hh => absurd hh (by simp), hidle, hlen, fun st hst => ?_⟩
    refine (hserve st hst).calm fun c hc => ⟨c, ?_, rfl, rfl⟩
    rw [enterMode_track, if_pos rfl]
    exact hc

theorem arm_safe {s : State} (h : Safe s) (hm : s.halt.mode = .offline) (hcauses : s.halt.causes = []) : Safe s.arm := by
  have hhold : s.halt.hold = none := by
    refine Classical.byContradiction fun hh => ?_
    rw [h.hold hh] at hm
    cases hm
  have ready : Calm s ([0, 1, 2].foldl State.openPresent (s.setTrack { s.track with eyes := s.checkEyes })) :=
    (setTrack_calm _ _ (by exact rfl) (by exact rfl) (by exact rfl)).trans (.foldl (fun t l => (openPresent_frame t l).calm) _ _)
  unfold State.arm
  refine ((notifyHalt_frame ..).calm.trans (review_calm _)).safe (enterArmed_safe (ready.safe h) ?_ ?_ ?_)
  · rw [ready.halt, hhold]
  · rw [ready.halt, hcauses]
  · rw [ready.halt, hm]
    decide

theorem disarm_safe {s : State} (h : Safe s) (hm : s.halt.mode = .armed ∨ s.halt.mode = .halted)
    (hbar : s.disarmBarred = false) : Safe s.disarm := by
  simp only [State.disarmBarred, Bool.or_eq_false_iff, Bool.and_eq_false_iff, Bool.not_eq_false', List.isEmpty_iff,
    beq_eq_false_iff_ne, bne_eq_false_iff_eq] at hbar
  obtain ⟨hcars, hconv⟩ := hbar
  have hstopped : s.track.conveyor = .stopped := by
    obtain harmed | hhalted := hm
    · exact hconv.resolve_left (fun hne => hne harmed)
    · obtain hs | ⟨hh, -⟩ := h.2.1 (by rw [hhalted]; decide)
      · exact hs
      · rw [hhalted] at hh
        cases hh
  have htimers : ¬(s.halt.bcast ≠ none ∨ s.halt.haltWait ≠ none) := fun ht => by
    simp [h.timers ht] at hm
  have hhold : s.halt.hold = none := by
    refine Classical.byContradiction fun hh => ?_
    simp [h.hold hh] at hm
  have still : ∀ st ∈ s.stations, Station.working st = false := by
    intro st hst
    refine Classical.byContradiction fun hw => ?_
    obtain ⟨-, c, hc, -⟩ := h.2.2.2.2.2.2 st hst (by simpa using hw)
    rw [hcars] at hc
    cases hc
  have closed (t : State) : Calm t (([0, 1, 2].foldl (fun t l => t.closeLane l (some .tunnelOffline)) t).withdraw.closeOpenGates.notifyHalt
      (some .offline) none) :=
    (((Calm.foldl (fun t l => (closeLane_frame t l _).calm) _ t).trans (withdraw_frame _).calm).trans
      (closeOpenGates_frame _).calm).trans (notifyHalt_frame ..).calm
  unfold State.disarm
  refine (closed _).safe ?_
  apply safe_at_rest <;> simp only [enterMode_halt, enterMode_track, enterMode_stations]
  case stop => exact .inl hstopped
  case idle => exact h.idle (by simp [hstopped])
  case still => exact still
  case length => exact h.length
  case timers => exact fun ht => absurd ht htimers
  all_goals simp [hhold]

end Sys2Proof.Machine
end

section
/-!
The halt laws and the standstill kept by every command (R157, R161): the obligation O55.
-/
namespace Sys2Proof.Machine

-- Proofs in order: a thread that waits for another proof counts against the check's memory limit.
set_option Elab.async false

/-! ## Ways to keep the laws -/

theorem taking_safe {c : Instr} {s : State} {g : State → State} (h : Safe s) (hg : ∀ t, Safe t → Safe (g t)) :
    Answers Safe (taking c s g) :=
  taking_answers h (hg _ ((setHanded_frame ..).calm.safe h))

theorem taking_calm {c : Instr} {s : State} {g : State → State} (h : Safe s) (hg : ∀ t, Calm t (g t)) :
    Answers Safe (taking c s g) := taking_safe h fun t => (hg t).safe

theorem reply_calm (s : State) (seq : Byte) (code : Nat) (st : Status) (d : List Byte) :
    Calm s (s.reply seq code st d) := (reply_frame ..).calm

theorem reply_safe {s : State} (seq : Byte) (code : Nat) (st : Status) (d : List Byte) (h : Safe s) :
    Safe (s.reply seq code st d) := (reply_calm ..).safe h

/-! ## Tracking -/

theorem correct_safe {s : State} {j : Nat} {c : Car} (h : Safe s) (hc : s.track.cars[j]? = some c) (k pos : Nat) :
    Safe (s.correct j k pos c) := by
  have near := nearMiss_calm hc k (sightingError pos c)
  unfold State.correct
  dsimp only
  split
  · exact (near.trans (raiseCause_frame ..).calm).safe h
  · split
    · exact near.safe h
    · exact handMoves_safe _ _ ((near.trans (modifyCar_calm _ j (fun c => { c with front := pos })
        fun _ => ⟨rfl, rfl⟩)).safe h)

theorem sighting_safe {s : State} (h : Safe s) (src k pos : Nat) : Safe (s.sighting src k pos) := by
  have fault (car : Option Nat) : Safe (s.trackFault src k car) := (trackFault_frame ..).calm.safe h
  unfold State.sighting
  split
  · exact fault _
  · split
    · exact h
    next c hc =>
      refine (modifyCar_calm _ _ _ (by exact fun _ => ⟨rfl, rfl⟩)).safe ?_
      split
      · exact correct_safe h hc k pos
      · exact fault _

theorem judgeExit_safe {s : State} (h : Safe s) (src : Nat) : Safe (s.judgeExit src) := by
  have fault (car : Option Nat) : Safe (s.trackFault src exitEyeIndex car) := (trackFault_frame ..).calm.safe h
  unfold State.judgeExit
  split
  · exact fault _
  next c hc =>
    split
    · exact fault _
    · split
      · exact (notifyTrack_frame ..).calm.safe h
      · exact (modifyCar_calm _ 0 _ (by exact fun _ => ⟨rfl, rfl⟩)).safe
          (correct_safe h (List.head?_eq_getElem? ▸ hc) _ _)

theorem takeEarly_safe {s : State} (h : Safe s) (l : List (CauseKind × CauseDetail)) (e : Option Nat) :
    Safe (s.takeEarly l e) := by
  unfold State.takeEarly
  split
  · exact takeCause_safe ((setRaised_frame ..).calm.safe h) _ _
  · exact h

theorem applyStep_safe {s : State} (h : Safe s) (d : Nat) (e : Option Nat) : Safe (s.applyStep d e) := by
  have moved : Calm s ((s.moveCars d).setCars ((s.moveCars d).track.cars.map (s.moveCars d).passEye)) :=
    (moveCars_calm s d).trans (mapCars_calm _ _ (passEye_same _))
  unfold State.applyStep
  exact (review_calm _).safe (handMoves_safe _ _ (takeEarly_safe ((setRaised_frame ..).calm.safe (moved.safe h)) _ _))

/-! ### A car that leaves (R137, R153) -/

/-- A station as the departure of a car leaves it (R153). -/
def departed (tag : Nat) (st : Station) : Station :=
  if st.car = some tag then
    { st with activity := if Station.working st then .retracting else st.activity, car := none }
  else st

theorem departStation_station {s : State} {i k : Nat} (tag : Nat) (hi : i < s.stations.length) :
    (s.departStation i tag).station k = if k = i then departed tag (s.station k) else s.station k := by
  have hr : (s.retract i).stations = s.stations := (retract_frame s i).same .stations (by decide)
  have set (t : State) (v : Station) (ht : t.stations = s.stations) :
      (t.setStation i v).station k = if k = i then v else s.station k := by
    split
    next h =>
      subst h
      exact station_setStation _ (ht ▸ hi)
    next h => rw [station_setStation_ne _ _ h, station_congr ht]
  have noted (t : State) (n : Nat) (g : Option Nat) : (t.notifyStation n i g).station k = t.station k :=
    station_congr ((notifyStation_frame ..).same .stations (by decide)) k
  unfold State.departStation departed
  dsimp only
  by_cases hk : k = i
  · subst hk
    split
    next hcar =>
      split
      next hw => rw [noted, set _ _ hr]
      next hw => rw [set _ _ rfl]
    next => simp
  · rw [if_neg hk]
    split
    · split
      · rw [noted, set _ _ hr, if_neg hk]
      · rw [set _ _ rfl, if_neg hk]
    · rfl

theorem departStation_length (s : State) (i tag : Nat) : (s.departStation i tag).stations.length = s.stations.length := by
  have hr : (s.retract i).stations = s.stations := (retract_frame s i).same .stations (by decide)
  unfold State.departStation
  dsimp only
  split
  · split
    · exact List.length_set.trans (congrArg _ hr)
    · exact List.length_set
  · rfl

/-- Station by station, an operation that changes one station only. -/
theorem foldl_station {g : State → Nat → State} {f : Station → Station}
    (hg : ∀ t i k, i < t.stations.length → (g t i).station k = if k = i then f (t.station k) else t.station k)
    (hlen : ∀ t i, (g t i).stations.length = t.stations.length) {l : List Nat} (hl : l.Nodup) (k : Nat) :
    ∀ s : State, (∀ i ∈ l, i < s.stations.length) →
      (l.foldl g s).station k = if k ∈ l then f (s.station k) else s.station k := by
  induction l with
  | nil => intro s _; simp
  | cons i l ih =>
    intro s hs
    obtain ⟨hi, hnodup⟩ := List.nodup_cons.mp hl
    have hrest : ∀ j ∈ l, j < (g s i).stations.length := fun j hj => by
      rw [hlen]
      exact hs j (List.mem_cons_of_mem _ hj)
    rw [List.foldl_cons, ih hnodup _ hrest, hg s i k (hs i List.mem_cons_self)]
    by_cases hk : k = i
    · subst hk
      simp [hi]
    · simp [hk]

theorem depart_station {s : State} (hlen : s.stations.length = 24) (tag : Nat) {k : Nat} (hk : k < 24) :
    (s.depart tag).station k = departed tag (s.station k) := by
  have h := foldl_station (g := fun t i => t.departStation i tag) (f := departed tag)
    (fun t i k hi => departStation_station tag hi) (fun t i => departStation_length t i tag) (l := stationNumbers)
    List.nodup_range k s (fun i hi => by rw [hlen]; exact List.mem_range.mp hi)
  rw [State.depart, h]
  exact if_pos (List.mem_range.mpr hk)

theorem departed_car (tag : Nat) (st : Station) : (departed tag st).car ≠ some tag := by
  unfold departed
  split
  · simp
  next h => exact h

/-- Every station of the table has its number. -/
theorem exists_station {s : State} {st : Station} (h : st ∈ s.stations) : ∃ i, i < s.stations.length ∧ s.station i = st := by
  obtain ⟨i, hi, rfl⟩ := List.getElem_of_mem h
  exact ⟨i, hi, getD_of_lt _ _ hi⟩

/-- A car that no station holds may go. -/
theorem eraseCar_safe {s : State} (h : Safe s) (tag : Nat) (hcar : ∀ i, i < 24 → (s.station i).car ≠ some tag) :
    Safe (s.setCars (s.track.cars.eraseP fun d => d.tag == tag)) := by
  obtain ⟨hhalt, hstop, hwork, hwait, hidle, hlen, hserve⟩ := h
  refine ⟨hhalt, hstop, hwork, hwait, hidle, hlen, fun st hst hw => ?_⟩
  obtain ⟨hu, e, he, hst', hsvc⟩ := hserve st hst hw
  obtain ⟨i, hi, rfl⟩ := exists_station (s := s) hst
  have htag : ¬(fun d : Car => d.tag == tag) e = true := fun heq => hcar i (hlen ▸ hi) (by rw [hst', beq_iff_eq.mp heq])
  exact ⟨hu, e, (List.mem_eraseP_of_neg (p := fun d : Car => d.tag == tag) htag).mpr he, hst', hsvc⟩

theorem leave_safe {s : State} (h : Safe s) (c : Car) (removed : Bool) : Safe (s.leave c removed) := by
  have sent := (toSite_frame (s.depart c.tag) Config.kReport (completion c removed)).calm
  have gone := eraseCar_safe (sent.safe (depart_safe c.tag h)) c.tag fun i hi => by
    rw [station_congr sent.stations, depart_station h.length c.tag hi]
    exact departed_car _ _
  unfold State.leave
  exact ((freeBound_frame ..).calm.trans (review_calm _)).safe gone

/-! ## Timers and expiries -/

theorem tick_ne_none {t : Timer} (h : Timer.tick t ≠ none) : t ≠ none := by
  rintro rfl
  exact h rfl

theorem tick_safe {s : State} (h : Safe s) : Safe s.tick := by
  obtain ⟨⟨hp, hc, hh, hb⟩, hstop, hwork, hwait, hidle, hlen, hserve⟩ := h
  refine ⟨⟨hp, hc, fun hv => hh (tick_ne_none hv), fun hv => hb ?_⟩, hstop, hwork, hwait,
    fun hi => hidle (tick_ne_none hi), hlen, hserve⟩
  exact hv.imp tick_ne_none tick_ne_none

theorem due_ne_none {t : Timer} (h : Timer.due t = true) : t ≠ none := by
  rintro rfl
  cases h

theorem broadcast_safe {s : State} (h : Safe s) (hm : s.halt.mode = .halting) :
    Safe (s.broadcast.setHalt { s.broadcast.halt with bcast := loaded (s.broadcast.param .bcastEvery) }) := by
  have sent := (broadcast_frame s).calm
  have ht := sent.safe h
  exact ht.setHalt rfl rfl ht.causes id (fun _ => sent.halt ▸ hm) ht.awaitDrive

/-- The awaited stations go out of service one by one (R170). -/
theorem foldl_outOfService_safe (l : List Nat) {s : State} (h : Safe s) :
    Safe (l.foldl (fun t i => t.outOfService i .unconfirmed) s) :=
  foldl_keeps (fun _ i => outOfService_safe i _) l s h

theorem foldl_outOfService_frame (l : List Nat) (s : State) :
    SameExcept outParts s (l.foldl (fun t i => t.outOfService i .unconfirmed) s) :=
  SameExcept.foldl (fun t i => outOfService_frame t i .unconfirmed) l s

/-- The halt wait's expiry after its cause and its stations (R170, steps 1 and 2). -/
def State.haltForcedOut (s : State) : State :=
  s.halt.awaitStations.foldl (fun t i => t.outOfService i .unconfirmed)
    (s.setHalt (Halt.latch s.halt .stopUnconfirmed s.unconfirmedDetail))

/-- The halt wait's expiry with the conveyor STOPPED where it was awaited (R170, step 3). -/
def State.haltForced (s : State) : State := if s.halt.awaitDrive then s.haltForcedOut.conveyorStopped else s.haltForcedOut

theorem execHaltWaitExpiry_eq (s : State) : execHaltWaitExpiry s = whenDue (Timer.due s.halt.haltWait) s fun s =>
    ((s.haltForced.setHalt { s.haltForced.halt with
      awaitDrive := false, awaitStations := [], bcast := none, haltWait := none }).enterMode .halted).notifyHalt
      (some .halted) (some .stopUnconfirmed) := rfl

theorem haltForcedOut_halt (s : State) : s.haltForcedOut.halt = Halt.latch s.halt .stopUnconfirmed s.unconfirmedDetail :=
  (foldl_outOfService_frame _ _).same .halt (by decide)

theorem haltForcedOut_track (s : State) : s.haltForcedOut.track = s.track :=
  (foldl_outOfService_frame _ _).same .track (by decide)

theorem haltForced_halt (s : State) : s.haltForced.halt = Halt.latch s.halt .stopUnconfirmed s.unconfirmedDetail := by
  unfold State.haltForced
  split
  · rw [conveyorStopped_halt, haltForcedOut_halt]
  · exact haltForcedOut_halt s

theorem haltForced_stations (s : State) : s.haltForced.stations = s.haltForcedOut.stations := by
  unfold State.haltForced
  split
  · exact (conveyorStopped_frame _).same .stations (by decide)
  · rfl

theorem haltForced_track {s : State} (hm : s.halt.mode ≠ .armed) : s.haltForced.track =
    if s.halt.awaitDrive then { s.track with conveyor := .stopped, stopWait := none, pendingStart := false }
    else s.track := by
  have hmode : s.haltForcedOut.halt.mode ≠ .armed := by rw [haltForcedOut_halt]; exact hm
  unfold State.haltForced
  split
  · rw [conveyorStopped_unarmed hmode, State.setTrack_track, haltForcedOut_track]
  · exact haltForcedOut_track s

theorem execHaltWaitExpiry_safe {s : State} (h : Safe s) : Answers Safe (execHaltWaitExpiry s) := by
  rw [execHaltWaitExpiry_eq]
  refine whenDue_answers h fun hdue => ?_
  have hm := h.timers (.inr (due_ne_none hdue))
  have hunarmed : s.halt.mode ≠ .armed := by rw [hm]; decide
  have out : Safe s.haltForcedOut :=
    foldl_outOfService_safe _ (latch_safe h hunarmed (by rw [hm]; decide) .stopUnconfirmed s.unconfirmedDetail)
  have hidle : s.track.idle = none := h.idle fun hmoving =>
    hunarmed (h.armed (by rw [hmoving]; decide) (by rw [hmoving]; decide))
  refine (notifyHalt_frame ..).calm.safe ?_
  apply safe_at_rest <;>
    simp only [enterMode_halt, enterMode_track, enterMode_stations, State.setHalt_halt, State.setHalt_stations,
      State.setHalt_track, haltForced_stations, haltForced_halt, haltForced_track hunarmed]
  case stop =>
    refine .inl ?_
    split
    next h => cases h
    next =>
      split
      next => rfl
      next hdrive =>
        refine Classical.byContradiction fun hc => ?_
        exact hdrive (h.awaitDrive hm hc)
  case idle => split <;> first | contradiction | split <;> exact hidle
  case still => exact out.still (by rw [haltForcedOut_halt]; exact hunarmed)
  case length => exact out.length
  case hold =>
    intro hhold
    have := h.hold hhold
    rw [hm] at this
    cases this
  all_goals simp

theorem execHoldTimerExpiry_safe {s : State} (h : Safe s) : Answers Safe (execHoldTimerExpiry s) := by
  refine whenDue_answers h fun hdue => ?_
  have hm := h.hold (due_ne_none hdue)
  have cleared : Safe (s.setHalt { s.halt with hold := none }) :=
    h.setHalt rfl rfl h.causes (fun hn => absurd rfl hn) h.timers h.awaitDrive
  have armed := enterArmed_safe cleared rfl (h.causes (.inr hm)) (by simp [hm])
  generalize hu : (s.setHalt { s.halt with hold := none }).enterMode .armed = u at armed
  have umode : u.halt.mode = .armed := by
    rw [← hu, enterMode_halt]
  have started : Safe (if u.track.cars = [] then u else u.takeStart) ∧
      (if u.track.cars = [] then u else u.takeStart).halt.mode = .armed := by
    split
    · exact ⟨armed, umode⟩
    · exact ⟨takeStart_safe armed, ((takeStart_frame u).same .halt (by decide) : u.takeStart.halt = u.halt) ▸ umode⟩
  dsimp only
  exact ((notifyHalt_frame ..).calm.trans (review_calm _)).safe (resumeStations_safe started.2 started.1)

/-! ## Writes and resets -/

/-- A station image that passes its judgement outside OFFLINE keeps the actuator and the service (R143). -/
theorem written_mayStand {s : State} {i : Nat} {b : Nat → Byte} (h : Safe s) (hj : s.judgeStationWrite i b = .good) :
    MayStand s (Station.written (s.station i) b) := by
  intro hw
  have hworking : Station.working (s.station i) = true := hw
  obtain ⟨harmed, hused, c, hc, hcar, hsvc⟩ := h.mayStand i hworking
  have hsame : sameGeometry (Station.written (s.station i) b) (s.station i) = true := by
    unfold State.judgeStationWrite at hj
    dsimp only at hj
    unfold Verdict.andThen at hj
    split at hj
    next =>
      refine Classical.byContradiction fun hne => ?_
      rw [if_pos ⟨by rw [harmed]; decide, by simpa using hne⟩] at hj
      cases hj
    next => cases hj
    next => cases hj
  simp only [sameGeometry, Bool.and_eq_true, beq_iff_eq] at hsame
  obtain ⟨⟨-, hactuator⟩, hservice⟩ := And.intro hsame hsame.1.1.1.1.2
  refine ⟨harmed, ?_, c, hc, hcar, ?_⟩
  · rw [Station.used, hactuator]
    exact hused
  · rw [hservice]
    exact hsvc

theorem writeStation_safe {s : State} {i : Nat} {b : Nat → Byte} (h : Safe s) (hj : s.judgeStationWrite i b = .good) :
    Safe (s.writeStation i b) := by
  have written := setStation_safe i h (written_mayStand h hj)
  unfold State.writeStation
  dsimp only
  split
  · exact (cascade_frame ..).calm.safe written
  · exact written

/-- Everything after a reset is at rest in OFFLINE. -/
theorem fresh_safe {s : State} (halt : s.halt = .fresh) (track : s.track = .fresh)
    (still : ∀ st ∈ s.stations, Station.working st = false) (length : s.stations.length = 24) : Safe s := by
  apply safe_at_rest
  case still => exact still
  case length => exact length
  case stop => rw [track]; exact .inl rfl
  case idle => rw [track]; rfl
  all_goals simp [halt, Halt.fresh]

theorem powerOn_safe (l : List Instr) : Safe { State.reset with pending := l } :=
  fresh_safe rfl rfl (fun st hst => by rw [List.eq_of_mem_replicate hst]; rfl) rfl

theorem lineReset_safe {s : State} (h : Safe s) : Safe s.lineReset := by
  refine fresh_safe rfl rfl (fun st hst => ?_) ((List.length_map _).trans h.length)
  obtain ⟨old, -, rfl⟩ := List.mem_map.mp hst
  rfl

theorem endReset_calm (s : State) : Calm s s.endReset := (endReset_frame s).calm

theorem takeEstop_safe {s : State} (h : Safe s) (estop : Bool) : Safe (s.takeEstop estop) := by
  unfold State.takeEstop
  split
  · exact lineAsserted_safe h
  · exact h

/-! ## Command by command -/

theorem execActState_safe {s : State} (h : Safe s) (i : Nat) (report : ActReport) : Answers Safe (execActState i report s) := by
  refine taking_safe h fun t ht => ?_
  split
  · cases report
    · exact engagedReport_safe ht i
    · exact retractedReport_safe ht i
    · exact retractedReport_safe ht i
  · exact ht

theorem execCurrent_safe {s : State} (h : Safe s) (i value : Nat) : Answers Safe (execCurrent i value s) := by
  refine taking_safe h fun t ht => ?_
  dsimp only
  split
  · have taken : Safe (t.setStation i { t.station i with lastCurrent := value }) :=
      setStation_safe i ht ((ht.mayStand i).congr (by exact id) rfl rfl rfl)
    split
    next hgo =>
      refine backOff_safe taken ?_
      by_cases hi : i < t.stations.length
      · rw [station_setStation _ hi]
        exact hgo.1
      · have hb : t.station i = .blank := station_outside t (by omega)
        rw [hb] at hgo
        exact absurd hgo.1 (by decide)
    next =>
      split
      · exact outOfService_safe i _ taken
      · exact taken
  · exact ht

theorem execDriveState_safe {s : State} (h : Safe s) (src : Nat) (report : DriveReport) (level : Nat) (roller : Bool) :
    Answers Safe (execDriveState src report level roller s) := by
  refine taking_safe h fun t ht => ?_
  have recorded : Safe ((t.judgeRoller roller).recordReport report level roller) :=
    ((judgeRoller_calm t roller).trans (setTrack_calm _ _ rfl rfl rfl)).safe ht
  cases report
  · exact runningReport_safe recorded
  · exact stoppedReport_safe recorded
  · exact (raiseCause_frame ..).calm.safe recorded

theorem execHaltDriveConfirm_safe {s : State} (h : Safe s) (src : Nat) (report : DriveReport) :
    Answers Safe (execHaltDriveConfirm src report s) := by
  refine taking_safe h fun t ht => ?_
  cases report
  · exact ht
  · exact confirmDrive_safe ht
  · exact ht

theorem execNodeFrameTake_safe {s : State} (h : Safe s) (p : PortId) : Answers Safe (execNodeFrameTake p s) := by
  have port (q : Port) : Calm s (s.setPort p q) := (setPort_frame s p q).calm (by cases p <;> decide)
  refine running_answers h ?_
  split
  · exact h
  · split
    · exact h
    · exact (((port _).trans ((judgeResume_frame _ p).calm (by cases p <;> decide))).trans (judgeFrame_calm ..)).safe h

theorem execStep_safe {s : State} (h : Safe s) (src : Nat) (delta : Byte) (early : Option Nat) :
    Answers Safe (execStep src delta early s) := by
  refine taking_safe h fun t ht => ?_
  dsimp only
  split
  · exact ht
  · split
    · exact ((raiseCause_frame ..).calm.trans (notifyTrack_frame ..).calm).safe ht
    · exact applyStep_safe ht _ early

theorem execEntryEyeBlocked_safe {s : State} (h : Safe s) (src : Nat) : Answers Safe (execEntryEyeBlocked src s) :=
  taking_calm h fun t => .ite (notifyTrack_frame ..).calm (.ite
    ((setMerge_frame ..).calm.trans (notifyTrack_frame ..).calm) ((setMerge_frame ..).calm.trans (frontEdge_calm _ src)))

theorem execMergeEyeBlocked_safe {s : State} (h : Safe s) (lane : Nat) : Answers Safe (execMergeEyeBlocked lane s) := by
  refine taking_calm h fun t => ?_
  have eye (v : LaneMerge) : Calm t (t.setMergeLane lane v) := (setMerge_frame ..).calm
  dsimp only
  split
  · exact (eye _).trans (markUnpaid_frame ..).calm
  · exact .ite ((eye _).trans ((stage_frame ..).calm.trans (review_calm _))) (eye _)

theorem execMergeEyeClear_safe {s : State} (h : Safe s) (lane : Nat) : Answers Safe (execMergeEyeClear lane s) := by
  refine taking_calm h fun t => ?_
  have eye (v : LaneMerge) : Calm t (t.setMergeLane lane v) := (setMerge_frame ..).calm
  dsimp only
  split
  · exact eye _
  · exact .ite ((eye _).trans ((setOrderState_frame ..).calm.trans (judgeConveyor_calm _))) (eye _)

theorem execCheckEyeEdge_safe {s : State} (h : Safe s) (src : Nat) (blocked : Bool) :
    Answers Safe (execCheckEyeEdge src blocked s) := by
  refine taking_safe h fun t ht => ?_
  split
  · exact ht
  · split
    · exact ht
    · exact sighting_safe ht ..

theorem execExitEyeBlocked_safe {s : State} (h : Safe s) (src : Nat) : Answers Safe (execExitEyeBlocked src s) := by
  refine taking_safe h fun t ht => ?_
  have eye : Safe (t.setTrack { t.track with exitBlocked := true }) := (setTrack_calm _ _ rfl rfl rfl).safe ht
  dsimp only
  split
  · exact eye
  · exact judgeExit_safe eye src

theorem execExitEyeClear_safe {s : State} (h : Safe s) (src : Nat) : Answers Safe (execExitEyeClear src s) := by
  refine taking_safe h fun t ht => ?_
  have eye : Safe (t.setTrack { t.track with exitBlocked := false }) := (setTrack_calm _ _ rfl rfl rfl).safe ht
  dsimp only
  split
  · exact leave_safe eye _ _
  · split
    · exact eye
    · exact (notifyTrack_frame ..).calm.safe eye

theorem execWheelSwitchEdge_safe {s : State} (h : Safe s) (src : Nat) (blocked : Bool) :
    Answers Safe (execWheelSwitchEdge src blocked s) := by
  refine taking_calm h fun t => .ite .refl ?_
  have ignored (tag : Option Nat) : Calm t (t.ignoreWheel tag) := (notifyTrack_frame ..).calm
  split
  · exact ignored _
  next c hc => exact .ite ((setTail_calm hc (by exact rfl) (by exact rfl)).trans (driveCmd_frame ..).calm) (ignored _)

theorem execPaid_safe {s : State} (h : Safe s) (lane token tender : Nat) : Answers Safe (execPaid lane token tender s) := by
  refine taking_calm h fun t => ?_
  have refuse (u : State) (r : Reply) : Calm u (u.refusePayment lane r) := (refusePayment_frame ..).calm
  have void : Calm t (t.voidQuote lane none) := (voidQuote_frame ..).calm
  exact .ite (refuse ..) (.ite (refuse ..) (.ite (void.trans (refuse ..)) (.ite (void.trans (refuse ..)) (pay_calm ..))))

theorem execLaneClose_safe {s : State} (h : Safe s) (seq : Byte) (args : List Byte) :
    Answers Safe (execLaneClose seq args s) := by
  refine taking_calm h fun t => ?_
  have answer := reply_calm
  have close (l : Nat) : Calm t (t.closeLane l (some .laneClosed)) := (closeLane_frame ..).calm
  split
  · exact .ite (answer ..) (.ite (answer ..) (.trans (.ite ((close _).trans (purge_calm ..)) (close _)) (answer ..)))
  · exact answer ..

theorem execCancelOrder_safe {s : State} (h : Safe s) (seq : Byte) (args : List Byte) :
    Answers Safe (execCancelOrder seq args s) := by
  refine taking_calm h fun t => ?_
  have answer := reply_calm
  split
  · exact answer ..
  · split
    · exact answer ..
    · exact .ite (answer ..) ((voidOrder_calm ..).trans (answer ..))

theorem execArm_safe {s : State} (h : Safe s) (seq : Byte) (args : List Byte) : Answers Safe (execArm seq args s) := by
  refine taking_safe h fun t ht => ?_
  split
  · exact reply_safe _ _ _ _ ht
  next hm =>
    split
    · exact reply_safe _ _ _ _ ht
    next hc =>
      split
      · exact reply_safe _ _ _ _ ht
      · exact reply_safe _ _ _ _ (arm_safe ht (by simpa using hm) (by simpa using hc))

theorem execDisarm_safe {s : State} (h : Safe s) (seq : Byte) (args : List Byte) :
    Answers Safe (execDisarm seq args s) := by
  refine taking_safe h fun t ht => ?_
  split
  · exact reply_safe _ _ _ _ ht
  next hm =>
    split
    · exact reply_safe _ _ _ _ ht
    next hb => exact reply_safe _ _ _ _ (disarm_safe ht (by rwa [Classical.not_and_iff_not_or_not, Classical.not_not, Classical.not_not] at hm) (by simpa using hb))

theorem execRelease_safe {s : State} (h : Safe s) (seq : Byte) (args : List Byte) :
    Answers Safe (execRelease seq args s) := by
  refine taking_safe h fun t ht => ?_
  split
  · exact reply_safe _ _ _ _ ht
  next hm =>
    split
    · exact reply_safe _ _ _ _ ht
    next hc => exact reply_safe _ _ _ _ (recover_safe ht (by simpa using hm) (by simpa using hc))

theorem execClearCause_safe {s : State} (h : Safe s) (seq : Byte) (args : List Byte) :
    Answers Safe (execClearCause seq args s) := by
  refine taking_safe h fun t ht => ?_
  have answer (st : Status) : Safe (t.reply seq 7 st []) := reply_safe _ _ _ _ ht
  split
  · exact answer _
  · split
    · exact answer _
    · split
      · exact answer _
      · split
        · exact answer _
        · exact reply_safe _ _ _ _ (ht.setHalt rfl rfl (fun hm => by simp [ht.causes hm]) id ht.timers ht.awaitDrive)

theorem execStationService_safe {s : State} (h : Safe s) (seq : Byte) (args : List Byte) :
    Answers Safe (execStationService seq args s) := by
  refine taking_safe h fun t ht => ?_
  have answer (st : Status) (d : List Byte) : Safe (t.reply seq 11 st d) := reply_safe _ _ _ _ ht
  split
  next b dir rest =>
    have back : Safe (t.backInService b.toNat) :=
      setStation_safe _ ht ((ht.mayStand b.toNat).congr (by exact id) rfl rfl rfl)
    dsimp only
    split
    · exact answer ..
    · split
      · exact answer ..
      · split
        · exact answer ..
        · split
          · exact reply_safe _ _ _ _ (serviceOut_safe _ ht)
          · split
            · exact answer ..
            · exact reply_safe _ _ _ _ back
  next => exact answer ..

theorem execRemoveCar_safe {s : State} (h : Safe s) (seq : Byte) (args : List Byte) :
    Answers Safe (execRemoveCar seq args s) := by
  refine taking_safe h fun t ht => ?_
  have answer (st : Status) : Safe (t.reply seq 12 st []) := reply_safe _ _ _ _ ht
  split
  · exact answer _
  · split
    · exact answer _
    · split
      · exact answer _
      · exact reply_safe _ _ _ _ (leave_safe ht _ _)

theorem execAdmitWindowExpiry_safe {s : State} (h : Safe s) : Answers Safe (execAdmitWindowExpiry s) := by
  refine whenDue_answers h fun _ => ?_
  split
  · exact (setMerge_frame ..).calm.safe h
  · exact (((withdraw_frame s).calm.trans (notifySales_frame ..).calm).trans (review_calm _)).safe h

theorem execNodeSilent_safe {s : State} (h : Safe s) (addr : Nat) : Answers Safe (execNodeSilent addr s) := by
  refine whenDue_answers h fun _ => ?_
  have noted : ∀ r : NodeRecord, Safe ((s.setNode addr r).notifyNode addr 8 none) := fun r =>
    ((setNode_frame ..).calm.trans (notifyNode_frame ..).calm).safe h
  have raise (t : State) (k : CauseKind) (d : CauseDetail) : Calm t (t.raiseCause k d) := (raiseCause_frame ..).calm
  unfold State.silenceEffect
  dsimp only
  split
  · exact (raise ..).safe (noted _)
  · exact outOfService_safe _ _ (noted _)
  · exact (closeLane_frame ..).calm.safe (noted _)
  · exact (closeLane_frame ..).calm.safe (noted _)
  · exact (Calm.ite (raise ..) .refl).safe (noted _)

theorem idleExpiry_safe {s : State} (h : Safe s) : Answers Safe (execIdleTimerExpiry s) := by
  refine whenDue_answers h fun hdue => ?_
  have hmoving : s.track.conveyor = .moving := by
    refine Classical.byContradiction fun hm => ?_
    exact due_ne_none hdue (h.idle hm)
  exact stopConveyor_safe h (h.armed (by rw [hmoving]; decide) (by rw [hmoving]; decide))

theorem startWait_safe {s : State} (h : Safe s) : Answers Safe (execStartWaitExpiry s) :=
  whenDue_answers h fun _ => ((setTrack_calm _ _ (by exact rfl) (by exact rfl) (by exact rfl)).trans
    (raiseCause_frame ..).calm).safe h

theorem stopWait_safe {s : State} (h : Safe s) : Answers Safe (execStopWaitExpiry s) :=
  whenDue_answers h fun _ => ((setTrack_calm _ _ (by exact rfl) (by exact rfl) (by exact rfl)).trans
    (raiseCause_frame ..).calm).safe h

theorem halt_kept_safe {s : State} (h : Safe s) {v : Halt} (mode : v.mode = s.halt.mode) (permit : v.permit = s.halt.permit)
    (causes : v.causes = s.halt.causes) (hold : v.hold = s.halt.hold) (bcast : v.bcast = s.halt.bcast)
    (wait : v.haltWait = s.halt.haltWait) (await : v.awaitDrive = s.halt.awaitDrive) : Safe (s.setHalt v) :=
  h.setHalt mode permit (fun hm => causes ▸ h.causes hm) (fun hh => hold ▸ hh) (fun ht => h.timers (bcast ▸ wait ▸ ht))
    (fun hm hc => await ▸ h.awaitDrive hm hc)

theorem execEstopLineDeasserted_safe {s : State} (h : Safe s) : Answers Safe (execEstopLineDeasserted s) :=
  running_answers h (halt_kept_safe h rfl rfl rfl rfl rfl rfl rfl)

theorem execBroadcastTimerExpiry_safe {s : State} (h : Safe s) : Answers Safe (execBroadcastTimerExpiry s) :=
  whenDue_answers h fun hdue => broadcast_safe h (h.timers (.inl (due_ne_none hdue)))

theorem execStartRequest_safe {s : State} (h : Safe s) : Answers Safe (execStartRequest s) :=
  whenDue_answers h fun _ => takeStart_safe ((setStartRequested_frame ..).calm.safe h)

theorem execRaiseCause_safe {s : State} (h : Safe s) (k : CauseKind) (d : CauseDetail) :
    Answers Safe (execRaiseCause k d s) :=
  whenDue_answers h fun _ => takeCause_safe ((setRaised_frame ..).calm.safe h) k d

/-- A command that leaves the halt block, the stations and Tracking alone. -/
theorem exec_calm {c : Instr} {s : State} (h : Safe s)
    (hc : Part.halt ∉ touches c ∧ Part.stations ∉ touches c ∧ Part.track ∉ touches c) : Answers Safe (exec c s) := by
  obtain ⟨t, ht, hf⟩ := exec_frame c s
  exact ⟨t, ht, (hf.calm hc).safe h⟩

/-- Every command keeps the halt laws and the standstill. -/
theorem exec_safe (c : Instr) (s : State) (h : Safe s) : Answers Safe (exec c s) := by
  cases c
  case powerOnReset estop => exact .next (takeEstop_safe (powerOn_safe _) estop)
  case lineReset => exact .next (lineReset_safe h)
  case lineResetEnd estop =>
    refine .next ?_
    split
    · exact takeEstop_safe ((endReset_calm s).safe h) estop
    · exact h
  case tick => exact running_answers h (tick_safe h)
  case receiveByte p b => exact exec_calm h (by cases p <;> simp [touches, portPart])
  case transmitEnd p => exact exec_calm h (by cases p <;> simp [touches, portPart])
  case nodeFrameTake p => exact execNodeFrameTake_safe h p
  case step src delta early => exact execStep_safe h src delta early
  case entryEyeBlocked src => exact execEntryEyeBlocked_safe h src
  case entryEyeClear src =>
    exact taking_calm h fun t => ((setMerge_frame ..).calm.trans (rearEdge_calm _)).trans (review_calm _)
  case mergeEyeBlocked lane => exact execMergeEyeBlocked_safe h lane
  case mergeEyeClear lane => exact execMergeEyeClear_safe h lane
  case checkEyeEdge src blocked => exact execCheckEyeEdge_safe h src blocked
  case exitEyeBlocked src => exact execExitEyeBlocked_safe h src
  case exitEyeClear src => exact execExitEyeClear_safe h src
  case wheelSwitchEdge src blocked => exact execWheelSwitchEdge_safe h src blocked
  case paid lane token tender => exact execPaid_safe h lane token tender
  case actState i report => exact execActState_safe h i report
  case actStateFault i =>
    refine taking_safe h fun t ht => ?_
    split
    · exact outOfService_safe i _ ht
    · exact ht
  case current i value => exact execCurrent_safe h i value
  case driveState src report level roller => exact execDriveState_safe h src report level roller
  case haltDriveConfirm src report => exact execHaltDriveConfirm_safe h src report
  case stopActive src =>
    refine taking_safe h fun t ht => ?_
    have active (l : List Nat) : Safe (t.setHalt { t.halt with estopActive := l }) :=
      halt_kept_safe ht rfl rfl rfl rfl rfl rfl rfl
    exact takeCause_safe (active _) _ _
  case stopReleased src => exact taking_safe h fun t ht => halt_kept_safe ht rfl rfl rfl rfl rfl rfl rfl
  case estopLineAsserted => exact running_answers h (lineAsserted_safe h)
  case estopLineDeasserted => exact execEstopLineDeasserted_safe h
  case writeStationEntry seq args =>
    exact taking_write_answers (fun t l => (setHanded_frame t l).calm.safe) (fun t seq code st d => reply_safe _ _ _ _) h
      fun t i b ht _ => writeStation_safe ht
  case arm seq args => exact execArm_safe h seq args
  case disarm seq args => exact execDisarm_safe h seq args
  case release seq args => exact execRelease_safe h seq args
  case forceHalt seq args => exact taking_safe h fun t ht => reply_safe _ _ _ _ (takeCause_safe ht _ _)
  case clearCause seq args => exact execClearCause_safe h seq args
  case laneClose seq args => exact execLaneClose_safe h seq args
  case cancelOrder seq args => exact execCancelOrder_safe h seq args
  case stationService seq args => exact execStationService_safe h seq args
  case removeCar seq args => exact execRemoveCar_safe h seq args
  case admitWindowExpiry => exact execAdmitWindowExpiry_safe h
  case startWaitExpiry => exact startWait_safe h
  case stopWaitExpiry => exact stopWait_safe h
  case idleTimerExpiry => exact idleExpiry_safe h
  case broadcastTimerExpiry => exact execBroadcastTimerExpiry_safe h
  case haltWaitExpiry => exact execHaltWaitExpiry_safe h
  case holdTimerExpiry => exact execHoldTimerExpiry_safe h
  case nodeSilent addr => exact execNodeSilent_safe h addr
  case startRequest => exact execStartRequest_safe h
  case raiseCause k d => exact execRaiseCause_safe h k d
  all_goals exact exec_calm h (by simp [touches, replyParts])

/-- Settles O55: every command keeps the two laws together. -/
theorem haltAndStandstillAreKept : Obligations.HaltAndStandstillAreKept := fun _ _ hh hs =>
  step_keeps (P := Safe) (fun _ _ => id) exec_safe ⟨hh, hs⟩

end Sys2Proof.Machine
end

section
/-!
What leaves the Car List and the entry eye's record alone (R110, R123), said once for the laws of the list.
-/
namespace Sys2Proof.Machine

-- Proofs in order: a thread that waits for another proof counts against the check's memory limit.
set_option Elab.async false

/-! ## Quiet changes -/

/-- What the laws of the Car List read of a car. -/
def Car.key (c : Car) : Nat × ServiceSet × ServiceSet × CarState × Option Nat × Nat :=
  (c.tag, c.services, c.done, c.state, c.length, c.front)

/-- The next state holds the cars as the laws read them, in their places, and the entry eye as it was recorded. -/
structure Quiet (s t : State) : Prop where
  cars : t.track.cars.map Car.key = s.track.cars.map Car.key
  eye : t.merge.entryBlocked = s.merge.entryBlocked

theorem Quiet.refl {s : State} : Quiet s s := ⟨rfl, rfl⟩

theorem Quiet.trans {s t u : State} (h : Quiet s t) (k : Quiet t u) : Quiet s u :=
  ⟨k.cars.trans h.cars, k.eye.trans h.eye⟩

theorem Quiet.ite {s t u : State} {c : Prop} [Decidable c] (h : Quiet s t) (k : Quiet s u) :
    Quiet s (if c then t else u) := by
  split
  · exact h
  · exact k

theorem Quiet.foldl {α : Type} {g : State → α → State} (h : ∀ t x, Quiet t (g t x)) (xs : List α) :
    ∀ s, Quiet s (xs.foldl g s) := by
  induction xs with
  | nil => intro s; exact .refl
  | cons x xs ih => intro s; exact (h s x).trans (ih _)

/-- A change outside Tracking and Merge is quiet. -/
theorem SameExcept.quiet {l : List Part} {s t : State} (h : SameExcept l s t)
    (hl : Part.track ∉ l ∧ Part.merge ∉ l := by decide) : Quiet s t := by
  have ht : t.track = s.track := h.same _ hl.1
  have hm : t.merge = s.merge := h.same _ hl.2
  exact ⟨by rw [ht], by rw [hm]⟩

/-- A change outside Merge that keeps the cars is quiet. -/
theorem SameExcept.quiet_cars {l : List Part} {s t : State} (h : SameExcept l s t) (cars : t.track.cars = s.track.cars)
    (hl : Part.merge ∉ l := by decide) : Quiet s t := by
  have hm : t.merge = s.merge := h.same _ hl
  exact ⟨by rw [cars], by rw [hm]⟩

theorem setTrack_quiet (s : State) (v : Track) (cars : v.cars = s.track.cars) : Quiet s (s.setTrack v) :=
  ⟨congrArg _ cars, rfl⟩

theorem setMerge_quiet (s : State) (v : Merge) (eye : v.entryBlocked = s.merge.entryBlocked) : Quiet s (s.setMerge v) :=
  ⟨rfl, eye⟩

theorem mapCars_quiet (s : State) (g : Car → Car) (h : ∀ c, (g c).key = c.key) :
    Quiet s (s.setCars (s.track.cars.map g)) := by
  refine ⟨?_, rfl⟩
  have hcars : (s.setCars (s.track.cars.map g)).track.cars = s.track.cars.map g := rfl
  rw [hcars, List.map_map]
  exact List.map_congr_left fun c _ => h c

/-- A car of the list replaced by one that the laws read alike. -/
theorem map_set_key {l : List Car} {j : Nat} {c d : Car} {β : Type} (g : Car → β) (hc : l[j]? = some c) (hd : g d = g c) :
    (l.set j d).map g = l.map g := by
  obtain ⟨hj, hget⟩ := List.getElem?_eq_some_iff.mp hc
  rw [List.map_set, hd, ← hget]
  have := List.set_getElem_self (as := l.map g) (i := j) (by simpa using hj)
  simpa using this

theorem setCarAt_quiet (s : State) (j : Nat) {c d : Car} (hc : s.track.cars[j]? = some c) (hd : d.key = c.key) :
    Quiet s (s.setCars (s.track.cars.set j d)) := ⟨map_set_key Car.key hc hd, rfl⟩

/-- The car at a place changed in nothing the reading takes up. -/
theorem map_modify_key {l : List Car} {j : Nat} {h : Car → Car} {β : Type} (g : Car → β) (hh : ∀ c, g (h c) = g c) :
    (l.modify j h).map g = l.map g := by
  cases hc : l[j]? with
  | none => rw [List.modify_eq_self (by simpa using hc)]
  | some c =>
    rw [modify_of_some hc]
    exact map_set_key g hc (hh c)

theorem modifyCar_quiet (s : State) (j : Nat) (g : Car → Car) (h : ∀ c, (g c).key = c.key) :
    Quiet s (s.setCars (s.track.cars.modify j g)) := ⟨map_modify_key Car.key h, rfl⟩

theorem setTail_quiet {s : State} {c d : Car} (h : s.tailCar = some c) (hd : d.key = c.key) : Quiet s (s.setTail d) := by
  rw [setTail_eq h]
  exact setCarAt_quiet s _ (tailCar_getElem? h) hd

/-! ## The conveyor -/

theorem driveCmd_cars (s : State) (a b : Nat) : (s.driveCmd a b).track = s.track :=
  (driveCmd_frame s a b).same .track (by decide)

theorem startConveyor_quiet (s : State) : Quiet s s.startConveyor :=
  (setTrack_quiet _ _ (by exact rfl)).trans (driveCmd_frame ..).quiet

theorem takeStart_quiet (s : State) : Quiet s s.takeStart := by
  unfold State.takeStart
  split
  · split
    · exact startConveyor_quiet s
    · exact .refl
    · exact .refl
    · exact setTrack_quiet _ _ rfl
  · exact .refl

theorem conveyorStopped_quiet (s : State) : Quiet s s.conveyorStopped := by
  have stopped : Quiet s (s.setTrack { s.track with conveyor := .stopped, stopWait := none, pendingStart := false }) :=
    setTrack_quiet _ _ rfl
  unfold State.conveyorStopped
  exact .ite (stopped.trans (startConveyor_quiet _)) stopped

theorem judgeSpeed_quiet (s : State) : Quiet s s.judgeSpeed := by
  unfold State.judgeSpeed
  exact .ite ((setTrack_quiet _ _ (by exact rfl)).trans (driveCmd_frame ..).quiet) .refl

theorem judgeStandby_quiet (s : State) : Quiet s s.judgeStandby := by
  unfold State.judgeStandby
  split
  · split
    · exact setTrack_quiet _ _ rfl
    · exact .refl
  · exact setTrack_quiet _ _ rfl

theorem judgeConveyor_quiet (s : State) : Quiet s s.judgeConveyor := (judgeSpeed_quiet s).trans (judgeStandby_quiet _)

theorem stopConveyor_quiet (s : State) : Quiet s s.stopConveyor :=
  (setTrack_quiet _ _ (by exact rfl)).trans (driveStop_frame _).quiet

/-! ## Merge and Entry -/

theorem setMergeLane_quiet (s : State) (l : Nat) (v : LaneMerge) : Quiet s (s.setMergeLane l v) := setMerge_quiet _ _ rfl

theorem setGate_quiet (s : State) (l : Nat) (g : Gate) : Quiet s (s.setGate l g) := setMergeLane_quiet ..

theorem closeGate_quiet (s : State) (l : Nat) : Quiet s (s.closeGate l) :=
  (toField_frame ..).quiet.trans (setGate_quiet ..)

theorem closeOpenGates_quiet (s : State) : Quiet s s.closeOpenGates := by
  refine Quiet.foldl (fun t l => ?_) _ s
  unfold State.closeIfOpen
  split
  · exact closeGate_quiet ..
  · exact closeGate_quiet ..
  · exact .refl
  · exact .refl

theorem grantLane_quiet (s : State) (l : Nat) : Quiet s (s.grantLane l) := by
  unfold State.grantLane
  split
  · exact .refl
  · exact ((setOrderState_frame ..).quiet.trans (setMerge_quiet _ _ (by exact rfl))).trans
      ((toField_frame ..).quiet.trans (setGate_quiet ..))

theorem arbitrate_quiet (s : State) : Quiet s s.arbitrate := by
  unfold State.arbitrate
  split
  · split
    · exact .refl
    · split
      · exact grantLane_quiet ..
      · exact .refl
      · exact (setStartRequested_frame ..).quiet
      · exact (setStartRequested_frame ..).quiet
  · exact .refl

theorem review_quiet (s : State) : Quiet s s.review := (arbitrate_quiet s).trans (judgeConveyor_quiet _)

theorem markUnpaid_quiet (s : State) (l : Nat) : Quiet s (s.markUnpaid l) :=
  (setMergeLane_quiet ..).trans (notifySales_frame ..).quiet

theorem stage_quiet (s : State) (l r : Nat) : Quiet s (s.stage l r) :=
  ((setOrderState_frame ..).quiet.trans (setMergeLane_quiet ..)).trans (handStart_frame _).quiet

theorem judgePayment_quiet (s : State) (l r : Nat) : Quiet s (s.judgePayment l r) := by
  unfold State.judgePayment
  exact .ite ((stage_quiet ..).trans (review_quiet _)) (judgeConveyor_quiet _)

theorem stageOnBinding_quiet (s : State) (l : Nat) : Quiet s (s.stageOnBinding l) := by
  unfold State.stageOnBinding
  split
  · split
    · exact markUnpaid_quiet ..
    · exact .ite (stage_quiet ..) .refl
  · exact .refl

theorem judgeVoid_quiet (s : State) (l : Nat) : Quiet s (s.judgeVoid l) := by
  unfold State.judgeVoid
  exact .ite (markUnpaid_quiet ..) .refl

theorem endGrant_quiet (s : State) (l : Nat) : Quiet s (s.endGrant l) :=
  (setMerge_quiet _ _ (by exact rfl)).trans (closeGate_quiet ..)

theorem withdraw_quiet (s : State) : Quiet s s.withdraw := by
  unfold State.withdraw
  split
  · exact .refl
  · split
    · exact endGrant_quiet ..
    · exact (ungrant_frame ..).quiet.trans (endGrant_quiet ..)

theorem uncommandedOpen_quiet (s : State) (l : Nat) : Quiet s (s.uncommandedOpen l) := by
  have note : Quiet s (s.notifyGate l) := (notifySales_frame ..).quiet
  unfold State.uncommandedOpen
  exact .ite (setGate_quiet ..) (.ite (note.trans (closeGate_quiet ..)) (note.trans (setGate_quiet ..)))

/-! ## Sales -/

theorem makeOrder_quiet (s : State) (l r tag tender : Nat) : Quiet s (s.makeOrder l r tag tender) := by
  have paid : ∀ t : State, SameExcept [.sales, .members, .portF, .mgmt] s t → Quiet s (t.judgePayment l r) :=
    fun t h => h.quiet.trans (judgePayment_quiet ..)
  unfold State.makeOrder
  refine paid _ ?_
  exact (((((((setSales_frame ..).within (by decide)).trans ((setOrder_frame ..).within (by decide))).trans
    ((setLane_frame ..).within (by decide))).trans ((spendUse_frame ..).within (by decide))).trans
    ((releaseRef_frame ..).within (by decide))).trans ((emptySlot_frame ..).within (by decide))).trans
    ((toField_frame ..).within (by decide))

theorem pay_quiet (s : State) (l tender : Nat) : Quiet s (s.pay l tender) := by
  unfold State.pay
  split
  · exact .refl
  · exact makeOrder_quiet ..

theorem callOff_quiet (s : State) (r reason : Nat) : Quiet s (s.callOff r reason) := by
  have left : Quiet s (s.dequeue (s.order r).lane r) := (dequeue_frame ..).quiet
  unfold State.callOff
  exact (((Quiet.ite (left.trans (endGrant_quiet ..)) left).trans (returnUse_frame ..).quiet).trans
    (voidReport_frame ..).quiet).trans (freeOrder_frame ..).quiet

theorem voidOrder_quiet (s : State) (r reason : Nat) : Quiet s (s.voidOrder r reason) := by
  have void : Quiet s ((s.callOff r reason).judgeVoid (s.order r).lane) :=
    (callOff_quiet ..).trans (judgeVoid_quiet ..)
  exact .ite (void.trans (review_quiet _)) (void.trans (judgeConveyor_quiet _))

theorem purge_quiet (s : State) (l : Nat) : Quiet s (s.purge l) := .foldl (fun t r => voidOrder_quiet t r 2) _ s

/-! ## Halting -/

theorem enterMode_quiet (s : State) (m : Mode) : Quiet s (s.enterMode m) :=
  (enterMode_frame s m).quiet_cars (by rw [enterMode_track]; split <;> rfl)

theorem endWait_quiet (s : State) : Quiet s s.endWait := by
  have still : s.endWait.track = s.track := (endWait_frame s).same .track (by decide)
  exact (endWait_frame s).quiet_cars (by rw [still])

theorem haltConveyor_quiet (s : State) : Quiet s s.haltConveyor := setTrack_quiet _ _ rfl

theorem flagCars_quiet (s : State) : Quiet s s.flagCars := mapCars_quiet _ _ fun _ => rfl

theorem haltCalled_quiet (s : State) (k : CauseKind) (d : CauseDetail) : Quiet s (s.haltCalled k d) := by
  unfold State.haltCalled
  exact (((setHalt_frame ..).quiet.trans (enterMode_quiet ..)).trans (broadcast_frame _).quiet).trans
    (setHalt_frame ..).quiet

theorem haltStopped_quiet (s : State) (k : CauseKind) (d : CauseDetail) : Quiet s (s.haltStopped k d) := by
  unfold State.haltStopped
  exact ((((((haltCalled_quiet s k d).trans (driveStop_frame _).quiet).trans (haltConveyor_quiet _)).trans
    (haltRetract_frame _).quiet).trans (withdraw_quiet _)).trans (closeOpenGates_quiet _)).trans (flagCars_quiet _)

theorem haltEntry_quiet (s : State) (k : CauseKind) (d : CauseDetail) : Quiet s (s.haltEntry k d) := by
  have awaiting : Quiet s (s.haltAwaiting k d) := by
    unfold State.haltAwaiting
    exact (haltStopped_quiet s k d).trans (setHalt_frame ..).quiet
  rw [haltEntry_eq]
  exact (awaiting.trans (notifyHalt_frame ..).quiet).trans (endWait_quiet _)

theorem takeCause_quiet (s : State) (k : CauseKind) (d : CauseDetail) : Quiet s (s.takeCause k d) := by
  have join : Quiet s ((s.setHalt (Halt.latch s.halt k d)).notifyHalt none (some k)) :=
    (setHalt_frame ..).quiet.trans (notifyHalt_frame ..).quiet
  unfold State.takeCause
  split
  · exact haltEntry_quiet ..
  · exact haltEntry_quiet ..
  · exact join
  · exact join
  · exact join

theorem lineAsserted_quiet (s : State) : Quiet s s.lineAsserted := by
  unfold State.lineAsserted
  exact .ite .refl ((setHalt_frame ..).quiet.trans (takeCause_quiet ..))

theorem takeEarly_quiet (s : State) (l : List (CauseKind × CauseDetail)) (e : Option Nat) : Quiet s (s.takeEarly l e) := by
  unfold State.takeEarly
  split
  · exact (setRaised_frame ..).quiet.trans (takeCause_quiet ..)
  · exact .refl

theorem confirmDrive_quiet (s : State) : Quiet s s.confirmDrive := by
  unfold State.confirmDrive
  exact .ite (((setHalt_frame ..).quiet.trans (conveyorStopped_quiet _)).trans (endWait_quiet _)) .refl

theorem recover_quiet (s : State) : Quiet s s.recover := by
  unfold State.recover
  exact ((((enterMode_quiet ..).trans (offerUrgent_frame _ .f _).quiet).trans (setHalt_frame ..).quiet).trans
    (closeOpenGates_quiet _)).trans (notifyHalt_frame ..).quiet

theorem arm_quiet (s : State) : Quiet s s.arm := by
  unfold State.arm
  exact ((((setTrack_quiet _ _ (by exact rfl)).trans (.foldl (fun t l => (openPresent_frame t l).quiet) _ _)).trans
    (enterMode_quiet ..)).trans (notifyHalt_frame ..).quiet).trans (review_quiet _)

theorem disarm_quiet (s : State) : Quiet s s.disarm := by
  unfold State.disarm
  exact ((((enterMode_quiet ..).trans (.foldl (fun t l => (closeLane_frame t l _).quiet) _ _)).trans
    (withdraw_quiet _)).trans (closeOpenGates_quiet _)).trans (notifyHalt_frame ..).quiet

theorem haltForced_quiet (s : State) : Quiet s s.haltForced := by
  have out : Quiet s s.haltForcedOut := (setHalt_frame ..).quiet.trans (foldl_outOfService_frame _ _).quiet
  unfold State.haltForced
  exact .ite (out.trans (conveyorStopped_quiet _)) out

/-! ## Tracking -/

/-- The roller's engagement is not read by the laws (R132). -/
theorem engageCalled_key {l k : List Car} (h : engageCalled l = some k) : k.map Car.key = l.map Car.key := by
  induction l generalizing k with
  | nil => cases h
  | cons a l ih =>
    unfold engageCalled at h
    split at h
    · obtain rfl := Option.some.inj h
      rfl
    · obtain ⟨m, hm, rfl⟩ := Option.map_eq_some_iff.mp h
      rw [List.map_cons, List.map_cons, ih hm]

theorem judgeRoller_quiet (s : State) (r : Bool) : Quiet s (s.judgeRoller r) := by
  unfold State.judgeRoller
  split
  · split
    next hl => exact ⟨engageCalled_key hl, rfl⟩
    next => exact (notifyTrack_frame ..).quiet
  · exact .refl

theorem nearMiss_quiet {s : State} {j : Nat} {c : Car} (hc : s.track.cars[j]? = some c) (k : Nat) (e : Int) :
    Quiet s (s.nearMiss j k e c) := by
  unfold State.nearMiss
  exact .ite ((setCarAt_quiet s j hc (by exact rfl)).trans (notifyTrack_frame ..).quiet) .refl

theorem passEye_key (s : State) (c : Car) : (s.passEye c).key = c.key := by
  unfold State.passEye
  split <;> rfl

theorem runningReport_quiet (s : State) : Quiet s s.runningReport := by
  unfold State.runningReport
  split
  · exact .ite ((notifyTrack_frame ..).quiet.trans (stopConveyor_quiet _)) .refl
  · exact (setTrack_quiet _ _ (by exact rfl)).trans ((judgeSpeed_quiet _).trans (review_quiet _))
  · exact .refl
  · exact .refl

theorem stoppedReport_quiet (s : State) : Quiet s s.stoppedReport := by
  have own : Quiet s ((s.setTrack { s.track with conveyor := .stopped, idle := none }).notifyTrack 6 none none) :=
    (setTrack_quiet _ _ (by exact rfl)).trans (notifyTrack_frame ..).quiet
  unfold State.stoppedReport
  split
  · exact .refl
  · exact .refl
  · unfold State.ownStop
    exact .ite own (own.trans (takeStart_quiet _))
  · exact conveyorStopped_quiet s

theorem judgeFrame_quiet (s : State) (p : PortId) (f : Frame) : Quiet s (s.judgeFrame p f) := by
  have live (t : State) (a : Nat) (r : NodeRecord) : Quiet t (t.noteLive a r) := by
    unfold State.noteLive
    exact .ite (.ite ((notifyNode_frame ..).quiet.trans (review_quiet _)) (notifyNode_frame ..).quiet) .refl
  unfold State.judgeFrame
  split
  · exact (countRefusal_frame ..).quiet
  · exact (((setNode_frame ..).quiet.trans (noteGap_frame ..).quiet).trans (live ..)).trans (route_frame ..).quiet

/-! ## Command by command -/

theorem taking_quiet {c : Instr} {s : State} {g : State → State} (h : ∀ t, Quiet t (g t)) :
    Answers (Quiet s) (taking c s g) := taking_answers .refl ((setHanded_frame ..).quiet.trans (h _))

theorem whenDue_quiet {d : Bool} {s : State} {g : State → State} (h : Quiet s (g s)) : Answers (Quiet s) (whenDue d s g) :=
  whenDue_answers .refl fun _ => h

theorem reply_quiet (s : State) (seq : Byte) (code : Nat) (st : Status) (d : List Byte) :
    Quiet s (s.reply seq code st d) := (reply_frame ..).quiet

theorem tick_quiet (s : State) : Quiet s s.tick := ⟨rfl, rfl⟩

theorem execNodeFrameTake_quiet (p : PortId) (s : State) : Answers (Quiet s) (execNodeFrameTake p s) := by
  have port (q : Port) : Quiet s (s.setPort p q) := (setPort_frame s p q).quiet (by cases p <;> decide)
  refine running_answers .refl ?_
  split
  · exact .refl
  · exact .ite .refl (((port _).trans ((judgeResume_frame _ p).quiet (by cases p <;> decide))).trans (judgeFrame_quiet ..))

theorem execMergeEyeBlocked_quiet (lane : Nat) (s : State) : Answers (Quiet s) (execMergeEyeBlocked lane s) := by
  refine taking_quiet fun t => ?_
  have eye (v : LaneMerge) : Quiet t (t.setMergeLane lane v) := setMergeLane_quiet ..
  dsimp only
  split
  · exact (eye _).trans (markUnpaid_quiet ..)
  · exact .ite ((eye _).trans ((stage_quiet ..).trans (review_quiet _))) (eye _)

theorem execMergeEyeClear_quiet (lane : Nat) (s : State) : Answers (Quiet s) (execMergeEyeClear lane s) := by
  refine taking_quiet fun t => ?_
  have eye (v : LaneMerge) : Quiet t (t.setMergeLane lane v) := setMergeLane_quiet ..
  dsimp only
  split
  · exact eye _
  · exact .ite ((eye _).trans ((setOrderState_frame ..).quiet.trans (judgeConveyor_quiet _))) (eye _)

theorem execGateState_quiet (lane : Nat) (isOpen : Bool) (s : State) : Answers (Quiet s) (execGateState lane isOpen s) := by
  refine taking_quiet fun t => ?_
  have gate (u : State) (g : Gate) : Quiet u (u.setGate lane g) := setGate_quiet ..
  split
  · exact uncommandedOpen_quiet ..
  · exact gate ..
  · exact .refl
  · exact .refl
  · exact .refl
  · exact .refl
  · exact (notifySales_frame ..).quiet.trans (gate ..)
  · exact gate ..

theorem execWheelSwitchEdge_quiet (src : Nat) (blocked : Bool) (s : State) :
    Answers (Quiet s) (execWheelSwitchEdge src blocked s) := by
  refine taking_quiet fun t => .ite .refl ?_
  have ignored (tag : Option Nat) : Quiet t (t.ignoreWheel tag) := (notifyTrack_frame ..).quiet
  split
  · exact ignored _
  next c hc => exact .ite ((setTail_quiet hc (by exact rfl)).trans (driveCmd_frame ..).quiet) (ignored _)

theorem execPaid_quiet (lane token tender : Nat) (s : State) : Answers (Quiet s) (execPaid lane token tender s) := by
  refine taking_quiet fun t => ?_
  have refuse (u : State) (r : Reply) : Quiet u (u.refusePayment lane r) := (refusePayment_frame ..).quiet
  have void : Quiet t (t.voidQuote lane none) := (voidQuote_frame ..).quiet
  exact .ite (refuse ..) (.ite (refuse ..) (.ite (void.trans (refuse ..)) (.ite (void.trans (refuse ..)) (pay_quiet ..))))

theorem execDriveState_quiet (src : Nat) (report : DriveReport) (level : Nat) (roller : Bool) (s : State) :
    Answers (Quiet s) (execDriveState src report level roller s) := by
  refine taking_quiet fun t => ?_
  have recorded : Quiet t ((t.judgeRoller roller).recordReport report level roller) :=
    (judgeRoller_quiet t roller).trans (setTrack_quiet _ _ rfl)
  cases report
  · exact recorded.trans (runningReport_quiet _)
  · exact recorded.trans (stoppedReport_quiet _)
  · exact recorded.trans (raiseCause_frame ..).quiet

theorem execHaltDriveConfirm_quiet (src : Nat) (report : DriveReport) (s : State) :
    Answers (Quiet s) (execHaltDriveConfirm src report s) := by
  refine taking_quiet fun t => ?_
  cases report
  · exact .refl
  · exact confirmDrive_quiet t
  · exact .refl

theorem execArm_quiet (seq : Byte) (args : List Byte) (s : State) : Answers (Quiet s) (execArm seq args s) := by
  refine taking_quiet fun t => .ite (reply_quiet ..) (.ite (reply_quiet ..) ?_)
  split
  · exact reply_quiet ..
  · exact (arm_quiet t).trans (reply_quiet ..)

theorem execLaneClose_quiet (seq : Byte) (args : List Byte) (s : State) : Answers (Quiet s) (execLaneClose seq args s) := by
  refine taking_quiet fun t => ?_
  have close (l : Nat) : Quiet t (t.closeLane l (some .laneClosed)) := (closeLane_frame ..).quiet
  split
  · exact .ite (reply_quiet ..) (.ite (reply_quiet ..)
      (.trans (.ite ((close _).trans (purge_quiet ..)) (close _)) (reply_quiet ..)))
  · exact reply_quiet ..

theorem execCancelOrder_quiet (seq : Byte) (args : List Byte) (s : State) :
    Answers (Quiet s) (execCancelOrder seq args s) := by
  refine taking_quiet fun t => ?_
  split
  · exact reply_quiet ..
  · split
    · exact reply_quiet ..
    · exact .ite (reply_quiet ..) ((voidOrder_quiet ..).trans (reply_quiet ..))

theorem execAdmitWindowExpiry_quiet (s : State) : Answers (Quiet s) (execAdmitWindowExpiry s) := by
  refine whenDue_quiet ?_
  split
  · exact setMerge_quiet _ _ rfl
  · exact ((withdraw_quiet s).trans (notifySales_frame ..).quiet).trans (review_quiet _)

theorem execHaltWaitExpiry_quiet (s : State) : Answers (Quiet s) (execHaltWaitExpiry s) := by
  rw [execHaltWaitExpiry_eq]
  exact whenDue_quiet ((((haltForced_quiet s).trans (setHalt_frame ..).quiet).trans (enterMode_quiet ..)).trans
    (notifyHalt_frame ..).quiet)

theorem execHoldTimerExpiry_quiet (s : State) : Answers (Quiet s) (execHoldTimerExpiry s) := by
  have starts (t : State) : Quiet t (if t.track.cars = [] then t else t.takeStart) := .ite .refl (takeStart_quiet t)
  exact whenDue_quiet ((((((setHalt_frame ..).quiet.trans (enterMode_quiet ..)).trans (starts _)).trans
    (resumeStations_frame _).quiet).trans (notifyHalt_frame ..).quiet).trans (review_quiet _))

theorem execStartWaitExpiry_quiet (s : State) : Answers (Quiet s) (execStartWaitExpiry s) :=
  whenDue_quiet ((setTrack_quiet _ _ (by exact rfl)).trans (raiseCause_frame ..).quiet)

theorem execStopWaitExpiry_quiet (s : State) : Answers (Quiet s) (execStopWaitExpiry s) :=
  whenDue_quiet ((setTrack_quiet _ _ (by exact rfl)).trans (raiseCause_frame ..).quiet)

theorem execStartRequest_quiet (s : State) : Answers (Quiet s) (execStartRequest s) :=
  whenDue_quiet ((setStartRequested_frame ..).quiet.trans (takeStart_quiet _))

theorem execRaiseCause_quiet (k : CauseKind) (d : CauseDetail) (s : State) : Answers (Quiet s) (execRaiseCause k d s) :=
  whenDue_quiet ((setRaised_frame ..).quiet.trans (takeCause_quiet ..))

theorem takeEstop_quiet (s : State) (estop : Bool) : Quiet s (s.takeEstop estop) := .ite (lineAsserted_quiet s) .refl

/-- The commands that change the Car List as the laws read it, or the entry eye. -/
def movesCars : Instr → Bool
  | .powerOnReset _ | .lineReset | .step _ _ _ | .entryEyeBlocked _ | .entryEyeClear _ | .checkEyeEdge _ _
  | .exitEyeBlocked _ | .exitEyeClear _ | .removeCar _ _ => true
  | _ => false

/-- Every other command is quiet. -/
theorem exec_quiet (c : Instr) (s : State) (h : movesCars c = false) : Answers (Quiet s) (exec c s) := by
  have outside (hc : Part.track ∉ touches c ∧ Part.merge ∉ touches c) : Answers (Quiet s) (exec c s) := by
    obtain ⟨t, ht, hf⟩ := exec_frame c s
    exact ⟨t, ht, hf.quiet hc⟩
  cases c
  case lineResetEnd estop => exact .next (.ite ((endReset_frame s).quiet.trans (takeEstop_quiet ..)) .refl)
  case tick => exact running_answers .refl (tick_quiet s)
  case receiveByte p b => exact outside (by cases p <;> simp [touches, portPart])
  case transmitEnd p => exact outside (by cases p <;> simp [touches, portPart])
  case nodeFrameTake p => exact execNodeFrameTake_quiet p s
  case mergeEyeBlocked lane => exact execMergeEyeBlocked_quiet lane s
  case mergeEyeClear lane => exact execMergeEyeClear_quiet lane s
  case gateState lane isOpen => exact execGateState_quiet lane isOpen s
  case wheelSwitchEdge src blocked => exact execWheelSwitchEdge_quiet src blocked s
  case paid lane token tender => exact execPaid_quiet lane token tender s
  case driveState src report level roller => exact execDriveState_quiet src report level roller s
  case haltDriveConfirm src report => exact execHaltDriveConfirm_quiet src report s
  case stopActive src => exact taking_quiet fun _ => (setHalt_frame ..).quiet.trans (takeCause_quiet ..)
  case estopLineAsserted => exact running_answers .refl (lineAsserted_quiet s)
  case arm seq args => exact execArm_quiet seq args s
  case disarm seq args =>
    exact taking_quiet fun t => .ite (reply_quiet ..) (.ite (reply_quiet ..) ((disarm_quiet t).trans (reply_quiet ..)))
  case release seq args =>
    exact taking_quiet fun t => .ite (reply_quiet ..) (.ite (reply_quiet ..) ((recover_quiet t).trans (reply_quiet ..)))
  case forceHalt seq args => exact taking_quiet fun _ => (takeCause_quiet ..).trans (reply_quiet ..)
  case laneClose seq args => exact execLaneClose_quiet seq args s
  case cancelOrder seq args => exact execCancelOrder_quiet seq args s
  case admitWindowExpiry => exact execAdmitWindowExpiry_quiet s
  case startWaitExpiry => exact execStartWaitExpiry_quiet s
  case stopWaitExpiry => exact execStopWaitExpiry_quiet s
  case idleTimerExpiry => exact whenDue_quiet (stopConveyor_quiet s)
  case haltWaitExpiry => exact execHaltWaitExpiry_quiet s
  case holdTimerExpiry => exact execHoldTimerExpiry_quiet s
  case startRequest => exact execStartRequest_quiet s
  case raiseCause k d => exact execRaiseCause_quiet k d s
  case powerOnReset | lineReset | step | entryEyeBlocked | entryEyeClear | checkEyeEdge | exitEyeBlocked | exitEyeClear
    | removeCar => cases h
  all_goals exact outside (by simp [touches, replyParts, outParts])

end Sys2Proof.Machine
end

section
/-!
The Car List kept by every command (R123, R124, R130, R134 to R137, R148): the obligation O60.
-/
namespace Sys2Proof.Machine

-- Proofs in order: a thread that waits for another proof counts against the check's memory limit.
set_option Elab.async false

/-! ## Tags and done sets (R123, R124, R148) -/

/-- What the law of tags and done sets reads of a car. -/
def Car.sold (c : Car) : Nat × ServiceSet × ServiceSet := (c.tag, c.services, c.done)

/-- The next state holds the cars with their tags, services and done sets. -/
def SoldSame (s t : State) : Prop := t.track.cars.map Car.sold = s.track.cars.map Car.sold

theorem Quiet.sold {s t : State} (h : Quiet s t) : SoldSame s t := by
  have := congrArg (List.map fun k : Nat × ServiceSet × ServiceSet × CarState × Option Nat × Nat => (k.1, k.2.1, k.2.2.1)) h.cars
  rw [List.map_map, List.map_map] at this
  exact this

theorem SoldSame.carLaw {s t : State} (h : SoldSame s t) : CarLaw s → CarLaw t := by
  rintro ⟨hlen, htags, hdone⟩
  refine ⟨?_, ?_, fun c hc => ?_⟩
  · have := congrArg List.length h
    rw [List.length_map, List.length_map] at this
    omega
  · have := congrArg (List.map Prod.fst) h
    rw [List.map_map, List.map_map] at this
    have htag : t.carTags = s.carTags := this
    rwa [htag]
  · have hmem : Car.sold c ∈ s.track.cars.map Car.sold := h ▸ List.mem_map_of_mem hc
    obtain ⟨d, hd, hsold⟩ := List.mem_map.mp hmem
    simp only [Car.sold, Prod.mk.injEq] at hsold
    obtain ⟨-, hservices, hdones⟩ := hsold
    rw [← hservices, ← hdones]
    exact hdone d hd

theorem Quiet.carLaw {s t : State} (h : Quiet s t) : CarLaw s → CarLaw t := h.sold.carLaw

/-- A tag is found that is not in use, where fewer than all 256 are (R64, R124). -/
theorem nextTag_fresh {used : List Nat} (c : Nat) (h : used.length < 256) : nextTag used c ∉ used := by
  unfold nextTag
  cases hf : ((List.range 256).map fun i => (c + 1 + i) % 256).find? (fun t => t ∉ used) with
  | some t => simpa using List.find?_some hf
  | none =>
    exfalso
    have hall : ∀ t ∈ (List.range 256).map fun i => (c + 1 + i) % 256, t ∈ used := by
      intro t ht
      simpa using List.find?_eq_none.mp hf t ht
    have hnodup : ((List.range 256).map fun i => (c + 1 + i) % 256).Nodup := by
      refine nodup_map_of_inj List.nodup_range fun a ha b hb hab => ?_
      have ha := List.mem_range.mp ha
      have hb := List.mem_range.mp hb
      omega
    have := hnodup.length_le_of_subset hall
    simp at this
    omega

theorem insertCar_carLaw {s : State} {c : Car} (h : CarLaw s) (room : s.track.cars.length < Config.carListSize)
    (tag : c.tag = s.nextCarTag) (done : c.done = 0) : CarLaw (s.insertCar c) := by
  obtain ⟨hlen, htags, hdone⟩ := h
  have hcars : (s.insertCar c).track.cars = s.track.cars ++ [c] := rfl
  have hsize : Config.carListSize = 16 := rfl
  have hfresh : s.nextCarTag ∉ s.carTags := nextTag_fresh _ (by simp [State.carTags]; omega)
  refine ⟨?_, ?_, ?_⟩
  · rw [hcars, List.length_append, List.length_singleton]
    omega
  · rw [State.carTags, hcars, List.map_append, List.map_singleton, tag]
    exact List.nodup_append.mpr ⟨htags, by simp, fun a ha b hb => by
      obtain rfl := List.mem_singleton.mp hb
      exact fun heq => hfresh (heq ▸ ha)⟩
  · rw [hcars]
    intro d hd
    obtain hd | hd := List.mem_append.mp hd
    · exact hdone d hd
    · obtain rfl := List.mem_singleton.mp hd
      simp [done]

theorem createCar_carLaw {s : State} (h : CarLaw s) (room : s.track.cars.length < Config.carListSize) :
    CarLaw s.createCar := by
  unfold State.createCar
  split
  · unfold State.bindCar
    exact ((((((setOrder_frame ..).quiet.trans (dequeue_frame ..).quiet).trans (endGrant_quiet ..)).trans
      (stageOnBinding_quiet ..)).trans (review_quiet _)).carLaw (insertCar_carLaw h room rfl rfl))
  · unfold State.unannouncedCar
    exact (((notifyTrack_frame ..).quiet.trans (handStart_frame _).quiet).trans (judgeConveyor_quiet _)).carLaw
      (insertCar_carLaw h room rfl rfl)

theorem frontEdge_carLaw {s : State} (h : CarLaw s) (src : Nat) : CarLaw (s.frontEdge src) := by
  have crush (c : Car) : Quiet s (s.entryCrush src c) := (raiseCause_frame ..).quiet
  unfold State.frontEdge
  split
  · exact ((raiseCause_frame ..).quiet.trans (notifyTrack_frame ..).quiet).carLaw h
  next hroom =>
    have room := Nat.lt_of_not_le hroom
    split
    · exact createCar_carLaw h room
    · split
      · exact (crush _).carLaw h
      · split
        · exact createCar_carLaw ((crush _).carLaw h) room
        · exact createCar_carLaw h room

theorem addService_within {done services : ServiceSet} {n : Nat} (h : done &&& ~~~services = 0)
    (hn : hasService services n = true) : addService done n &&& ~~~services = 0 := by
  unfold addService
  unfold hasService at hn
  ext i hi
  have hbit := congrArg (fun v : ServiceSet => v.getLsbD i) h
  simp at hbit ⊢
  grind

/-- A service enters the done set of the car that bought it (R148). -/
theorem credit_carLaw {s : State} {tag svc : Nat} (h : CarLaw s)
    (bought : ∃ c ∈ s.track.cars, c.tag = tag ∧ hasService c.services svc = true) : CarLaw (s.credit tag svc) := by
  obtain ⟨hlen, htags, hdone⟩ := h
  obtain ⟨d, hd, hdtag, hdsvc⟩ := bought
  have hcars : (s.credit tag svc).track.cars =
      s.track.cars.map fun c => if c.tag = tag then { c with done := addService c.done svc } else c := rfl
  refine ⟨?_, ?_, ?_⟩
  · rwa [hcars, List.length_map]
  · have hsame : (s.credit tag svc).carTags = s.carTags := by
      rw [State.carTags, hcars, List.map_map]
      refine List.map_congr_left fun c _ => ?_
      simp only [Function.comp]
      split <;> rfl
    rwa [hsame]
  · rw [hcars]
    intro e he
    obtain ⟨c, hc, rfl⟩ := List.mem_map.mp he
    split
    next htag =>
      have : c = d := inj_of_nodup_map htags hc hd (htag.trans hdtag.symm)
      subst this
      exact addService_within (hdone c hc) hdsvc
    next => exact hdone c hc

/-! ### The movements handed to the stations -/

/-- The halt laws, the standstill and the tags with the done sets. -/
def SafeCars (s : State) : Prop := Safe s ∧ CarLaw s

theorem endCrossing_safeCars {s : State} (i tag : Nat) : SafeCars s → SafeCars (s.endCrossing i tag) := by
  rintro ⟨h, hc⟩
  refine ⟨endCrossing_safe i tag h, ?_⟩
  have released : Quiet s (s.release i) := (release_frame s i).quiet
  unfold State.endCrossing
  dsimp only
  split
  next hcar =>
    split
    next hact =>
      obtain ⟨-, -, c, hmem, htag, hsvc⟩ := h.mayStand i (by simp [Station.working, hact])
      have htag' : c.tag = tag := Option.some.inj (htag.symm.trans hcar)
      have hsame : (s.release i).track = s.track := (release_frame s i).same .track (by decide)
      refine credit_carLaw (released.carLaw hc) ⟨c, ?_, htag', hsvc⟩
      rw [hsame]
      exact hmem
    · exact released.carLaw hc
    · exact hc
    · exact hc
  next => exact hc

theorem judgeStation_safeCars {s : State} (i : Nat) (moves : List Move) (d : Option Nat) :
    SafeCars s → SafeCars (s.judgeStation i moves d) := by
  rintro ⟨h, hc⟩
  refine ⟨judgeStation_safe i moves d h, ?_⟩
  have ends (l : List Move) := foldl_keeps (P := SafeCars) (fun t (m : Move) => endCrossing_safeCars i m.tag) l s ⟨h, hc⟩
  have starts (t : State) : Quiet t ((moves.filter (startCrossed (s.station i))).foldl (fun t m => t.startCrossing i m) t) :=
    .foldl (fun t m => (startCrossing_frame t i m).quiet) _ t
  unfold State.judgeStation
  dsimp only
  split
  · cases d with
    | none => exact (starts _).carLaw (ends _).2
    | some n => exact ((countBackoff_frame ..).quiet.trans (starts _)).carLaw (ends _).2
  · exact hc

theorem handMoves_safeCars {s : State} (moves : List Move) (d : Option Nat) : SafeCars s → SafeCars (s.handMoves moves d) :=
  foldl_keeps (fun _ i => judgeStation_safeCars i moves d) _ s

theorem applyStep_carLaw {s : State} (h : Safe s) (hc : CarLaw s) (d : Nat) (e : Option Nat) : CarLaw (s.applyStep d e) := by
  have moved : Calm s ((s.moveCars d).setCars ((s.moveCars d).track.cars.map (s.moveCars d).passEye)) :=
    (moveCars_calm s d).trans (mapCars_calm _ _ (passEye_same _))
  have advanced : SoldSame s (s.moveCars d) := List.map_map.trans (List.map_congr_left fun _ _ => rfl)
  have passed := (mapCars_quiet (s.moveCars d) (s.moveCars d).passEye (passEye_key _)).carLaw (advanced.carLaw hc)
  have raised (t : State) (l : List (CauseKind × CauseDetail)) : SafeCars t → SafeCars ((t.raiseAll l).takeEarly l e) :=
    fun ⟨hs, hl⟩ => ⟨takeEarly_safe ((setRaised_frame ..).calm.safe hs) _ _,
      ((setRaised_frame ..).quiet.trans (takeEarly_quiet ..)).carLaw hl⟩
  unfold State.applyStep
  exact (review_quiet _).carLaw (handMoves_safeCars _ _ (raised _ _ ⟨moved.safe h, passed⟩)).2

theorem correct_carLaw {s : State} {j : Nat} {c : Car} (h : Safe s) (hl : CarLaw s) (hc : s.track.cars[j]? = some c)
    (k pos : Nat) : CarLaw (s.correct j k pos c) := by
  have near := nearMiss_quiet hc k (sightingError pos c)
  have calm := nearMiss_calm hc k (sightingError pos c)
  unfold State.correct
  dsimp only
  split
  · exact (near.trans (raiseCause_frame ..).quiet).carLaw hl
  · split
    · exact near.carLaw hl
    · have moved (t : State) : SoldSame t (t.setCars (t.track.cars.modify j fun c => { c with front := pos })) :=
        map_modify_key Car.sold fun _ => rfl
      exact (handMoves_safeCars _ _ ⟨(calm.trans (modifyCar_calm _ j (fun c => { c with front := pos })
        fun _ => ⟨rfl, rfl⟩)).safe h, (moved _).carLaw (near.carLaw hl)⟩).2

theorem sighting_carLaw {s : State} (h : Safe s) (hl : CarLaw s) (src k pos : Nat) : CarLaw (s.sighting src k pos) := by
  have fault (car : Option Nat) : CarLaw (s.trackFault src k car) := (trackFault_frame ..).quiet.carLaw hl
  unfold State.sighting
  split
  · exact fault _
  · split
    · exact hl
    next c hc =>
      refine (modifyCar_quiet _ _ _ (by exact fun _ => rfl)).carLaw ?_
      split
      · exact correct_carLaw h hl hc k pos
      · exact fault _

theorem judgeExit_carLaw {s : State} (h : Safe s) (hl : CarLaw s) (src : Nat) : CarLaw (s.judgeExit src) := by
  have fault (car : Option Nat) : CarLaw (s.trackFault src exitEyeIndex car) := (trackFault_frame ..).quiet.carLaw hl
  have exiting (t : State) : SoldSame t (t.setCars (t.track.cars.modify 0 fun c => { c with state := .exiting })) :=
    map_modify_key Car.sold fun _ => rfl
  unfold State.judgeExit
  split
  · exact fault _
  next c hc =>
    split
    · exact fault _
    · split
      · exact (notifyTrack_frame ..).quiet.carLaw hl
      · exact (exiting _).carLaw (correct_carLaw h hl (List.head?_eq_getElem? ▸ hc) _ _)

theorem rearEdge_carLaw {s : State} (hl : CarLaw s) : CarLaw s.rearEdge := by
  have stray : CarLaw s.strayRear := by
    unfold State.strayRear
    exact (Quiet.ite .refl (notifyTrack_frame ..).quiet).carLaw hl
  unfold State.rearEdge
  split
  next c hc =>
    split
    · have measured : SoldSame s (s.setTail { c with length := some c.front, state := .riding }) := by
        rw [setTail_eq hc]
        exact map_set_key Car.sold (tailCar_getElem? hc) rfl
      unfold State.measure
      exact (Quiet.ite (raiseCause_frame ..).quiet .refl).carLaw (measured.carLaw hl)
    · exact stray
  next => exact stray

theorem eraseCar_carLaw {s : State} (p : Car → Bool) (h : CarLaw s) : CarLaw (s.setCars (s.track.cars.eraseP p)) := by
  obtain ⟨hlen, htags, hdone⟩ := h
  refine ⟨Nat.le_trans List.length_eraseP_le hlen, ?_, fun c hc => hdone c (List.mem_of_mem_eraseP hc)⟩
  exact htags.sublist (List.eraseP_sublist.map _)

theorem depart_quiet (s : State) (tag : Nat) : Quiet s (s.depart tag) := (depart_frame s tag).quiet

theorem leave_carLaw {s : State} (h : CarLaw s) (c : Car) (removed : Bool) : CarLaw (s.leave c removed) := by
  unfold State.leave
  exact ((freeBound_frame ..).quiet.trans (review_quiet _)).carLaw
    (eraseCar_carLaw _ (((depart_quiet s c.tag).trans (toSite_frame ..).quiet).carLaw h))

theorem empty_carLaw {s : State} (h : s.track.cars = []) : CarLaw s := by
  refine ⟨by simp [h], by simp [State.carTags, h], by simp [h]⟩

theorem taking_carLaw {c : Instr} {s : State} {g : State → State} (h : Safe s) (hl : CarLaw s)
    (hg : ∀ t, Safe t → CarLaw t → CarLaw (g t)) : Answers CarLaw (taking c s g) :=
  taking_answers hl (hg _ ((setHanded_frame ..).calm.safe h) ((setHanded_frame ..).quiet.carLaw hl))

theorem execStep_carLaw {s : State} (h : Safe s) (hl : CarLaw s) (src : Nat) (delta : Byte) (early : Option Nat) :
    Answers CarLaw (execStep src delta early s) := by
  refine taking_carLaw h hl fun t ht hlt => ?_
  dsimp only
  split
  · exact hlt
  · split
    · exact ((raiseCause_frame ..).quiet.trans (notifyTrack_frame ..).quiet).carLaw hlt
    · exact applyStep_carLaw ht hlt _ early

theorem execEntryEyeBlocked_carLaw {s : State} (h : Safe s) (hl : CarLaw s) (src : Nat) :
    Answers CarLaw (execEntryEyeBlocked src s) := by
  refine taking_carLaw h hl fun t _ hlt => ?_
  have seen : CarLaw (t.setMerge { t.merge with entryBlocked := true }) := hlt
  dsimp only
  split
  · exact (notifyTrack_frame ..).quiet.carLaw hlt
  · split
    · exact (notifyTrack_frame ..).quiet.carLaw seen
    · exact frontEdge_carLaw seen src

theorem execCheckEyeEdge_carLaw {s : State} (h : Safe s) (hl : CarLaw s) (src : Nat) (blocked : Bool) :
    Answers CarLaw (execCheckEyeEdge src blocked s) := by
  refine taking_carLaw h hl fun t ht hlt => ?_
  split
  · exact hlt
  · split
    · exact hlt
    · exact sighting_carLaw ht hlt ..

theorem execExitEyeBlocked_carLaw {s : State} (h : Safe s) (hl : CarLaw s) (src : Nat) :
    Answers CarLaw (execExitEyeBlocked src s) := by
  refine taking_carLaw h hl fun t ht hlt => ?_
  have calm : Calm t (t.setTrack { t.track with exitBlocked := true }) := setTrack_calm _ _ rfl rfl rfl
  have eye : CarLaw (t.setTrack { t.track with exitBlocked := true }) := hlt
  dsimp only
  split
  · exact eye
  · exact judgeExit_carLaw (calm.safe ht) eye src

theorem execExitEyeClear_carLaw {s : State} (h : Safe s) (hl : CarLaw s) (src : Nat) :
    Answers CarLaw (execExitEyeClear src s) := by
  refine taking_carLaw h hl fun t _ hlt => ?_
  have eye : CarLaw (t.setTrack { t.track with exitBlocked := false }) := hlt
  dsimp only
  split
  · exact leave_carLaw eye _ _
  · exact (Quiet.ite .refl (notifyTrack_frame ..).quiet).carLaw eye

theorem execRemoveCar_carLaw {s : State} (h : Safe s) (hl : CarLaw s) (seq : Byte) (args : List Byte) :
    Answers CarLaw (execRemoveCar seq args s) := by
  refine taking_carLaw h hl fun t _ hlt => ?_
  have answer (st : Status) : CarLaw (t.reply seq 12 st []) := (reply_quiet ..).carLaw hlt
  split
  · exact answer _
  · split
    · exact answer _
    · split
      · exact answer _
      · exact (reply_quiet ..).carLaw (leave_carLaw hlt _ _)

/-- Every command keeps the tags and the done sets. -/
theorem exec_carLaw (c : Instr) (s : State) (h : Safe s) (hl : CarLaw s) : Answers CarLaw (exec c s) := by
  cases hc : movesCars c with
  | false =>
    obtain ⟨t, ht, hq⟩ := exec_quiet c s hc
    exact ⟨t, ht, hq.carLaw hl⟩
  | true =>
    cases c
    case powerOnReset estop => exact .next ((takeEstop_quiet ..).carLaw (empty_carLaw rfl))
    case lineReset => exact .next (empty_carLaw rfl)
    case step src delta early => exact execStep_carLaw h hl src delta early
    case entryEyeBlocked src => exact execEntryEyeBlocked_carLaw h hl src
    case entryEyeClear src => exact taking_carLaw h hl fun t _ hlt => (review_quiet _).carLaw (rearEdge_carLaw hlt)
    case checkEyeEdge src blocked => exact execCheckEyeEdge_carLaw h hl src blocked
    case exitEyeBlocked src => exact execExitEyeBlocked_carLaw h hl src
    case exitEyeClear src => exact execExitEyeClear_carLaw h hl src
    case removeCar seq args => exact execRemoveCar_carLaw h hl seq args
    all_goals cases hc

end Sys2Proof.Machine
end

section
/-!
The line of the cars kept by every command (R123, R126, R130, R134 to R137): the second half of the obligation O60.
-/
namespace Sys2Proof.Machine

-- Proofs in order: a thread that waits for another proof counts against the check's memory limit.
set_option Elab.async false

/-! ## The line as the law reads it -/

/-- What the law of the line reads of a car. -/
def Car.place (c : Car) : CarState × Option Nat × Nat := (c.state, c.length, c.front)

/-- The next state holds the cars in line as they stood, and the entry eye as it was recorded. -/
structure LineSame (s t : State) : Prop where
  cars : t.track.cars.map Car.place = s.track.cars.map Car.place
  eye : t.merge.entryBlocked = s.merge.entryBlocked

theorem LineSame.refl {s : State} : LineSame s s := ⟨rfl, rfl⟩

theorem LineSame.trans {s t u : State} (h : LineSame s t) (k : LineSame t u) : LineSame s u :=
  ⟨k.cars.trans h.cars, k.eye.trans h.eye⟩

theorem Quiet.line {s t : State} (h : Quiet s t) : LineSame s t := by
  refine ⟨?_, h.eye⟩
  have := congrArg (List.map fun k : Nat × ServiceSet × ServiceSet × CarState × Option Nat × Nat => k.2.2.2) h.cars
  rw [List.map_map, List.map_map] at this
  exact this

/-- A place of a list read alike. -/
theorem getElem?_of_map_eq {l k : List Car} {β : Type} {g : Car → β} (h : l.map g = k.map g) {j : Nat} {c : Car}
    (hc : l[j]? = some c) : ∃ d, k[j]? = some d ∧ g d = g c := by
  have hj := congrArg (fun m : List β => m[j]?) h
  simp only [List.getElem?_map, hc, Option.map_some] at hj
  obtain ⟨d, hd, hdc⟩ := Option.map_eq_some_iff.mp hj.symm
  exact ⟨d, hd, hdc⟩

theorem place_eq_iff {c d : Car} : d.place = c.place ↔ d.state = c.state ∧ d.length = c.length ∧ d.front = c.front := by
  simp [Car.place]

/-- The law of the line, car by car of a list and with the entry eye's record. -/
structure InLine (l : List Car) (eye : Bool) : Prop where
  entering : ∀ (j : Nat) (c : Car), l[j]? = some c → c.state = .entering → j + 1 = l.length ∧ c.length = none ∧ eye = true
  riding : ∀ c ∈ l, c.state = .riding → c.length ≠ none
  exiting : ∀ (j : Nat) (c : Car), l[j]? = some c → c.state = .exiting → j = 0
  falling : ∀ (i j : Nat) (a b : Car), i < j → l[i]? = some a → l[j]? = some b → a.length ≠ none → b.front < a.front

theorem lineLaw_iff (s : State) : LineLaw s ↔ InLine s.track.cars s.merge.entryBlocked :=
  ⟨fun ⟨h1, h2, h3, h4⟩ => ⟨h1, h2, h3, h4⟩, fun ⟨h1, h2, h3, h4⟩ => ⟨h1, h2, h3, h4⟩⟩

theorem InLine.congr {l k : List Car} {eye : Bool} (h : l.map Car.place = k.map Car.place) (hk : InLine k eye) :
    InLine l eye := by
  have hlen : l.length = k.length := by simpa using congrArg List.length h
  refine ⟨fun j c hc he => ?_, fun c hc hr => ?_, fun j c hc he => ?_, fun i j a b hij ha hb hl => ?_⟩
  · obtain ⟨d, hd, hdc⟩ := getElem?_of_map_eq h hc
    obtain ⟨hstate, hlength, -⟩ := place_eq_iff.mp hdc
    rw [hlen, ← hlength]
    exact hk.entering j d hd (hstate.trans he)
  · obtain ⟨j, hj, rfl⟩ := List.getElem_of_mem hc
    obtain ⟨d, hd, hdc⟩ := getElem?_of_map_eq h (List.getElem?_eq_getElem hj)
    obtain ⟨hstate, hlength, -⟩ := place_eq_iff.mp hdc
    rw [← hlength]
    exact hk.riding d (List.mem_of_getElem? hd) (hstate.trans hr)
  · obtain ⟨d, hd, hdc⟩ := getElem?_of_map_eq h hc
    obtain ⟨hstate, -⟩ := place_eq_iff.mp hdc
    exact hk.exiting j d hd (hstate.trans he)
  · obtain ⟨a', ha', haa⟩ := getElem?_of_map_eq h ha
    obtain ⟨b', hb', hbb⟩ := getElem?_of_map_eq h hb
    obtain ⟨-, hlength, hfa⟩ := place_eq_iff.mp haa
    obtain ⟨-, -, hfb⟩ := place_eq_iff.mp hbb
    rw [← hfa, ← hfb]
    exact hk.falling i j a' b' hij ha' hb' (hlength ▸ hl)

theorem LineSame.lineLaw {s t : State} (h : LineSame s t) (hs : LineLaw s) : LineLaw t := by
  rw [lineLaw_iff, h.eye]
  exact ((lineLaw_iff s).mp hs).congr h.cars

theorem Quiet.lineLaw {s t : State} (h : Quiet s t) : LineLaw s → LineLaw t := h.line.lineLaw

/-! ## Movements handed to the stations leave the line alone -/

theorem credit_line (s : State) (tag svc : Nat) : LineSame s (s.credit tag svc) :=
  ⟨List.map_map.trans (List.map_congr_left fun c _ => by simp only [Function.comp]; split <;> rfl), rfl⟩

theorem LineSame.foldl {α : Type} {g : State → α → State} (h : ∀ t x, LineSame t (g t x)) (xs : List α) :
    ∀ s, LineSame s (xs.foldl g s) := by
  induction xs with
  | nil => intro s; exact .refl
  | cons x xs ih => intro s; exact (h s x).trans (ih _)

theorem endCrossing_line (s : State) (i tag : Nat) : LineSame s (s.endCrossing i tag) := by
  have released : LineSame s (s.release i) := (release_frame s i).quiet.line
  unfold State.endCrossing
  dsimp only
  split
  · split
    · exact released.trans (credit_line ..)
    · exact released
    · exact .refl
    · exact .refl
  · exact .refl

theorem judgeStation_line (s : State) (i : Nat) (moves : List Move) (d : Option Nat) :
    LineSame s (s.judgeStation i moves d) := by
  have ends (l : List Move) (t : State) : LineSame t (l.foldl (fun t m => t.endCrossing i m.tag) t) :=
    .foldl (fun t m => endCrossing_line t i m.tag) l t
  have starts (l : List Move) (t : State) : LineSame t (l.foldl (fun t m => t.startCrossing i m) t) :=
    .foldl (fun t m => (startCrossing_frame t i m).quiet.line) l t
  unfold State.judgeStation
  dsimp only
  split
  · cases d with
    | none => exact (ends ..).trans (starts ..)
    | some n => exact ((ends ..).trans (countBackoff_frame ..).quiet.line).trans (starts ..)
  · exact .refl

theorem handMoves_line (s : State) (moves : List Move) (d : Option Nat) : LineSame s (s.handMoves moves d) :=
  .foldl (fun t i => judgeStation_line t i moves d) _ s

/-! ## A step (R126) -/

/-- Every car moved by the same amount keeps the line. -/
theorem InLine.advance {l : List Car} {eye : Bool} (n : Nat) (h : InLine l eye) :
    InLine (l.map fun c => { c with front := c.front + n }) eye := by
  have back {j : Nat} {c : Car} (hc : (l.map fun c => { c with front := c.front + n })[j]? = some c) :
      ∃ d, l[j]? = some d ∧ c = { d with front := d.front + n } := by
    rw [List.getElem?_map] at hc
    obtain ⟨d, hd, rfl⟩ := Option.map_eq_some_iff.mp hc
    exact ⟨d, hd, rfl⟩
  refine ⟨fun j c hc he => ?_, fun c hc hr => ?_, fun j c hc he => ?_, fun i j a b hij ha hb hl => ?_⟩
  · obtain ⟨d, hd, rfl⟩ := back hc
    rw [List.length_map]
    exact h.entering j d hd he
  · obtain ⟨d, hd, rfl⟩ := List.mem_map.mp hc
    exact h.riding d hd hr
  · obtain ⟨d, hd, rfl⟩ := back hc
    exact h.exiting j d hd he
  · obtain ⟨a', ha', rfl⟩ := back ha
    obtain ⟨b', hb', rfl⟩ := back hb
    exact Nat.add_lt_add_right (h.falling i j a' b' hij ha' hb' hl) n

theorem applyStep_lineLaw {s : State} (h : LineLaw s) (d : Nat) (e : Option Nat) : LineLaw (s.applyStep d e) := by
  have moved : LineLaw (s.moveCars d) := (lineLaw_iff _).mpr (((lineLaw_iff s).mp h).advance (s.advance d))
  have passed := (mapCars_quiet (s.moveCars d) (s.moveCars d).passEye (passEye_key _)).lineLaw moved
  have raised (t : State) (l : List (CauseKind × CauseDetail)) : Quiet t ((t.raiseAll l).takeEarly l e) :=
    (setRaised_frame ..).quiet.trans (takeEarly_quiet ..)
  unfold State.applyStep
  exact (review_quiet _).lineLaw ((handMoves_line ..).lineLaw ((raised _ _).lineLaw passed))

/-! ## The entry (R111 to R114, R130) -/

/-- A car ENTERING joins at the tail of a line with nobody ENTERING, behind every car of known length. -/
theorem InLine.insert {l : List Car} {c : Car} (h : InLine l false) (state : c.state = .entering) (length : c.length = none)
    (behind : ∀ a ∈ l, a.length ≠ none → c.front < a.front) : InLine (l ++ [c]) true := by
  have place {j : Nat} {d : Car} (hd : (l ++ [c])[j]? = some d) : l[j]? = some d ∨ j = l.length ∧ d = c := by
    by_cases hj : j < l.length
    · rw [List.getElem?_append_left hj] at hd
      exact .inl hd
    · have hlen := (List.getElem?_eq_some_iff.mp hd).1
      simp at hlen
      have heq : j = l.length := by omega
      subst heq
      simp at hd
      exact .inr ⟨rfl, hd.symm⟩
  refine ⟨fun j d hd he => ?_, fun d hd hr => ?_, fun j d hd he => ?_, fun i j a b hij ha hb hl => ?_⟩
  · obtain hd | ⟨rfl, rfl⟩ := place hd
    · obtain ⟨-, -, heye⟩ := h.entering j d hd he
      cases heye
    · exact ⟨by simp, length, rfl⟩
  · obtain hd | hd := List.mem_append.mp hd
    · exact h.riding d hd hr
    · obtain rfl := List.mem_singleton.mp hd
      rw [state] at hr
      cases hr
  · obtain hd | ⟨rfl, rfl⟩ := place hd
    · exact h.exiting j d hd he
    · rw [state] at he
      cases he
  · obtain ha' | ⟨rfl, rfl⟩ := place ha
    · obtain hb' | ⟨rfl, rfl⟩ := place hb
      · exact h.falling i j a b hij ha' hb' hl
      · exact behind a (List.mem_of_getElem? ha') hl
    · exact absurd length hl

/-- The entry eye's record read BLOCKED keeps the line. -/
theorem InLine.blocked {l : List Car} {eye : Bool} (h : InLine l eye) : InLine l true :=
  ⟨fun j c hc he => ⟨(h.entering j c hc he).1, (h.entering j c hc he).2.1, rfl⟩, h.riding, h.exiting, h.falling⟩

/-- A tail that has moved is behind every car of known length, and the next car at 0 behind them all. -/
theorem InLine.moved {l : List Car} {eye : Bool} (h : InLine l eye) {c : Car} (hc : l.getLast? = some c)
    (hf : c.front ≠ 0) : ∀ a ∈ l, a.length ≠ none → 0 < a.front := by
  intro a ha hl
  obtain ⟨i, hi, rfl⟩ := List.getElem_of_mem ha
  rw [List.getLast?_eq_getElem?] at hc
  by_cases hlast : i = l.length - 1
  · subst hlast
    rw [List.getElem?_eq_getElem hi] at hc
    obtain rfl := Option.some.inj hc
    omega
  · have := h.falling i (l.length - 1) l[i] c (by omega) (List.getElem?_eq_getElem hi) hc hl
    omega

theorem createCar_lineLaw {s : State} (h : InLine s.track.cars false) (blocked : s.merge.entryBlocked = true)
    (front : ∀ a ∈ s.track.cars, a.length ≠ none → 0 < a.front) : LineLaw s.createCar := by
  have inserted (c : Car) (hstate : c.state = .entering) (hlength : c.length = none) (hfront : c.front = 0) :
      LineLaw (s.insertCar c) := by
    have := h.insert hstate hlength (hfront ▸ front)
    rw [lineLaw_iff]
    exact blocked ▸ this
  unfold State.createCar
  split
  · unfold State.bindCar
    exact (((((setOrder_frame ..).quiet.trans (dequeue_frame ..).quiet).trans (endGrant_quiet ..)).trans
      (stageOnBinding_quiet ..)).trans (review_quiet _)).lineLaw (inserted _ rfl rfl rfl)
  · unfold State.unannouncedCar
    exact (((notifyTrack_frame ..).quiet.trans (handStart_frame _).quiet).trans (judgeConveyor_quiet _)).lineLaw
      (inserted _ rfl rfl rfl)

/-- A front edge at an entry eye that was CLEAR (R110 to R114). -/
theorem frontEdge_lineLaw {s : State} (h : InLine s.track.cars false) (blocked : s.merge.entryBlocked = true) (src : Nat) :
    LineLaw (s.frontEdge src) := by
  have crush (c : Car) : Quiet s (s.entryCrush src c) := (raiseCause_frame ..).quiet
  have law : LineLaw s := (lineLaw_iff s).mpr (blocked ▸ h.blocked)
  unfold State.frontEdge
  split
  · exact ((raiseCause_frame ..).quiet.trans (notifyTrack_frame ..).quiet).lineLaw law
  · split
    next hnone =>
      refine createCar_lineLaw h blocked fun a ha => ?_
      have hnil : s.track.cars = [] := by simpa [State.tailCar] using hnone
      rw [hnil] at ha
      cases ha
    next c hc =>
      split
      · exact (crush c).lineLaw law
      next hf =>
        have front := h.moved hc hf
        split
        · exact createCar_lineLaw h blocked front
        · exact createCar_lineLaw h blocked front

/-- The tail shows its rear: RIDING with its length, or nobody was ENTERING (R130). -/
theorem rearEdge_lineLaw {s : State} (h : InLine s.track.cars true) : LineLaw s.rearEdge := by
  have nobody (hno : ∀ c ∈ s.track.cars, c.state ≠ .entering) : LineLaw s.strayRear := by
    have law : LineLaw s := (lineLaw_iff s).mpr
      ⟨fun j c hc he => absurd he (hno c (List.mem_of_getElem? hc)), h.riding, h.exiting, h.falling⟩
    unfold State.strayRear
    exact (Quiet.ite .refl (notifyTrack_frame ..).quiet).lineLaw law
  unfold State.rearEdge
  split
  next c hc =>
    have hlast := tailCar_getElem? hc
    split
    next he =>
      have measured : LineLaw (s.setTail { c with length := some c.front, state := .riding }) := by
        rw [setTail_eq hc, lineLaw_iff]
        have hlt := (List.getElem?_eq_some_iff.mp hlast).1
        have place {j : Nat} {d : Car} (hd : (s.track.cars.set (s.track.cars.length - 1)
            { c with length := some c.front, state := .riding })[j]? = some d) :
            j ≠ s.track.cars.length - 1 ∧ s.track.cars[j]? = some d ∨
              j = s.track.cars.length - 1 ∧ d = { c with length := some c.front, state := .riding } := by
          by_cases hj : j = s.track.cars.length - 1
          · subst hj
            rw [List.getElem?_set_self hlt] at hd
            exact .inr ⟨rfl, (Option.some.inj hd).symm⟩
          · rw [List.getElem?_set_ne (Ne.symm hj)] at hd
            exact .inl ⟨hj, hd⟩
        refine ⟨fun j d hd hen => ?_, fun d hd hr => ?_, fun j d hd hex => ?_, fun i j a b hij ha hb hl => ?_⟩
        · obtain ⟨hj, hd⟩ | ⟨-, rfl⟩ := place hd
          · obtain ⟨htail, -⟩ := h.entering j d hd hen
            omega
          · cases hen
        · obtain hd | rfl := List.mem_or_eq_of_mem_set hd
          · exact h.riding d hd hr
          · exact fun hl => nomatch hl
        · obtain ⟨-, hd⟩ | ⟨-, rfl⟩ := place hd
          · exact h.exiting j d hd hex
          · cases hex
        · obtain ⟨hi, ha⟩ | ⟨rfl, rfl⟩ := place ha
          · obtain ⟨-, hb⟩ | ⟨rfl, rfl⟩ := place hb
            · exact h.falling i j a b hij ha hb hl
            · exact h.falling i _ a c hij ha hlast hl
          · have hj : j < s.track.cars.length := List.length_set ▸ (List.getElem?_eq_some_iff.mp hb).1
            omega
      unfold State.measure
      exact (Quiet.ite (raiseCause_frame ..).quiet .refl).lineLaw measured
    next hne =>
      refine nobody fun d hd he => ?_
      obtain ⟨j, hj, rfl⟩ := List.getElem_of_mem hd
      obtain ⟨htail, -⟩ := h.entering j _ (List.getElem?_eq_getElem hj) he
      have hjl : j = s.track.cars.length - 1 := by omega
      subst hjl
      rw [List.getElem?_eq_getElem hj] at hlast
      exact hne (Option.some.inj hlast ▸ he)
  next hnone =>
    have hnil : s.track.cars = [] := by simpa [State.tailCar] using hnone
    refine nobody fun d hd => ?_
    rw [hnil] at hd
    cases hd

/-! ## Sightings (R134 to R136) -/

/-- A correction that the guard lets pass stays behind the car ahead and before the car behind (R135). -/
theorem crushing_none {s : State} {j front : Nat} {c : Car} (h : s.crushing j front c = none) :
    (∀ a, j ≠ 0 → s.track.cars[j - 1]? = some a → front < a.front) ∧
    ∀ b, s.track.cars[j + 1]? = some b → c.length ≠ none → b.front < front := by
  unfold State.crushing at h
  dsimp only at h
  rw [Option.map_eq_none_iff, Option.or_eq_none_iff] at h
  obtain ⟨hahead, hbehind⟩ := h
  refine ⟨fun a hj ha => ?_, fun b hb hl => ?_⟩
  · rw [if_neg hj, ha] at hahead
    simp only [Option.filter_eq_none_iff, Option.some.injEq, Bool.not_eq_true, Bool.not_eq_false',
      decide_eq_true_eq, forall_eq'] at hahead
    unfold Car.rear at hahead
    cases hlen : a.length with
    | none => rw [hlen] at hahead; simp at hahead; omega
    | some n => rw [hlen] at hahead; simp at hahead; omega
  · rw [hb] at hbehind
    obtain ⟨n, hn⟩ := Option.ne_none_iff_exists'.mp hl
    simp only [hn, Option.filter_eq_none_iff, Option.some.injEq, Bool.not_eq_true, Bool.not_eq_false',
      decide_eq_true_eq, forall_eq'] at hbehind
    omega

/-- A car moved within its neighbours keeps the line. -/
theorem InLine.correct {l : List Car} {eye : Bool} {j pos : Nat} {c : Car} (h : InLine l eye) (hc : l[j]? = some c)
    (ahead : ∀ a, j ≠ 0 → l[j - 1]? = some a → pos < a.front)
    (behind : ∀ b, l[j + 1]? = some b → c.length ≠ none → b.front < pos) :
    InLine (l.modify j fun c => { c with front := pos }) eye := by
  have hj := (List.getElem?_eq_some_iff.mp hc).1
  have place {i : Nat} {d : Car} (hd : (l.modify j fun c => { c with front := pos })[i]? = some d) :
      i ≠ j ∧ l[i]? = some d ∨ i = j ∧ d = { c with front := pos } := by
    by_cases hi : i = j
    · subst hi
      rw [List.getElem?_modify_eq, hc] at hd
      exact .inr ⟨rfl, (Option.some.inj hd).symm⟩
    · rw [List.getElem?_modify_ne _ _ (Ne.symm hi)] at hd
      exact .inl ⟨hi, hd⟩
  have same {i : Nat} {d : Car} (hd : (l.modify j fun c => { c with front := pos })[i]? = some d) :
      ∃ e, l[i]? = some e ∧ e.state = d.state ∧ e.length = d.length := by
    obtain ⟨-, hd⟩ | ⟨rfl, rfl⟩ := place hd
    · exact ⟨d, hd, rfl, rfl⟩
    · exact ⟨c, hc, rfl, rfl⟩
  refine ⟨fun i d hd he => ?_, fun d hd hr => ?_, fun i d hd he => ?_, fun i k a b hik ha hb hl => ?_⟩
  · obtain ⟨e, he', hstate, hlength⟩ := same hd
    rw [List.length_modify, ← hlength]
    exact h.entering i e he' (hstate.trans he)
  · obtain ⟨i, hi, rfl⟩ := List.getElem_of_mem hd
    obtain ⟨e, he', hstate, hlength⟩ := same (List.getElem?_eq_getElem hi)
    rw [← hlength]
    exact h.riding e (List.mem_of_getElem? he') (hstate.trans hr)
  · obtain ⟨e, he', hstate, -⟩ := same hd
    exact h.exiting i e he' (hstate.trans he)
  · obtain ⟨-, ha'⟩ | ⟨rfl, rfl⟩ := place ha
    · obtain ⟨-, hb'⟩ | ⟨rfl, rfl⟩ := place hb
      · exact h.falling i k a b hik ha' hb' hl
      · -- the corrected car and one ahead of it
        have hprev := List.getElem?_eq_getElem (show k - 1 < l.length by omega)
        have hpos := ahead _ (by omega) hprev
        by_cases hi : i = k - 1
        · subst hi
          rw [hprev] at ha'
          obtain rfl := Option.some.inj ha'
          exact hpos
        · exact Nat.lt_trans hpos (h.falling i (k - 1) a _ (by omega) ha' hprev hl)
    · obtain ⟨-, hb'⟩ | ⟨rfl, rfl⟩ := place hb
      · -- the corrected car and one behind it
        have hk := (List.getElem?_eq_some_iff.mp hb').1
        have hnext := List.getElem?_eq_getElem (show i + 1 < l.length by omega)
        have hpos := behind _ hnext hl
        by_cases hkn : k = i + 1
        · subst hkn
          rw [hnext] at hb'
          obtain rfl := Option.some.inj hb'
          exact hpos
        · refine Nat.lt_trans (h.falling (i + 1) k _ b (by omega) hnext hb' fun hnone => ?_) hpos
          cases hstate : l[i + 1].state with
          | entering =>
            have := (h.entering _ _ hnext hstate).1
            omega
          | riding => exact h.riding _ (List.getElem_mem _) hstate hnone
          | exiting => exact absurd (h.exiting _ _ hnext hstate) (by omega)
      · omega

theorem correct_lineLaw {s : State} {j : Nat} {c : Car} (h : LineLaw s) (hc : s.track.cars[j]? = some c) (k pos : Nat) :
    LineLaw (s.correct j k pos c) := by
  have near := nearMiss_quiet hc k (sightingError pos c)
  unfold State.correct
  dsimp only
  split
  · exact (near.trans (raiseCause_frame ..).quiet).lineLaw h
  next hguard =>
    split
    · exact near.lineLaw h
    · obtain ⟨ahead, behind⟩ := crushing_none hguard
      refine (handMoves_line ..).lineLaw ?_
      have law := (lineLaw_iff _).mp (near.lineLaw h)
      have read {i : Nat} {d : Car} (hd : (s.nearMiss j k (sightingError pos c) c).track.cars[i]? = some d) :
          ∃ e, s.track.cars[i]? = some e ∧ e.place = d.place := getElem?_of_map_eq near.line.cars hd
      obtain ⟨c', hc', hplace⟩ := getElem?_of_map_eq near.line.cars.symm hc
      rw [lineLaw_iff]
      refine law.correct hc' (fun a hj ha => ?_) fun b hb hl => ?_
      · obtain ⟨e, he, hep⟩ := read ha
        rw [← (place_eq_iff.mp hep).2.2]
        exact ahead e hj he
      · obtain ⟨e, he, hep⟩ := read hb
        rw [← (place_eq_iff.mp hep).2.2]
        exact behind e he ((place_eq_iff.mp hplace).2.1 ▸ hl)

theorem sighting_lineLaw {s : State} (h : LineLaw s) (src k pos : Nat) : LineLaw (s.sighting src k pos) := by
  have fault (car : Option Nat) : LineLaw (s.trackFault src k car) := (trackFault_frame ..).quiet.lineLaw h
  unfold State.sighting
  split
  · exact fault _
  · split
    · exact h
    next c hc =>
      refine (modifyCar_quiet _ _ _ (by exact fun _ => rfl)).lineLaw ?_
      split
      · exact correct_lineLaw h hc k pos
      · exact fault _

/-- The head may become EXITING. -/
theorem InLine.exit {l : List Car} {eye : Bool} (h : InLine l eye) :
    InLine (l.modify 0 fun c => { c with state := .exiting }) eye := by
  cases l with
  | nil => exact h
  | cons c l =>
    have place {i : Nat} {d : Car} (hd : ({ c with state := CarState.exiting } :: l)[i]? = some d) :
        i ≠ 0 ∧ (c :: l)[i]? = some d ∨ i = 0 ∧ d = { c with state := .exiting } := by
      cases i with
      | zero => exact .inr ⟨rfl, (Option.some.inj hd).symm⟩
      | succ i => exact .inl ⟨Nat.succ_ne_zero i, hd⟩
    have same {i : Nat} {d : Car} (hd : ({ c with state := CarState.exiting } :: l)[i]? = some d) :
        ∃ e, (c :: l)[i]? = some e ∧ e.length = d.length ∧ e.front = d.front := by
      obtain ⟨-, hd⟩ | ⟨rfl, rfl⟩ := place hd
      · exact ⟨d, hd, rfl, rfl⟩
      · exact ⟨c, rfl, rfl, rfl⟩
    rw [List.modify_zero_cons]
    refine ⟨fun j d hd he => ?_, fun d hd hr => ?_, fun j d hd he => ?_, fun i j a b hij ha hb hl => ?_⟩
    · obtain ⟨-, hd⟩ | ⟨-, rfl⟩ := place hd
      · exact h.entering j d hd he
      · cases he
    · obtain rfl | hd := List.mem_cons.mp hd
      · cases hr
      · exact h.riding d (List.mem_cons_of_mem _ hd) hr
    · obtain ⟨-, hd⟩ | ⟨rfl, -⟩ := place hd
      · exact h.exiting j d hd he
      · rfl
    · obtain ⟨a', ha', hla, hfa⟩ := same ha
      obtain ⟨b', hb', -, hfb⟩ := same hb
      rw [← hfa, ← hfb]
      exact h.falling i j a' b' hij ha' hb' (hla ▸ hl)

theorem judgeExit_lineLaw {s : State} (h : LineLaw s) (src : Nat) : LineLaw (s.judgeExit src) := by
  have fault (car : Option Nat) : LineLaw (s.trackFault src exitEyeIndex car) := (trackFault_frame ..).quiet.lineLaw h
  unfold State.judgeExit
  split
  · exact fault _
  next c hc =>
    split
    · exact fault _
    · split
      · exact (notifyTrack_frame ..).quiet.lineLaw h
      · have corrected := correct_lineLaw (j := 0) h (List.head?_eq_getElem? ▸ hc) exitEyeIndex (s.param .exitPos)
        exact (lineLaw_iff _).mpr ((lineLaw_iff _).mp corrected).exit

/-! ## A car that leaves (R137) -/

/-- A car taken out of the line leaves the others in line. -/
theorem InLine.erase {l : List Car} {eye : Bool} (h : InLine l eye) (n : Nat) : InLine (l.eraseIdx n) eye := by
  have place {i : Nat} {d : Car} (hd : (l.eraseIdx n)[i]? = some d) :
      i < n ∧ l[i]? = some d ∨ n ≤ i ∧ l[i + 1]? = some d := by
    rw [List.getElem?_eraseIdx] at hd
    split at hd
    next hi => exact .inl ⟨hi, hd⟩
    next hi => exact .inr ⟨Nat.le_of_not_lt hi, hd⟩
  refine ⟨fun j d hd he => ?_, fun d hd hr => h.riding d (List.mem_of_mem_eraseIdx hd) hr, fun j d hd he => ?_,
    fun i j a b hij ha hb hl => ?_⟩
  · obtain ⟨hj, hd⟩ | ⟨hj, hd⟩ := place hd
    · obtain ⟨htail, hlength, heye⟩ := h.entering j d hd he
      refine ⟨?_, hlength, heye⟩
      rw [List.eraseIdx_of_length_le (by omega)]
      exact htail
    · obtain ⟨htail, hlength, heye⟩ := h.entering (j + 1) d hd he
      refine ⟨?_, hlength, heye⟩
      rw [List.length_eraseIdx_of_lt (by omega)]
      omega
  · obtain ⟨-, hd⟩ | ⟨-, hd⟩ := place hd
    · exact h.exiting j d hd he
    · exact absurd (h.exiting _ d hd he) (by omega)
  · obtain ⟨hi, ha⟩ | ⟨hi, ha⟩ := place ha <;> obtain ⟨hj, hb⟩ | ⟨hj, hb⟩ := place hb
    · exact h.falling i j a b hij ha hb hl
    · exact h.falling i (j + 1) a b (by omega) ha hb hl
    · omega
    · exact h.falling (i + 1) (j + 1) a b (by omega) ha hb hl

theorem leave_lineLaw {s : State} (h : LineLaw s) (c : Car) (removed : Bool) : LineLaw (s.leave c removed) := by
  have erased (t : State) (p : Car → Bool) (ht : LineLaw t) : LineLaw (t.setCars (t.track.cars.eraseP p)) := by
    rw [lineLaw_iff] at *
    have := List.eraseP_eq_eraseIdx (xs := t.track.cars) (p := p)
    cases hf : t.track.cars.findIdx? p with
    | none =>
      rw [hf] at this
      exact this ▸ ht
    | some n =>
      rw [hf] at this
      exact this ▸ ht.erase n
  unfold State.leave
  exact ((freeBound_frame ..).quiet.trans (review_quiet _)).lineLaw
    (erased _ _ (((depart_quiet s c.tag).trans (toSite_frame ..).quiet).lineLaw h))

/-! ## Command by command -/

theorem taking_lineLaw {c : Instr} {s : State} {g : State → State} (h : LineLaw s)
    (hg : ∀ t, LineLaw t → LineLaw (g t)) : Answers LineLaw (taking c s g) :=
  taking_answers h (hg _ ((setHanded_frame ..).quiet.lineLaw h))

theorem execStep_lineLaw {s : State} (h : LineLaw s) (src : Nat) (delta : Byte) (early : Option Nat) :
    Answers LineLaw (execStep src delta early s) := by
  refine taking_lineLaw h fun t ht => ?_
  dsimp only
  split
  · exact ht
  · split
    · exact ((raiseCause_frame ..).quiet.trans (notifyTrack_frame ..).quiet).lineLaw ht
    · exact applyStep_lineLaw ht _ early

theorem execEntryEyeBlocked_lineLaw {s : State} (h : LineLaw s) (src : Nat) :
    Answers LineLaw (execEntryEyeBlocked src s) := by
  refine taking_lineLaw h fun t ht => ?_
  have line := (lineLaw_iff t).mp ht
  have seen : LineLaw (t.setMerge { t.merge with entryBlocked := true }) := (lineLaw_iff _).mpr line.blocked
  dsimp only
  split
  · exact (notifyTrack_frame ..).quiet.lineLaw ht
  next hclear =>
    split
    · exact (notifyTrack_frame ..).quiet.lineLaw seen
    · exact frontEdge_lineLaw (s := t.setMerge { t.merge with entryBlocked := true })
        (by simpa [hclear] using line) rfl src

theorem execEntryEyeClear_lineLaw {s : State} (h : LineLaw s) (src : Nat) : Answers LineLaw (execEntryEyeClear src s) :=
  taking_lineLaw h fun t ht => (review_quiet _).lineLaw (rearEdge_lineLaw ((lineLaw_iff t).mp ht).blocked)

theorem execCheckEyeEdge_lineLaw {s : State} (h : LineLaw s) (src : Nat) (blocked : Bool) :
    Answers LineLaw (execCheckEyeEdge src blocked s) := by
  refine taking_lineLaw h fun t ht => ?_
  split
  · exact ht
  · split
    · exact ht
    · exact sighting_lineLaw ht ..

theorem execExitEyeBlocked_lineLaw {s : State} (h : LineLaw s) (src : Nat) :
    Answers LineLaw (execExitEyeBlocked src s) := by
  refine taking_lineLaw h fun t ht => ?_
  have eye : LineLaw (t.setTrack { t.track with exitBlocked := true }) :=
    (setTrack_quiet t { t.track with exitBlocked := true } rfl).lineLaw ht
  dsimp only
  split
  · exact eye
  · exact judgeExit_lineLaw eye src

theorem execExitEyeClear_lineLaw {s : State} (h : LineLaw s) (src : Nat) : Answers LineLaw (execExitEyeClear src s) := by
  refine taking_lineLaw h fun t ht => ?_
  have eye : LineLaw (t.setTrack { t.track with exitBlocked := false }) :=
    (setTrack_quiet t { t.track with exitBlocked := false } rfl).lineLaw ht
  dsimp only
  split
  · exact leave_lineLaw eye _ _
  · exact (Quiet.ite .refl (notifyTrack_frame ..).quiet).lineLaw eye

theorem execRemoveCar_lineLaw {s : State} (h : LineLaw s) (seq : Byte) (args : List Byte) :
    Answers LineLaw (execRemoveCar seq args s) := by
  refine taking_lineLaw h fun t ht => ?_
  have answer (st : Status) : LineLaw (t.reply seq 12 st []) := (reply_quiet ..).lineLaw ht
  split
  · exact answer _
  · split
    · exact answer _
    · split
      · exact answer _
      · exact (reply_quiet ..).lineLaw (leave_lineLaw ht _ _)

theorem empty_lineLaw {s : State} (h : s.track.cars = []) : LineLaw s := by
  rw [lineLaw_iff, h]
  exact ⟨by simp, by simp, by simp, by simp⟩

/-- Every command keeps the line. -/
theorem exec_lineLaw (c : Instr) (s : State) (h : LineLaw s) : Answers LineLaw (exec c s) := by
  cases hc : movesCars c with
  | false =>
    obtain ⟨t, ht, hq⟩ := exec_quiet c s hc
    exact ⟨t, ht, hq.lineLaw h⟩
  | true =>
    cases c
    case powerOnReset estop => exact .next ((takeEstop_quiet ..).lineLaw (empty_lineLaw rfl))
    case lineReset => exact .next (empty_lineLaw rfl)
    case step src delta early => exact execStep_lineLaw h src delta early
    case entryEyeBlocked src => exact execEntryEyeBlocked_lineLaw h src
    case entryEyeClear src => exact execEntryEyeClear_lineLaw h src
    case checkEyeEdge src blocked => exact execCheckEyeEdge_lineLaw h src blocked
    case exitEyeBlocked src => exact execExitEyeBlocked_lineLaw h src
    case exitEyeClear src => exact execExitEyeClear_lineLaw h src
    case removeCar seq args => exact execRemoveCar_lineLaw h seq args
    all_goals cases hc

/-- Both laws that guard the Car List's tags and done sets hold after every command. -/
theorem exec_safeCars (c : Instr) (s : State) (h : SafeCars s) : Answers SafeCars (exec c s) := by
  obtain ⟨t, ht, hsafe⟩ := exec_safe c s h.1
  exact ⟨t, ht, hsafe, (exec_carLaw c s h.1 h.2).elim ht⟩

/-- Settles O60: the list's own law with the halt laws beside it, and the line by itself. -/
theorem carListIsKept : Obligations.CarListIsKept :=
  ⟨fun _ _ hstill hhalt hcars ht => (step_keeps (P := SafeCars) (fun _ _ => id) exec_safeCars ⟨⟨hhalt, hstill⟩, hcars⟩ ht).2,
    fun _ _ => step_keeps (fun _ _ ⟨h1, h2, h3, h4⟩ => ⟨h1, h2, h3, h4⟩) exec_lineLaw⟩

end Sys2Proof.Machine
end

section
/-!
The resets and the tick (R1, R2, R29, R39, R40, R46, R160, R178): what they leave, and the obligations O4, O5, O6 and O54.
-/
namespace Sys2Proof.Machine

-- Proofs in order: a thread that waits for another proof counts against the check's memory limit.
set_option Elab.async false

/-- A command runs outside a held line reset (R2). -/
theorem running_eq {s : State} (g : State → State) (h : s.inReset = false) : running s g = .next (g s) := by
  simp [running, h]

/-! ## The ESTOP line as a reset ends (R178) -/

/-- An asserted ESTOP line latches ESTOP_LINE in OFFLINE. -/
theorem takeEstop_asserted {s : State} (mode : s.halt.mode = .offline) (line : s.halt.estopLine = false) :
    s.takeEstop true = (s.setHalt (Halt.latch { s.halt with estopLine := true } .estopLine CauseDetail.empty)).notifyHalt none
      (some .estopLine) := by
  simp [State.takeEstop, State.lineAsserted, State.takeCause, line, mode]
  rfl

theorem takeEstop_deasserted (s : State) : s.takeEstop false = s := rfl

theorem estopNotice_attn : ∀ r ∈ (State.reset.notifyHalt none (some .estopLine)).mgmt.notices, r.enabled = true := by
  decide

/-! ## The tables after a power-on reset (R46, R72, R95, R116, R160) -/

theorem powerOn_nodes : ∀ a, a < 64 → State.reset.node a =
    .blank (if a = 0 then .site else if a = 1 then .self else if a = 62 then .hub else .none) := by decide

theorem powerOn_services : ∀ n, n < 16 → State.reset.service n = ⟨false, 0⟩ := by decide

theorem powerOn_plans : ∀ n, n < 12 → State.reset.plan n = ⟨.absent, 0, 0, 0, 0, 1⟩ := by decide

theorem powerOn_lanes : ∀ l, l < 3 → State.reset.lane l = .blank := by decide

theorem powerOn_orders : ∀ r, r < 40 → (State.reset.order r).state = .free := by decide

theorem powerOn_records : ∀ n, n < 32 → (State.reset.memberRec n).state = .free := by decide

theorem powerOn_fetches : ∀ n, n < 4 → (State.reset.fetch n).id = none ∧ (State.reset.fetch n).timer = none := by decide

theorem powerOn_mergeLanes : ∀ l, l < 3 → State.reset.mergeLane l = ⟨false, .closed, false⟩ := by decide

theorem powerOn_stations : ∀ i, i < 24 → State.reset.station i = .blank := by decide

theorem powerOn_notices : ∀ r ∈ State.reset.mgmt.notices, r.enabled = true := by decide

/-- Settles O4: the tables are those of `State.reset`, and the ESTOP line found asserted changes the Halt block and the
notices alone. -/
theorem powerOnResetLeavesResetValues : Obligations.PowerOnResetLeavesResetValues := by
  intro estop s
  refine ⟨_, rfl, ?_⟩
  have lanes (l : Nat) (hl : l < 3) : (State.reset.lane l).isOpen = false ∧ (State.reset.lane l).queue = [] ∧
      (State.reset.lane l).token = 0 ∧ (State.reset.slot l).state = .empty ∧ (State.reset.slot l).life = none := by
    have hslot : State.reset.slot l = .blank := congrArg LaneSales.slot (powerOn_lanes l hl)
    rw [hslot, powerOn_lanes l hl]
    exact ⟨rfl, rfl, rfl, rfl, rfl⟩
  cases estop with
  | false =>
    exact ⟨rfl, rfl, powerOn_nodes, powerOn_services, powerOn_plans, lanes, powerOn_orders, rfl, rfl, powerOn_records, rfl,
      powerOn_fetches, powerOn_mergeLanes, rfl, rfl, rfl, rfl, rfl, rfl, powerOn_stations, rfl, rfl, rfl, rfl, rfl, rfl,
      rfl, rfl, rfl, rfl, rfl, rfl, rfl, powerOn_notices⟩
  | true =>
    rw [takeEstop_asserted rfl rfl]
    exact ⟨rfl, rfl, powerOn_nodes, powerOn_services, powerOn_plans, lanes, powerOn_orders, rfl, rfl, powerOn_records, rfl,
      powerOn_fetches, powerOn_mergeLanes, rfl, rfl, rfl, rfl, rfl, rfl, powerOn_stations, rfl, rfl, rfl, rfl, rfl, rfl,
      rfl, rfl, rfl, rfl, rfl, rfl, rfl, estopNotice_attn⟩

/-! ## LINE_RESET and its end (R2) -/

/-- A record of a table whose records are all changed by one function that keeps the default record. -/
theorem getD_map_default {α : Type} {g : α → α} {d : α} (h : g d = d) (l : List α) (n : Nat) :
    (l.map g).getD n d = g (l.getD n d) := by
  have := getD_map l d (n := n) g
  rwa [h] at this

theorem lineReset_node (s : State) (a : Nat) : s.lineReset.node a = NodeRecord.restart (s.node a) :=
  getD_map_default (by exact rfl) s.nodes a

theorem lineReset_station (s : State) (i : Nat) : s.lineReset.station i = Station.restart (s.station i) :=
  getD_map_default (by exact rfl) s.stations i

/-- The end of a line reset offers the RESUME, which the idle transmitter begins (R2, R17). -/
theorem endReset_lineReset (s : State) : s.lineReset.endReset =
    { s.lineReset with
      portF := .resuming, mgmt := { s.lineReset.mgmt with lastReset := .line }, inReset := false } := rfl

theorem endReset_lineReset_frame (s : State) :
    SameExcept [.reset, .portF, .mgmt, .halt] s.lineReset s.lineReset.endReset := by
  rw [endReset_lineReset]
  constructor
  intro p hp
  cases p
  case reset | portF | mgmt | halt => exact absurd (by decide) hp
  all_goals rfl

/-- Settles O5: the line reset writes every block once; the end of it offers one RESUME and takes the ESTOP line afresh. -/
theorem lineResetKeepsConfiguration : Obligations.LineResetKeepsConfiguration := by
  intro s
  refine ⟨s.lineReset, rfl, rfl, rfl, rfl, rfl, lineReset_node s, rfl, rfl, rfl, lineReset_station s, rfl, rfl, rfl, rfl,
    rfl, rfl, rfl, rfl, rfl, rfl, rfl, rfl, fun estop => ?_⟩
  refine ⟨s.lineReset.endReset.takeEstop estop, rfl, ?_⟩
  cases estop with
  | false => exact ⟨rfl, rfl, rfl, rfl, rfl, rfl, rfl, endReset_lineReset_frame s⟩
  | true =>
    rw [takeEstop_asserted rfl rfl]
    refine ⟨rfl, rfl, rfl, rfl, rfl, rfl, rfl, (endReset_lineReset_frame s).trans ?_⟩
    exact ((setHalt_frame ..).within (by decide)).trans ((notifyHalt_frame ..).within (by decide))

/-! ## The tick (R1, R39, R40) -/

theorem tick_lane (s : State) (l : Nat) : s.tick.lane l = LaneSales.tick (s.lane l) := getD_map_default (by exact rfl) s.sales.lanes l

theorem tick_fetch (s : State) (n : Nat) : s.tick.fetch n = Fetch.tick (s.fetch n) := getD_map_default (by exact rfl) s.members.fetches n

theorem tickNode_blank (s : State) (r : Role) : s.tickNode (.blank r) = .blank r := by
  simp [State.tickNode, State.watched, NodeRecord.blank]

theorem tick_node (s : State) (a : Nat) : s.tick.node a = s.tickNode (s.node a) :=
  getD_map_default (tickNode_blank s .none) s.nodes a

theorem tickNode_idle {s : State} {r : NodeRecord} (h : s.watched r = false) : s.tickNode r = { r with silence := 0 } := by
  simp [State.tickNode, h]

theorem tickNode_waiting {s : State} {r : NodeRecord} (h : s.watched r = true) (w : r.silent = true ∨ r.silenceDue = true) :
    s.tickNode r = r := by
  simp [State.tickNode, h, w]

theorem tickNode_counting {s : State} {r : NodeRecord} (h : s.watched r = true) (silent : r.silent = false)
    (due : r.silenceDue = false) : s.tickNode r =
      { r with silence := r.silence + 1, silenceDue := decide (r.watch ≤ r.silence + 1) } := by
  simp [State.tickNode, h, silent, due]

/-- Settles O6: record by record, a tick is one function of the record. -/
theorem tickCountsDownAndWatches : Obligations.TickCountsDownAndWatches := by
  intro s hreset _
  refine ⟨s.tick, running_eq State.tick hreset, rfl, rfl, rfl, rfl, rfl, rfl, rfl, fun l _ => ?slot, fun n _ => tick_fetch s n,
    fun a _ h => ?idle, fun a _ h hs => ?silent, fun a _ h hs hd => ?counting, fun a _ h hd => ?due⟩
  case slot => exact congrArg LaneSales.slot (tick_lane s l)
  case idle => rw [tick_node, tickNode_idle h]
  case silent => rw [tick_node, tickNode_waiting h (.inl hs)]
  case counting => rw [tick_node, tickNode_counting h hs hd]
  case due => rw [tick_node, tickNode_waiting h (.inr hd)]

/-! ## The laws right after a reset -/

/-- Sales and Merge as a reset leaves them keep each order record on the free list (R61, R72). -/
theorem fresh_poolLaw {s : State} {services : List ServiceEntry} {plans : List PlanEntry}
    (sales : s.sales = .fresh services plans) (merge : s.merge = .fresh) : PoolLaw s := by
  have queued : s.queued = [] := by simp only [State.queued, State.lane, sales]; rfl
  have free : s.sales.free = List.range 40 := by rw [sales]; rfl
  have order (r : Nat) (hr : r < 40) : s.order r = .blank := by
    simp only [State.order, sales, Sales.fresh]
    exact getD_replicate _ hr
  have lane (l : Nat) (hl : l < 3) : s.lane l = .blank := by
    simp only [State.lane, sales, Sales.fresh]
    exact getD_replicate _ hl
  have grant : s.merge.grant = none := by rw [merge]; rfl
  refine { lanes := by rw [sales]; rfl, orders := by rw [sales]; rfl, once := ?_, small := ?_, free := ?_, waiting := ?_,
           home := ?_, granted := ?_, named := ?_ }
  · rw [free, queued, List.append_nil]
    exact List.nodup_range
  · rw [free, queued, List.append_nil]
    exact fun r => List.mem_range.mp
  · intro r hr
    rw [order r hr, free]
    exact iff_of_true rfl (List.mem_range.mpr hr)
  · intro r hr
    rw [order r hr, queued]
    exact iff_of_false (by decide) List.not_mem_nil
  · intro l hl r hr
    rw [lane l hl] at hr
    cases hr
  · intro r hr
    rw [order r hr, State.grantedOrder, grant]
    exact iff_of_false (by decide) (by simp)
  · intro g hg
    rw [grant] at hg
    cases hg

theorem fresh_grantLaw {s : State} (merge : s.merge = .fresh) : GrantLaw s := by
  unfold GrantLaw
  rw [merge]
  exact ⟨rfl, fun h => absurd rfl h⟩

/-- No order is BOUND and no car stands right after a reset (R61, R141). -/
theorem fresh_boundLaw {s : State} {services : List ServiceEntry} {plans : List PlanEntry}
    (sales : s.sales = .fresh services plans) (track : s.track = .fresh) : BoundLaw s := by
  have order (r : Nat) (hr : r < 40) : (s.order r).state = .free := by
    simp only [State.order, sales, Sales.fresh]
    rw [getD_replicate _ hr]
    rfl
  refine ⟨fun r hr hb => ?_, fun c hc => ?_, fun q r hq hr hfree => absurd (order q hq) hfree⟩
  · rw [order r hr] at hb
    cases hb
  · rw [track] at hc
    cases hc

/-- The slots, records and fetches of a part that has just been reset (R72, R95). -/
structure Blank (s : State) : Prop where
  lane : ∀ l, l < 3 → s.lane l = .blank
  record : ∀ n, n < 32 → (s.memberRec n).state = .free
  fetch : ∀ n, n < 4 → s.fetch n = .blank
  members : s.members = .fresh

theorem fresh_blank {s : State} {services : List ServiceEntry} {plans : List PlanEntry}
    (sales : s.sales = .fresh services plans) (members : s.members = .fresh) : Blank s where
  lane l hl := by
    simp only [State.lane, sales, Sales.fresh]
    exact getD_replicate _ hl
  record n hn := by
    simp only [State.memberRec, members, Members.fresh]
    rw [getD_replicate _ hn]
    rfl
  fetch n hn := by
    simp only [State.fetch, members, Members.fresh]
    exact getD_replicate _ hn
  members := members

theorem Blank.slot {s : State} (h : Blank s) (l : Nat) (hl : l < 3) : s.slot l = .blank :=
  congrArg LaneSales.slot (h.lane l hl)

theorem Blank.quoteLaw {s : State} (h : Blank s) (shape : Shape s) : QuoteLaw s where
  shape := shape
  sound m hm := by
    rw [h.members] at hm
    rw [List.eq_of_mem_replicate hm]
    exact Nat.le_refl 0
  pins := by
    rw [h.members]
    decide
  accounts a b ha _ hfree := absurd (h.record a ha) hfree
  fetches a b id ha _ hid := by
    rw [h.fetch a ha] at hid
    cases hid
  absent a id ha hid := by
    rw [h.fetch a ha] at hid
    cases hid
  waits a l tier ha hl hw := by
    rw [h.fetch a ha] at hw
    rw [show Fetch.blank.waiting = List.replicate 3 none from rfl, getD_replicate _ hl] at hw
    cases hw
  room l hl := by
    rw [h.slot l hl, h.lane l hl]
    decide
  closed l hl _ := by rw [h.slot l hl]; rfl

theorem Blank.holdLaw {s : State} (h : Blank s) : HoldLaw s where
  once := by
    rw [h.members]
    exact List.nodup_nil
  listed n := by
    rw [h.members]
    refine iff_of_false List.not_mem_nil fun ⟨hn, hc⟩ => ?_
    rw [h.record n hn] at hc
    cases hc
  refs n hn hfree := absurd (h.record n hn) hfree
  held l id hl ho := by
    rw [h.slot l hl] at ho
    cases ho

/-- Settles O54: the two halt laws and the tables from what a reset leaves, the sales laws from blank tables. -/
theorem resetMeetsEveryLaw : Obligations.ResetMeetsEveryLaw := by
  have safe : Safe State.reset := powerOn_safe []
  have tables : TableLaw State.reset := powerOn_tableLaw []
  have blank : Blank State.reset := fresh_blank rfl rfl
  exact ⟨safe.1, safe.2, fresh_grantLaw rfl, fresh_poolLaw rfl rfl, blank.quoteLaw tables.1, powerOn_portLaw [], rfl,
    empty_carLaw rfl, tables, fresh_boundLaw rfl rfl, blank.holdLaw, empty_lineLaw rfl⟩

end Sys2Proof.Machine
end

section
/-!
The outbound side of a port (R16 to R22, R25, R26, R28): the transmitter, what an offered frame does, the mode interlock
with its sweep, and PORT_RESET, with the obligations O11, O12, O13 and O14.
-/
namespace Sys2Proof.Machine

-- Proofs in order: a thread that waits for another proof counts against the check's memory limit.
set_option Elab.async false

/-! ## The transmitter (R16 to R18) -/

/-- Ending a transmission leaves the line free, its last byte a delimiter if a frame was on it. -/
theorem Port.endFrame_eq (q : Port) :
    Port.endFrame q = { q with line := none, lastDelim := q.lastDelim || q.line.isSome } := by
  unfold Port.endFrame
  split
  next hline => simp [hline]
  next hline =>
    cases q
    cases hline
    simp

/-- A frame begun (R16). -/
theorem Port.startFrame_eq (q : Port) (f : OutFrame) : Port.startFrame q f =
    { q with
      line := some { frame := completed f q.outSeq, opens := !q.lastDelim },
      outSeq := if f.own then (q.outSeq + 1) % 256 else q.outSeq } := by
  unfold Port.startFrame completed
  split <;> rfl

/-- A free line takes the head of the urgent queue (R18). -/
theorem Port.transmit_urgent {q : Port} {f : OutFrame} {rest : List OutFrame} (line : q.line = none)
    (urgent : q.urgent = f :: rest) : Port.transmit q = Port.startFrame { q with urgent := rest } f := by
  simp only [Port.transmit, line, urgent]

/-- With no urgent frame waiting a free line takes the head of the normal queue (R17). -/
theorem Port.transmit_normal {q : Port} {f : OutFrame} {rest : List OutFrame} (line : q.line = none)
    (urgent : q.urgent = []) (normal : q.normal = f :: rest) :
    Port.transmit q = Port.startFrame { q with normal := rest } f := by
  simp only [Port.transmit, line, urgent, normal]

/-- With no frame waiting a free line stays free. -/
theorem Port.transmit_idle {q : Port} (line : q.line = none) (urgent : q.urgent = []) (normal : q.normal = []) :
    Port.transmit q = q := by
  simp only [Port.transmit, line, urgent, normal]

/-- A frame on the line keeps the queues waiting. -/
theorem Port.transmit_busy_line {q : Port} (line : q.line ≠ none) : Port.transmit q = q := by
  obtain ⟨t, ht⟩ := Option.ne_none_iff_exists'.mp line
  simp only [Port.transmit, ht]

/-- Settles O11: TRANSMIT_END frees the line, and the transmitter then has the three cases of R17 and R18. -/
theorem transmitterTakesUrgentFirst : Obligations.TransmitterTakesUrgentFirst := by
  intro p s hreset
  refine ⟨_, running_eq (fun s => s.setPort p (Port.transmit (Port.endFrame (s.port p)))) hreset, setPort_frame .., ?_⟩
  dsimp only
  rw [port_setPort, Port.endFrame_eq]
  refine ⟨fun f rest hu => ?urgent, fun hu f rest hn => ?normal, fun hu hn => ?idle⟩
  case urgent => rw [Port.transmit_urgent (by exact rfl) (by exact hu), Port.startFrame_eq]
  case normal => rw [Port.transmit_normal (by exact rfl) (by exact hu) (by exact hn), Port.startFrame_eq]
  case idle => rw [Port.transmit_idle (by exact rfl) (by exact hu) (by exact hn)]

/-! ## Lost reports (R21, R138) -/

/-- The frame is a report. -/
def OutFrame.isReport (f : OutFrame) : Bool := f.frame.kind == 0x42

theorem noteLost_some {s : State} {f : Frame} {d : NoticeDetail} (h : reportLost f = some d) :
    s.noteLost f = s.notify .reportLost d := by
  unfold State.noteLost
  rw [h]

theorem noteLost_other {s : State} {f : Frame} (h : f.kind ≠ 0x42) : s.noteLost f = s := by
  have hnone : reportLost f = none := if_neg h
  unfold State.noteLost
  rw [hnone]

@[simp] theorem port_noteLost (s : State) (f : Frame) (p : PortId) : (s.noteLost f).port p = s.port p := by
  unfold State.noteLost
  split
  · exact port_notify ..
  · rfl

/-- A lost void report names its order tag. -/
theorem reportLost_void {f : Frame} {tag lane : Byte} {rest : List Byte} (kind : f.kind = 0x42)
    (payload : f.payload = 2 :: tag :: lane :: rest) : reportLost f = some { reason 2 with tag := some tag.toNat } := by
  unfold reportLost
  rw [if_pos (show f.kind = Config.kReport from kind), payload]
  rfl

theorem byte_toNat (n : Nat) : (byte n).toNat = n % 256 := BitVec.toNat_ofNat n 8

/-- Bit 4 of a completion's flags says whether the car has an order (R138). -/
theorem completion_flags (a b c d e : Bool) :
    (byte (a.toNat + 2 * b.toNat + 4 * c.toNat + 8 * d.toNat + 16 * e.toNat)).getLsbD 4 = e := by
  revert a b c d e
  decide

/-- A lost completion report names its car tag, and its order tag if it has one. -/
theorem reportLost_completion {f : Frame} {c : Car} {removed : Bool} (kind : f.kind = 0x42)
    (payload : f.payload = completion c removed) :
    reportLost f = some { reason 1 with tag := some (c.tag % 256), arg := c.order.map (· % 256) } := by
  have flags := completion_flags c.unannounced c.degraded c.haltedDuring removed c.order.isSome
  have shown : reportLost f = some { reason 1 with
      tag := some (byte c.tag).toNat,
      arg := if (byte (c.unannounced.toNat + 2 * c.degraded.toNat + 4 * c.haltedDuring.toNat + 8 * removed.toNat +
        16 * c.order.isSome.toNat)).getLsbD 4 then some (byte (c.order.getD 0)).toNat else none } := by
    unfold reportLost
    rw [if_pos (show f.kind = Config.kReport from kind), payload]
    rfl
  rw [shown, flags, byte_toNat]
  cases c.order with
  | none => rfl
  | some o => rw [Option.getD_some, byte_toNat]; rfl

/-! ## An offer (R17 to R22) -/

theorem offerNormal_joins {s : State} {p : PortId} (f : OutFrame) (h : (s.port p).normal.length < 32) :
    s.offerNormal p f =
      s.setPort p (Port.transmit { s.port p with normal := (s.port p).normal ++ [f] }) := if_pos h

theorem offerNormal_drops {s : State} {p : PortId} (f : OutFrame) (h : 32 ≤ (s.port p).normal.length) :
    s.offerNormal p f =
      ((s.setPort p { s.port p with drop := min 255 ((s.port p).drop + 1) }).notifyLink p 8).noteLost f.frame :=
  if_neg (Nat.not_lt.mpr h)

theorem offerNormal_drops_report {s : State} {p : PortId} {f : OutFrame} {d : NoticeDetail}
    (h : 32 ≤ (s.port p).normal.length) (hd : reportLost f.frame = some d) (hs : s.mgmt.notices.length = 8) :
    Noticed .reportLost d (s.offerNormal p f) := by
  rw [offerNormal_drops f h, noteLost_some hd]
  exact notify_noticed _ _ _ (by simp [State.notifyLink, hs])

theorem offerUrgent_repeats {s : State} {p : PortId} {f : OutFrame} (kind : f.frame.kind = 0x33)
    (waits : ((s.port p).urgent.any fun g => g.frame.kind == 0x33) = true) : s.offerUrgent p f = s := if_pos ⟨kind, waits⟩

/-- The normal frames that stay when an urgent one joins (R19). -/
def keptBeside (f : OutFrame) (l : List OutFrame) : List OutFrame := l.filter fun g => !superseded f.frame g.frame

theorem offerUrgent_joins {s : State} {p : PortId} {f : OutFrame}
    (new : f.frame.kind ≠ 0x33 ∨ ((s.port p).urgent.any fun g => g.frame.kind == 0x33) = false)
    (room : (s.port p).urgent.length < 16) : s.offerUrgent p f =
      s.setPort p (Port.transmit
        { s.port p with urgent := (s.port p).urgent ++ [f], normal := keptBeside f (s.port p).normal }) := by
  have fresh : ¬(f.frame.kind = Config.kHaltBcast ∧
      ((s.port p).urgent.any fun g => g.frame.kind == Config.kHaltBcast) = true) := fun ⟨hk, hw⟩ =>
    new.elim (fun h => h hk) fun h => by cases h.symm.trans hw
  exact (if_neg fresh).trans (if_pos room)

theorem offerUrgent_drops {s : State} {p : PortId} {f : OutFrame}
    (new : f.frame.kind ≠ 0x33 ∨ ((s.port p).urgent.any fun g => g.frame.kind == 0x33) = false)
    (full : 16 ≤ (s.port p).urgent.length) : s.offerUrgent p f =
      (s.setPort p { s.port p with drop := min 255 ((s.port p).drop + 1) }).raiseCause .urgentOverflow
        { CauseDetail.empty with arg := some (portNumber p * 256 + f.frame.kind.toNat) } := by
  have fresh : ¬(f.frame.kind = Config.kHaltBcast ∧
      ((s.port p).urgent.any fun g => g.frame.kind == Config.kHaltBcast) = true) := fun ⟨hk, hw⟩ =>
    new.elim (fun h => h hk) fun h => by cases h.symm.trans hw
  exact (if_neg fresh).trans (if_neg (Nat.not_lt.mpr full))

/-- Settles O12: the branches of the two offers, a dropped report beside the dropped frame's own notice. -/
theorem offersJoinOrDrop : Obligations.OffersJoinOrDrop := by
  intro p f s hs
  dsimp only
  refine ⟨offerNormal_joins f, fun hfull => ⟨?port, ?link, fun hkind tag lane rest hpay => ?void,
    fun hkind c removed hpay => ?completion⟩, offerUrgent_repeats, fun hnew hroom => ⟨_, offerUrgent_joins hnew hroom, ?kept⟩,
    fun hnew hfull => ?overflow⟩
  case port => rw [offerNormal_drops f hfull, port_noteLost, State.notifyLink, port_notify, port_setPort]
  case link =>
    have noticed := notify_noticed (s.setPort p { s.port p with drop := min 255 ((s.port p).drop + 1) }) .link
      { reason 8 with arg := some (portNumber p) } (by rw [mgmt_setPort]; exact hs.notices)
    rw [offerNormal_drops f hfull]
    unfold State.noteLost
    split
    · exact notify_keeps _ _ _ _ _ (by decide) noticed
    · exact noticed
  case void => exact offerNormal_drops_report hfull (reportLost_void hkind hpay) hs.notices
  case completion => exact offerNormal_drops_report hfull (reportLost_completion hkind hpay) hs.notices
  case kept =>
    refine List.filter_congr fun g _ => ?_
    unfold superseded
    rw [BEq.comm (a := f.frame.dest)]
    rfl
  case overflow =>
    rw [offerUrgent_drops hnew hfull]
    cases p <;> rfl

/-! ## The mode interlock (R25, R26) -/

/-- Table 1-7. -/
theorem interlockPasses_iff (m : Mode) (f : Frame) : interlockPasses m f = true ↔
    f.kind = 0x50 ∨ m = .offline ∨
      m = .halted ∧ (f.kind = 0x32 ∨ f.kind = 0x30 ∧ (subcommand f = 3 ∨ subcommand f = 4)) := by
  unfold interlockPasses
  by_cases hd : f.kind = Config.kDisplay
  · rw [if_pos hd]
    exact iff_of_true rfl (.inl hd)
  · have hdisplay : ¬f.kind = 80#8 := hd
    rw [if_neg hd]
    cases m
    case offline => simp
    case halted => simp [hdisplay, Config.kGateCmd, Config.kStationCmd]
    all_goals simp [hdisplay]

theorem countBlocked_portS (s : State) :
    s.countBlocked.portS = { s.portS with blocked := min 255 (s.portS.blocked + 1) } := rfl

theorem countBlocked_portF (s : State) : s.countBlocked.portF = s.portF := rfl

theorem exec_siteFieldFrame {f : Frame} {s : State} (h : Taken (.siteFieldFrame f) s) :
    exec (.siteFieldFrame f) s = .next (
      if interlockPasses s.halt.mode f then
        (s.without (.siteFieldFrame f)).offerNormal .f { own := false, frame := f }
      else (s.without (.siteFieldFrame f)).countBlocked) := taking_eq _ h rfl

/-- The blocked frames of a sweep are counted one by one, up to 255. -/
theorem foldl_countBlocked (l : List OutFrame) (s : State) (h : s.portS.blocked ≤ 255) :
    (l.foldl (fun t _ => t.countBlocked) s).portS.blocked = min 255 (s.portS.blocked + l.length) ∧
    (l.foldl (fun t _ => t.countBlocked) s).portF = s.portF := by
  induction l generalizing s with
  | nil => exact ⟨(Nat.min_eq_right h).symm, rfl⟩
  | cons f l ih =>
    obtain ⟨hblocked, hport⟩ := ih s.countBlocked (by rw [countBlocked_portS]; exact Nat.min_le_left ..)
    refine ⟨?_, hport.trans (countBlocked_portF s)⟩
    rw [List.foldl_cons, hblocked, countBlocked_portS, List.length_cons]
    dsimp only
    omega

/-- Port F's normal queue after a sweep, and the Port S count. -/
theorem sweep_ports (s : State) (h : s.portS.blocked ≤ 255) :
    s.sweep.portF = { s.portF with normal := s.portF.normal.filter fun f => !blockedIn s.halt.mode f } ∧
    s.sweep.portS.blocked = min 255 (s.portS.blocked + s.portF.normal.countP (blockedIn s.halt.mode)) := by
  obtain ⟨hblocked, hport⟩ := foldl_countBlocked (s.portF.normal.filter (blockedIn s.halt.mode))
    (s.setPort .f { s.portF with normal := s.portF.normal.filter fun f => !blockedIn s.halt.mode f }) h
  rw [List.countP_eq_length_filter]
  exact ⟨hport, hblocked⟩

/-- The state in which a change of mode sweeps. -/
theorem enterMode_eq (s : State) (m : Mode) : ∃ t : State, s.enterMode m = t.sweep ∧ t.halt.mode = m ∧
    t.portS = s.portS ∧ t.portF = s.portF := by
  by_cases hm : m = .armed
  · exact ⟨_, rfl, by rw [if_pos hm]; rfl, by rw [if_pos hm]; rfl, by rw [if_pos hm]; rfl⟩
  · exact ⟨_, rfl, by rw [if_neg hm]; rfl, by rw [if_neg hm]; rfl, by rw [if_neg hm]; rfl⟩

/-- Settles O13: Table 1-7 as a proposition, and the sweep as a filter and a count of the same test. -/
theorem interlockJudgesSiteFrames : Obligations.InterlockJudgesSiteFrames := by
  refine ⟨fun f s htaken hs => ?site, fun m s hblocked => ?sweep⟩
  case site =>
    dsimp only
    rw [← interlockPasses_iff, exec_siteFieldFrame htaken]
    refine ⟨fun hpass => by rw [if_pos hpass], fun hblock => ?_⟩
    rw [if_neg hblock]
    exact ⟨_, rfl, countBlocked_portF _, countBlocked_portS _, notify_noticed _ _ _ hs.notices⟩
  case sweep =>
    dsimp only
    obtain ⟨t, ht, hmode, hportS, hportF⟩ := enterMode_eq s m
    obtain ⟨hF, hS⟩ := sweep_ports t (hportS.symm ▸ hblocked)
    rw [hmode, hportF] at hF
    rw [hmode, hportF, hportS] at hS
    rw [enterMode_halt]
    refine ⟨rfl, rfl, ?_, ?_⟩
    · rw [ht, hF]
      rfl
    · rw [ht, hS]
      rfl

/-! ## PORT_RESET (R28) -/

/-- The reports among discarded frames, noticed one after another. -/
def State.noteAll (s : State) (l : List OutFrame) : State := l.foldl (fun t f => t.noteLost f.frame) s

theorem noteAll_frame (s : State) (l : List OutFrame) : SameExcept [.mgmt] s (s.noteAll l) :=
  SameExcept.foldl (g := fun t (f : OutFrame) => t.noteLost f.frame) (fun t f => noteLost_frame t f.frame) l s

/-- The frames that are no reports do not matter. -/
theorem noteAll_reports (l : List OutFrame) (s : State) :
    s.noteAll l = s.noteAll (l.filter fun f => f.frame.kind == 0x42) := by
  induction l generalizing s with
  | nil => rfl
  | cons f l ih =>
    rw [List.filter_cons]
    by_cases hf : f.frame.kind = 0x42
    · rw [if_pos (beq_iff_eq.mpr hf)]
      exact ih _
    · rw [if_neg (mt beq_iff_eq.mp hf)]
      have : s.noteAll (f :: l) = s.noteAll l := congrArg (fun t => State.noteAll t l) (noteLost_other hf)
      rw [this, ih]

/-- A report with two payload bytes or more raises the class once. -/
theorem noteLost_report {s : State} {f : Frame} (kind : f.kind = 0x42) (size : 2 ≤ f.payload.length) :
    ∃ d, s.noteLost f = s.notify .reportLost d := by
  obtain ⟨a, b, rest, hp⟩ : ∃ a b rest, f.payload = a :: b :: rest := by
    match f.payload, size with
    | a :: b :: rest, _ => exact ⟨a, b, rest, rfl⟩
  unfold State.noteLost reportLost
  rw [if_pos (show f.kind = Config.kReport from kind), hp]
  dsimp only
  split
  · exact ⟨_, rfl⟩
  next h => split at h <;> cases h

theorem notify_notice {s : State} (c : NoticeClass) (d : NoticeDetail) (h : s.mgmt.notices.length = 8) :
    Mgmt.notice (s.notify c d).mgmt c = NoticeRecord.raise (Mgmt.notice s.mgmt c) d :=
  getD_set_eq _ _ _ _ (by rw [h]; cases c <;> decide)

/-- Each of several reports raises the class. -/
theorem noteAll_count {l : List OutFrame} (hl : ∀ f ∈ l, f.frame.kind = 0x42 ∧ 2 ≤ f.frame.payload.length) (nonempty : l ≠ [])
    (s : State) (hs : s.mgmt.notices.length = 8) :
    (Mgmt.notice (s.noteAll l).mgmt .reportLost).pending = true ∧
    (Mgmt.notice (s.noteAll l).mgmt .reportLost).count =
      min 255 ((Mgmt.notice s.mgmt .reportLost).count + l.length) := by
  induction l generalizing s with
  | nil => exact absurd rfl nonempty
  | cons f l ih =>
    obtain ⟨hkind, hsize⟩ := hl f List.mem_cons_self
    obtain ⟨d, hd⟩ := noteLost_report (s := s) hkind hsize
    have hfirst : s.noteAll (f :: l) = (s.notify .reportLost d).noteAll l := congrArg (fun t => State.noteAll t l) hd
    have hnotice := notify_notice (s := s) .reportLost d hs
    rw [hfirst]
    cases l with
    | nil =>
      change (Mgmt.notice (s.notify .reportLost d).mgmt .reportLost).pending = true ∧ _
      rw [State.noteAll, List.foldl_nil, hnotice]
      exact ⟨rfl, rfl⟩
    | cons g l =>
      obtain ⟨hpending, hcount⟩ := ih (fun f hf => hl f (List.mem_cons_of_mem _ hf)) (List.cons_ne_nil _ _)
        (s.notify .reportLost d) ((notify_length ..).trans hs)
      refine ⟨hpending, ?_⟩
      rw [hcount, hnotice]
      simp only [NoticeRecord.raise, sat, List.length_cons]
      omega

/-- The last of several reports leaves its detail. -/
theorem noteAll_last {l : List OutFrame} {f : OutFrame} {d : NoticeDetail} (last : l.getLast? = some f)
    (hd : reportLost f.frame = some d) (s : State) (hs : s.mgmt.notices.length = 8) :
    Noticed .reportLost d (s.noteAll l) := by
  obtain ⟨front, rfl⟩ := List.getLast?_eq_some_iff.mp last
  have hlength (k : List OutFrame) (t : State) : (t.noteAll k).mgmt.notices.length = t.mgmt.notices.length := by
    induction k generalizing t with
    | nil => rfl
    | cons g k ih =>
      refine (ih (t.noteLost g.frame)).trans ?_
      unfold State.noteLost
      split
      · exact notify_length ..
      · rfl
  have happ : s.noteAll (front ++ [f]) = (s.noteAll front).notify .reportLost d :=
    List.foldl_append.trans (noteLost_some hd)
  rw [happ]
  exact notify_noticed _ _ _ ((hlength front s).trans hs)

/-- The reports among discarded frames have raised REPORT_LOST as the statement of R28 says. -/
theorem noteAll_reportsLost (l : List OutFrame) (s : State) (hs : s.mgmt.notices.length = 8) :
    ReportsLost l s (s.noteAll l) := by
  unfold ReportsLost
  dsimp only
  rw [noteAll_reports]
  have kind (f : OutFrame) (hf : f ∈ l.filter fun f => f.frame.kind == 0x42) : f.frame.kind = 0x42 :=
    beq_iff_eq.mp (List.mem_filter.mp hf).2
  refine ⟨fun hnone => ?_, fun hsome hsize => noteAll_count (fun f hf => ⟨kind f hf, hsize f hf⟩) hsome s hs,
    fun f hlast => ⟨fun tag lane rest hp => ?_, fun c removed hp => ?_⟩⟩
  · rw [hnone]
    rfl
  · exact noteAll_last hlast (reportLost_void (kind f (List.mem_of_getLast? hlast)) hp) s hs
  · exact noteAll_last hlast (reportLost_completion (kind f (List.mem_of_getLast? hlast)) hp) s hs

/-- What R28 says of the lost reports rests on the notices alone. -/
theorem ReportsLost.congr {l : List OutFrame} {s s' t t' : State} (h : ReportsLost l s t) (hs : s'.mgmt = s.mgmt)
    (ht : t'.mgmt = t.mgmt) : ReportsLost l s' t' := by
  simpa only [ReportsLost, Noticed, hs, ht] using h

theorem restartPort_eq (s : State) (p : PortId) : s.restartPort p =
    let t := (s.setPort p (Port.restart (s.port p))).noteAll ((s.port p).urgent ++ (s.port p).normal)
    if (s.port p).paused then t.offerUrgent p (ownFrame 62 0x39 []) else t := rfl

/-- The steps of R28 note the lost reports. -/
theorem restartPort_reportsLost (s : State) (p : PortId) (hs : s.mgmt.notices.length = 8) :
    ReportsLost ((s.port p).urgent ++ (s.port p).normal) s (s.restartPort p) := by
  have noted := noteAll_reportsLost ((s.port p).urgent ++ (s.port p).normal) (s.setPort p (Port.restart (s.port p)))
    (by rw [mgmt_setPort]; exact hs)
  refine noted.congr (mgmt_setPort ..).symm ?_
  rw [restartPort_eq]
  dsimp only
  split
  · exact (offerUrgent_frame ..).same .mgmt (by cases p <;> decide)
  · rfl

theorem port_noteAll (s : State) (l : List OutFrame) (p : PortId) : (s.noteAll l).port p = s.port p := by
  cases p
  · exact (noteAll_frame s l).same .portS (by decide)
  · exact (noteAll_frame s l).same .portF (by decide)

/-- A port that had not asked the hub to pause is left clean. -/
theorem restartPort_port {s : State} {p : PortId} (h : (s.port p).paused = false) :
    (s.restartPort p).port p = Port.restart (s.port p) := by
  rw [restartPort_eq]
  dsimp only
  rw [h, if_neg Bool.false_ne_true, port_noteAll, port_setPort]

/-- A port that had asked the hub to pause offers the RESUME. -/
theorem restartPort_port_paused {s : State} {p : PortId} (h : (s.port p).paused = true) :
    (s.restartPort p).port p =
      Port.transmit { Port.restart (s.port p) with urgent := [ownFrame 62 0x39 []] } := by
  have hport : ((s.setPort p (Port.restart (s.port p))).noteAll ((s.port p).urgent ++ (s.port p).normal)).port p =
      Port.restart (s.port p) := by rw [port_noteAll, port_setPort]
  rw [restartPort_eq]
  dsimp only
  rw [if_pos h, offerUrgent_joins (.inl (by decide)) (by rw [hport]; exact Nat.zero_lt_succ 15), port_setPort, hport]
  rfl

theorem exec_portReset {seq b : Byte} {rest : List Byte} {s : State} (h : Taken (.portReset seq (b :: rest)) s) :
    let u := s.without (.portReset seq (b :: rest))
    exec (.portReset seq (b :: rest)) s = .next (
      match portOfByte b with
      | none => u.reply seq 18 .badValue []
      | some p => if portResetMode p s.halt.mode then (u.restartPort p).reply seq 18 .ok []
        else u.reply seq 18 .wrongMode []) := by
  refine (taking_eq _ h rfl).trans ?_
  rfl

/-- Settles O14: the steps of R28 on one port, the other parts standing by `restartPort_frame`. -/
theorem portResetRestartsThePort : Obligations.PortResetRestartsThePort := by
  intro seq b rest s htaken
  dsimp only
  have hexec := exec_portReset htaken
  dsimp only at hexec
  refine ⟨fun hb => ?portS, fun hb hmode => ?portF, fun hb hmode => ?wrongMode, fun hb => ?badValue⟩
  case portS =>
    have frame := restartPort_frame (s.without (.portReset seq (b :: rest))) .s
    subst hb
    refine ⟨_, hexec, restartPort_port (s := s.without _) (p := .s), frame.same .portF (by decide), ?_,
      fun hs => restartPort_reportsLost (s.without _) .s hs.notices⟩
    exact (restartPort_orderly _ .s).params
  case portF =>
    have frame := restartPort_frame (s.without (.portReset seq (b :: rest))) .f
    subst hb
    have hmodes : portResetMode .f s.halt.mode = true := by
      obtain hm | hm := hmode <;> rw [hm] <;> rfl
    rw [show portOfByte 1 = some .f from rfl] at hexec
    dsimp only at hexec
    rw [if_pos hmodes] at hexec
    exact ⟨_, hexec, frame.same .portS (by decide), restartPort_port (s := s.without _) (p := .f), restartPort_port_paused (s := s.without _) (p := .f),
      fun hs => restartPort_reportsLost (s.without _) .f hs.notices⟩
  case wrongMode =>
    subst hb
    have hmodes : portResetMode .f s.halt.mode = false := by
      obtain hm | hm | hm := hmode <;> rw [hm] <;> rfl
    rw [show portOfByte 1 = some .f from rfl] at hexec
    dsimp only at hexec
    rw [hexec, if_neg (Bool.eq_false_iff.mp hmodes)]
  case badValue =>
    have h0 : b ≠ 0 := fun h => by subst h; exact absurd hb (by decide)
    have h1 : b ≠ 1 := fun h => by subst h; exact absurd hb (by decide)
    have hnone : portOfByte b = none := by rw [portOfByte, if_neg h0, if_neg h1]
    rw [hexec, hnone]

end Sys2Proof.Machine
end

section
/-!
The inbound side of a port and a frame that is taken (R11 to R15, R33, R34, Tables 2-7, 10-2, 10-3): which frames the queue
admits, which frame is refused, and what an accepted one hands over, with the obligations O10, O15 and O17.
-/
namespace Sys2Proof.Machine

-- Proofs in order: a thread that waits for another proof counts against the check's memory limit.
set_option Elab.async false

/-! ## The inbound queue (R11, R12, R14) -/

theorem safetyClass_f (s : State) (f : Frame) : s.safetyClass .f f = true ↔ (s.node f.src.toNat).role ∈
    [.encoder, .estop, .drive, .entryEye, .checkEye, .exitEye, .wheelSwitch] := by
  have role (r : Role) : safetyRole r = true ↔
      r ∈ [.encoder, .estop, .drive, .entryEye, .checkEye, .exitEye, .wheelSwitch] := by cases r <;> decide
  exact role _

theorem safetyClass_s (s : State) (f : Frame) : s.safetyClass .s f = true ↔
    f.kind = 0x40 ∧ f.dest = 1 ∧ ∃ rest, f.payload = 6 :: rest := by
  have head : f.payload.head? = some 6 ↔ ∃ rest, f.payload = 6 :: rest := List.head?_eq_some_iff
  rw [← head]
  simp [State.safetyClass, Config.kMgmt, and_assoc]

/-- A frame that finds room joins its queue (R12). -/
theorem offerInbound_joins {s : State} {p : PortId} {f : Frame}
    (room : (s.port p).inq.length < 24 ∨ (s.port p).inq.length < 32 ∧ s.safetyClass p f = true) :
    s.offerInbound p f = (s.setPort p { s.port p with
      inq := (s.port p).inq ++ [{ frame := f, safety := s.safetyClass p f }] }).judgePause p := by
  have hadmits : admits (s.safetyClass p f) (s.port p).inq.length = true := by
    unfold admits Config.inboundSize Config.inboundNormal
    cases hclass : s.safetyClass p f with
    | true => simp; omega
    | false => simpa [hclass] using room
  exact if_pos hadmits

/-- A frame that finds none is counted and dropped (R12). -/
theorem offerInbound_overflows {s : State} {p : PortId} {f : Frame}
    (full : 32 ≤ (s.port p).inq.length ∨ 24 ≤ (s.port p).inq.length ∧ s.safetyClass p f = false) :
    s.offerInbound p f =
      (s.setPort p { s.port p with overflow := min 255 ((s.port p).overflow + 1) }).notifyLink p 7 := by
  have hadmits : ¬admits (s.safetyClass p f) (s.port p).inq.length = true := by
    unfold admits Config.inboundSize Config.inboundNormal
    cases hclass : s.safetyClass p f with
    | true => simpa [hclass] using full
    | false => simp; omega
  exact if_neg hadmits

/-- Port S never pauses, and Port F pauses once, at PAUSE_AT (R14). -/
theorem judgePause_stands {s : State} {p : PortId}
    (h : p = .s ∨ s.portF.inq.length < s.param .pauseAt ∨ s.portF.paused = true) : s.judgePause p = s := by
  cases p with
  | s => rfl
  | f =>
    refine if_neg fun ⟨hfill, hpaused⟩ => ?_
    obtain h | h | h := h
    · cases h
    · omega
    · cases h.symm.trans hpaused

theorem judgePause_pauses {s : State} (fill : s.param .pauseAt ≤ s.portF.inq.length) (paused : s.portF.paused = false) :
    s.judgePause .f =
      (s.setPort .f { s.portF with paused := true }).offerUrgent .f (ownFrame 62 0x38 []) := if_pos ⟨fill, paused⟩

theorem param_setPort (s : State) (p : PortId) (q : Port) (a : Config.Param) : (s.setPort p q).param a = s.param a := by
  cases p <;> rfl

/-- Settles O10: the class by Table 1-5's roles, the room by the class, and PAUSE_AT judged on the queue as it then is. -/
theorem inboundQueueAdmitsByClass : Obligations.InboundQueueAdmitsByClass := by
  intro p f s hs
  refine ⟨safetyClass_f s f, safetyClass_s s f, ?_⟩
  dsimp only
  refine ⟨fun hroom => ⟨fun hstands => ?stands, fun hp hfill hpaused => ?pauses⟩, fun hfull => ?full⟩
  case stands =>
    rw [offerInbound_joins hroom]
    refine judgePause_stands ?_
    rw [param_setPort]
    cases p with
    | s => exact .inl rfl
    | f =>
      refine hstands.imp_right (Or.imp_left fun h => ?_)
      change ((s.port .f).inq ++ [_]).length < _
      rw [List.length_append]
      exact h
  case pauses =>
    subst hp
    rw [offerInbound_joins hroom]
    refine judgePause_pauses ?_ hpaused
    rw [param_setPort]
    change _ ≤ ((s.port .f).inq ++ [_]).length
    rw [List.length_append]
    exact hfill
  case full =>
    rw [offerInbound_overflows hfull]
    refine ⟨by rw [State.notifyLink, port_notify, port_setPort], notify_noticed _ _ _ ?_⟩
    rw [mgmt_setPort]
    exact hs.notices

/-! ## The six checks (R33) -/

/-- The source is wrong for the port: the part itself, the site computer on Port F, any other node on Port S. -/
theorem wrongPort_iff (p : PortId) (src : Byte) :
    wrongPort p src.toNat = true ↔ src = 1 ∨ p = .f ∧ src = 0 ∨ p = .s ∧ src ≠ 0 := by
  have number (n : Nat) (hn : n < 256) : src.toNat = n ↔ src = BitVec.ofNat 8 n := by
    rw [← BitVec.toNat_inj, BitVec.toNat_ofNat, Nat.mod_eq_of_lt hn]
  have one := number 1 (by decide)
  have zero := number 0 (by decide)
  unfold wrongPort
  cases p <;> simp [one, zero]

/-- The checks in their order, each passed before the next is judged. -/
theorem refusalOf_eq (s : State) (p : PortId) (f : Frame) : s.refusalOf p f =
    if (s.node f.src.toNat).role = .none then some .unknownSrc
    else if wrongPort p f.src.toNat then some .wrongPort
    else if destAllowed p f = false then some .badDest
    else if permits (s.node f.src.toNat).role (s.touchStation (s.node f.src.toNat)) f.kind = false then some .kindRefused
    else if f.payload.length < (kindSize f.kind).getD 0 then some .payload
    else if (s.node f.src.toNat).synced = true ∧
      128 ≤ (f.seq.toNat + 256 - (s.node f.src.toNat).expected) % 256 then some .staleSeq
    else none := rfl

/-- The checks read the Node Table and the Station Table. -/
theorem refusalOf_congr {s t : State} (nodes : t.nodes = s.nodes) (stations : t.stations = s.stations) (p : PortId)
    (f : Frame) : t.refusalOf p f = s.refusalOf p f := by
  have hnode : t.node f.src.toNat = s.node f.src.toNat := by rw [State.node, State.node, nodes]
  have htouch (r : NodeRecord) : t.touchStation r = s.touchStation r := by
    simp only [State.touchStation, State.station, stations]
  rw [refusalOf_eq, refusalOf_eq, hnode, htouch]

/-! ## A frame taken from its queue (R13, R15) -/

/-- The queue after a frame is taken from it, the hub let go on where the fill allows. -/
def State.taken (s : State) (p : PortId) (rest : List InFrame) : State :=
  (s.setPort p { s.port p with inq := rest }).judgeResume p

theorem taken_frame (s : State) (p : PortId) (rest : List InFrame) :
    SameExcept [portPart p, .raised] s (s.taken p rest) :=
  ((setPort_frame ..).within (by simp)).trans (judgeResume_frame ..)

theorem Port.transmit_inq (q : Port) : (Port.transmit q).inq = q.inq := by
  unfold Port.transmit Port.startFrame
  split
  · rfl
  · split <;> rfl
  · split <;> rfl
  · rfl

theorem offerUrgent_inq (s : State) (p : PortId) (f : OutFrame) :
    ((s.offerUrgent p f).port p).inq = (s.port p).inq := by
  unfold State.offerUrgent
  dsimp only
  split
  · rfl
  · split
    · rw [port_setPort, Port.transmit_inq]
    · rw [port_raiseCause, port_setPort]

theorem judgeResume_inq (s : State) (p : PortId) : ((s.judgeResume p).port p).inq = (s.port p).inq := by
  cases p with
  | s => rfl
  | f =>
    unfold State.judgeResume
    dsimp only
    split
    · exact offerUrgent_inq ..
    · rfl

theorem taken_inq (s : State) (p : PortId) (rest : List InFrame) : ((s.taken p rest).port p).inq = rest := by
  rw [State.taken, judgeResume_inq, port_setPort]

/-- Taking a frame leaves the other port, and of Port S all but the queue. -/
theorem taken_portS (s : State) (p : PortId) (rest : List InFrame) :
    (s.taken p rest).portS = { s.portS with inq := if p = .s then rest else s.portS.inq } := by
  cases p with
  | s => rfl
  | f => exact (taken_frame s .f rest).same .portS (by decide)

theorem taken_nodes (s : State) (p : PortId) (rest : List InFrame) : (s.taken p rest).nodes = s.nodes :=
  (taken_frame s p rest).same .nodes (by cases p <;> decide)

theorem taken_handed (s : State) (p : PortId) (rest : List InFrame) : (s.taken p rest).handed = s.handed :=
  (taken_frame s p rest).same .handed (by cases p <;> decide)

theorem taken_mgmt (s : State) (p : PortId) (rest : List InFrame) : (s.taken p rest).mgmt = s.mgmt :=
  (taken_frame s p rest).same .mgmt (by cases p <;> decide)

theorem taken_refusalOf (s : State) (p : PortId) (rest : List InFrame) (f : Frame) :
    (s.taken p rest).refusalOf p f = s.refusalOf p f :=
  refusalOf_congr (taken_nodes s p rest) ((taken_frame s p rest).same .stations (by cases p <;> decide)) p f

/-- NODE_FRAME_TAKE at its moment judges the head of the queue. -/
theorem exec_nodeFrameTake {p : PortId} {f : InFrame} {rest : List InFrame} {s : State} (reset : s.inReset = false)
    (queue : (s.port p).inq = f :: rest) (due : (s.node f.frame.src.toNat).silenceDue = false) :
    exec (.nodeFrameTake p) s = .next ((s.taken p rest).judgeFrame p f.frame) := by
  have hexec : exec (.nodeFrameTake p) s = execNodeFrameTake p s := rfl
  rw [hexec, execNodeFrameTake, running_eq _ reset, queue]
  dsimp only
  rw [due, if_neg Bool.false_ne_true]
  rfl

theorem judgeFrame_refused {s : State} {p : PortId} {f : Frame} {e : NodeError} (h : s.refusalOf p f = some e) :
    s.judgeFrame p f = s.countRefusal f.src.toNat e := by
  unfold State.judgeFrame
  rw [h]

theorem countRefusal_node {s : State} {a : Nat} (e : NodeError) (h : a < s.nodes.length) :
    (s.countRefusal a e).node a = { s.node a with errors := min 15 ((s.node a).errors + 1), lastError := some e } :=
  node_setNode _ h

theorem countRefusal_node_ne (s : State) {a b : Nat} (e : NodeError) (h : b ≠ a) :
    (s.countRefusal a e).node b = s.node b := node_setNode_ne s _ h

theorem countRefusal_noticed {s : State} (a : Nat) (e : NodeError) (h : s.mgmt.notices.length = 8) :
    Noticed .node { reason (nodeErrorNumber e) with node := some a } (s.countRefusal a e) := notify_noticed _ _ _ h

/-- Settles O15: the order of the checks is the order of the branches, and a refusal is one record and one notice. -/
theorem refusedFrameIsCounted : Obligations.RefusedFrameIsCounted := by
  refine ⟨fun p f s => ?checks, fun p f rest e s hreset hs hqueue hsrc hdue hrefused => ?counted⟩
  case checks =>
    dsimp only
    rw [refusalOf_eq, ← wrongPort_iff]
    refine ⟨fun h1 => ?_, fun h1 h2 => ?_, fun h1 h2 h3 => ?_, fun h1 h2 h3 h4 => ?_, fun h1 h2 h3 h4 h5 => ?_,
      fun h1 h2 h3 h4 h5 h6 => ?_, fun h1 h2 h3 h4 h5 h6 => ?_⟩
    · rw [if_pos h1]
    · rw [if_neg h1, if_pos h2]
    · rw [if_neg h1, if_neg h2, if_pos h3]
    · rw [if_neg h1, if_neg h2, if_neg (by simp [h3]), if_pos (Bool.eq_false_iff.mpr h4)]
    · rw [if_neg h1, if_neg h2, if_neg (by simp [h3]), if_neg (by simp [h4]), if_pos (Nat.lt_of_not_le h5)]
    · rw [if_neg h1, if_neg h2, if_neg (by simp [h3]), if_neg (by simp [h4]), if_neg (Nat.not_lt.mpr h5), if_pos h6]
    · rw [if_neg h1, if_neg h2, if_neg (by simp [h3]), if_neg (by simp [h4]), if_neg (Nat.not_lt.mpr h5), if_neg h6]
  case counted =>
    dsimp only
    have hnodes := taken_nodes s p rest
    have hnode (b : Nat) : (s.taken p rest).node b = s.node b := by rw [State.node, State.node, hnodes]
    have frame := countRefusal_frame (s.taken p rest) f.frame.src.toNat e
    refine ⟨(s.taken p rest).countRefusal f.frame.src.toNat e, ?_, ?_, ?_, fun b hb => ?_, ?_, ?_, ?_⟩
    · rw [exec_nodeFrameTake hreset hqueue hdue, judgeFrame_refused ((taken_refusalOf ..).trans hrefused)]
    · refine Eq.trans ?_ (taken_inq s p rest)
      cases p
      · rw [State.port, frame.same .portS (by decide)]; rfl
      · rw [State.port, frame.same .portF (by decide)]; rfl
    · rw [countRefusal_node e (by rw [hnodes, hs.nodes]; omega), hnode]
    · rw [countRefusal_node_ne _ _ hb, hnode]
    · exact countRefusal_noticed _ _ (by rw [taken_mgmt]; exact hs.notices)
    · exact (frame.same .handed (by decide)).trans (taken_handed s p rest)
    · rw [frame.same .portS (by decide), taken_portS]

/-! ## What an accepted frame hands over (Tables 2-7, 10-2, 10-3) -/

section
variable {r : NodeRecord} {f : Frame}

theorem payByte_eq {l : List Byte} (h : f.payload = l) (i : Nat) : payByte f i = l.getD i 0 := by
  rw [payByte, h]

theorem handover_step (h : f.kind = 0x10) : handover r f = some [.step f.src.toNat (payByte f 0) none] := by
  unfold handover
  rw [h]
  rfl

theorem handover_edge (h : f.kind = 0x11) : handover r f =
    if payByte f 0 = 1 then some (edgeHandover r f.src.toNat true)
    else if payByte f 0 = 2 then some (edgeHandover r f.src.toNat false) else none := by
  unfold handover
  rw [h]
  rfl

theorem handover_current (h : f.kind = 0x12) :
    handover r f = some [.current r.station (ofBe16 (payByte f 0) (payByte f 1))] := by
  unfold handover
  rw [h]
  rfl

theorem handover_actState (h : f.kind = 0x13) : handover r f =
    if payByte f 0 = 1 then some [.actState r.station .engaged]
    else if payByte f 0 = 2 then some [.actState r.station .retracted]
    else if payByte f 0 = 3 then some [.actState r.station .parked]
    else if payByte f 0 = 4 then some [.actStateFault r.station]
    else none := by
  unfold handover
  rw [h]
  rfl

theorem handover_driveState (h : f.kind = 0x14) : handover r f =
    match driveReportOf (payByte f 0) with
    | some .running =>
      if 1 ≤ (payByte f 1).toNat ∧ (payByte f 1).toNat ≤ 4 then
        some [.driveState f.src.toNat .running (payByte f 1).toNat (payByte f 2 != 0),
          .haltDriveConfirm f.src.toNat .running]
      else none
    | some rep => some [.driveState f.src.toNat rep 0 (payByte f 2 != 0), .haltDriveConfirm f.src.toNat rep]
    | none => none := by
  unfold handover
  rw [h]
  rfl

theorem handover_stop (h : f.kind = 0x15) : handover r f =
    if payByte f 0 = 1 then some [.stopActive f.src.toNat]
    else if payByte f 0 = 2 then some [.stopReleased f.src.toNat] else none := by
  unfold handover
  rw [h]
  rfl

theorem handover_gateState (h : f.kind = 0x16) : handover r f =
    if payByte f 0 = 1 then some [.gateState r.lane true]
    else if payByte f 0 = 2 then some [.gateState r.lane false] else none := by
  unfold handover
  rw [h]
  rfl

theorem handover_alive (h : f.kind = 0x17) : handover r f = some [] := by
  unfold handover
  rw [h]
  rfl

theorem handover_quote (h : f.kind = 0x20) : handover r f =
    some [.quote r.lane (payByte f 0).toNat (payByte f 1 ++ payByte f 2)
      (ofBe24 (payByte f 3) (payByte f 4) (payByte f 5))] := by
  unfold handover
  rw [h]
  rfl

theorem handover_paid (h : f.kind = 0x21) :
    handover r f = some [.paid r.lane (payByte f 0).toNat (payByte f 1).toNat] := by
  unfold handover
  rw [h]
  rfl

theorem handover_cancel (h : f.kind = 0x22) : handover r f = some [.cancel r.lane (payByte f 0).toNat] := by
  unfold handover
  rw [h]
  rfl

theorem handover_mgmt (h : f.kind = 0x40) :
    handover r f = some [requestOf f.seq (payByte f 0) (f.payload.drop 1)] := by
  unfold handover
  rw [h]
  rfl

theorem handover_memberData (h : f.kind = 0x49) : handover r f =
    some [.memberData (ofBe24 (payByte f 0) (payByte f 1) (payByte f 2)) (payByte f 3).toNat (payByte f 4).toNat
      (payByte f 5).toNat (payByte f 6).toNat] := by
  unfold handover
  rw [h]
  rfl

/-- A request code outside 1 to 20 is unknown (R180). -/
theorem requestOf_unknown {seq b : Byte} {args : List Byte} (h : b = 0 ∨ 20 < b.toNat) :
    requestOf seq b args = .mgmtUnknownRequest seq b := by
  have hb : b.toNat = 0 ∨ 20 < b.toNat := h.imp_left fun h => by rw [h]; rfl
  unfold requestOf
  split
  case h_21 => rfl
  all_goals omega

/-- An EDGE's side, BLOCKED for 1 and CLEAR for 2. -/
theorem handover_edge_side {rest : List Byte} (h : f.kind = 0x11) (payload : f.payload = 1 :: rest ∨ f.payload = 2 :: rest) :
    handover r f = some (edgeHandover r f.src.toNat (f.payload.headD 0 == 1)) := by
  rw [handover_edge h]
  obtain hp | hp := payload
  · rw [payByte_eq hp, hp]
    rfl
  · rw [payByte_eq hp, hp]
    rfl

end

/-- Settles O17: one equation per frame kind, read at the payload's bytes. -/
theorem handoverReadsThePayload : Obligations.HandoverReadsThePayload := by
  intro r f b x y z u v w rest
  dsimp only
  refine ⟨fun hk hp => ?step, fun hk hp => ?edge, fun hk hp => ?current, fun hk hp => ?act, fun hk hp => ?drive,
    fun hk hp => ?stop, fun hk hp => ?gate, handover_alive, fun hk hp => ?quote, fun hk hp => ?paid, fun hk hp => ?cancel,
    fun hk hp => ?clear, fun hk hp => ?param, fun hk hp hb => ?unknown, fun hk hp => ?member⟩
  case step => rw [handover_step hk, payByte_eq hp]; rfl
  case edge =>
    rw [handover_edge_side hk hp]
    refine ⟨fun hr => ?_, fun hr => ?_, fun hr => ?_, fun hr => ?_, fun hr => ?_⟩
    all_goals rw [edgeHandover, hr]
  case current => rw [handover_current hk, payByte_eq hp, payByte_eq hp]; rfl
  case act =>
    rw [handover_actState hk, payByte_eq hp]
    refine ⟨fun hb => ?_, fun hb => ?_, fun hb => ?_, fun hb => ?_, fun hb => ?_⟩
    case refine_5 =>
      have hne (n : Byte) (h1 : n ≠ 0) (h2 : n.toNat ≤ 4) : b ≠ n := by
        rintro rfl
        exact hb.elim h1 (Nat.not_lt.mpr h2)
      exact (if_neg (hne 1 (by decide) (by decide))).trans <| (if_neg (hne 2 (by decide) (by decide))).trans <|
        (if_neg (hne 3 (by decide) (by decide))).trans (if_neg (hne 4 (by decide) (by decide)))
    all_goals subst hb; rfl
  case drive =>
    rw [handover_driveState hk, payByte_eq hp, payByte_eq hp, payByte_eq hp]
    refine ⟨fun hb h1 h4 => ?_, fun hb hx => ?_, fun hb => ?_, fun hb => ?_⟩
    · subst hb
      exact if_pos ⟨h1, h4⟩
    · subst hb
      refine if_neg fun ⟨h1, h4⟩ => hx.elim (fun h => ?_) fun h => absurd h4 (Nat.not_le.mpr h)
      subst h
      exact Nat.not_succ_le_zero 0 h1
    · subst hb; rfl
    · subst hb; rfl
  case stop =>
    rw [handover_stop hk, payByte_eq hp]
    exact ⟨fun hb => by subst hb; rfl, fun hb => by subst hb; rfl⟩
  case gate =>
    rw [handover_gateState hk, payByte_eq hp]
    exact ⟨fun hb => by subst hb; rfl, fun hb => by subst hb; rfl⟩
  case quote =>
    simp only [handover_quote hk, payByte_eq hp]
    rfl
  case paid => rw [handover_paid hk, payByte_eq hp, payByte_eq hp]; rfl
  case cancel => rw [handover_cancel hk, payByte_eq hp]; rfl
  case clear => rw [handover_mgmt hk, payByte_eq hp, hp]; rfl
  case param => rw [handover_mgmt hk, payByte_eq hp, hp]; rfl
  case unknown =>
    rw [handover_mgmt hk, payByte_eq hp]
    exact congrArg (fun i => some [i]) (requestOf_unknown hb)
  case member =>
    simp only [handover_memberData hk, payByte_eq hp]
    rfl

end Sys2Proof.Machine
end

section
/-!
Rules that several statements use: a notice class that other classes' notices leave alone, the replies to waiting lanes, a
lane closed (R50), and a station put out of service (R155).
-/
namespace Sys2Proof.Machine

-- Proofs in order: a thread that waits for another proof counts against the check's memory limit.
set_option Elab.async false

/-! ## A notice class that stands -/

/-- A class's record is the same in both states. -/
def NoticeSame (c : NoticeClass) (s t : State) : Prop := Mgmt.notice t.mgmt c = Mgmt.notice s.mgmt c

section
variable {c : NoticeClass} {s t u : State}

theorem NoticeSame.refl : NoticeSame c s s := rfl

theorem NoticeSame.trans (h : NoticeSame c s t) (k : NoticeSame c t u) : NoticeSame c s u := Eq.trans k h

theorem NoticeSame.noticed {d : NoticeDetail} (h : NoticeSame c s t) (k : Noticed c d s) : Noticed c d t := by
  unfold Noticed
  rw [h]
  exact k

theorem NoticeSame.of_mgmt (h : t.mgmt = s.mgmt) : NoticeSame c s t := by
  unfold NoticeSame
  rw [h]

theorem SameExcept.noticeSame {l : List Part} (h : SameExcept l s t) (hl : Part.mgmt ∉ l) : NoticeSame c s t :=
  .of_mgmt (h.same .mgmt hl)

theorem NoticeSame.ite {p : Prop} [Decidable p] (h : NoticeSame c s t) (k : NoticeSame c s u) :
    NoticeSame c s (if p then t else u) := by
  split
  · exact h
  · exact k

theorem NoticeSame.foldl {α : Type} {g : State → α → State} (h : ∀ t x, NoticeSame c t (g t x)) (xs : List α) :
    ∀ s, NoticeSame c s (xs.foldl g s) := by
  induction xs with
  | nil => intro s; exact .refl
  | cons x xs ih => intro s; exact (h s x).trans (ih _)

end

theorem classIndex_ne {a c : NoticeClass} (h : a ≠ c) : classIndex a ≠ classIndex c := by
  exact mt (by cases a <;> cases c <;> simp [classIndex]) h

theorem notify_noticeSame {a c : NoticeClass} (h : a ≠ c) (s : State) (d : NoticeDetail) : NoticeSame a s (s.notify c d) :=
  getD_set_ne _ _ _ _ _ (classIndex_ne h)

/-- The classes of a dropped frame's notices. -/
def DropClass (c : NoticeClass) : Prop := c = .link ∨ c = .reportLost

theorem noteLost_noticeSame {a : NoticeClass} (h : ¬DropClass a) (s : State) (f : Frame) : NoticeSame a s (s.noteLost f) := by
  unfold State.noteLost
  split
  · exact notify_noticeSame (fun ha => h (.inr ha)) _ _
  · exact .refl

/-- An offer leaves every class but LINK and REPORT_LOST. -/
theorem offerNormal_noticeSame {a : NoticeClass} (h : ¬DropClass a) (s : State) (p : PortId) (f : OutFrame) :
    NoticeSame a s (s.offerNormal p f) := by
  unfold State.offerNormal
  dsimp only
  split
  · exact .of_mgmt (mgmt_setPort ..)
  · exact ((NoticeSame.of_mgmt (mgmt_setPort s p _)).trans (notify_noticeSame (fun ha => h (.inl ha)) _ _)).trans
      (noteLost_noticeSame h _ _)

theorem toField_noticeSame {a : NoticeClass} (h : ¬DropClass a) (s : State) (d : Option Nat) (k : Byte) (l : List Byte) :
    NoticeSame a s (s.toField d k l) := by
  cases d with
  | none => exact .refl
  | some n => exact offerNormal_noticeSame h _ _ _

theorem quoteReply_noticeSame {a : NoticeClass} (h : ¬DropClass a) (s : State) (l : Nat) (r : Reply) (k : Option Nat)
    (price : Nat) : NoticeSame a s (s.quoteReply l r k price) := toField_noticeSame h _ _ _ _

theorem toFieldUrgent_noticeSame (a : NoticeClass) (s : State) (d : Option Nat) (k : Byte) (l : List Byte) :
    NoticeSame a s (s.toFieldUrgent d k l) := (toFieldUrgent_frame s d k l).noticeSame (by decide)

/-! ## Replies to lanes -/

/-- What a QUOTE_REPLY makes of Port F rests on Port F and on the kiosk's address. -/
theorem quoteReply_portF_of {s t : State} {l : Nat} (kiosk : t.kioskAddr l = s.kioskAddr l) (port : t.portF = s.portF)
    (r : Reply) (k : Option Nat) (price : Nat) : (t.quoteReply l r k price).portF = (s.quoteReply l r k price).portF := by
  simp only [State.quoteReply, kiosk]
  exact toField_portF s t _ _ _ port

/-- Only one lane is answered. -/
theorem answerLanes_one (s : State) {l : Nat} (hl : l < 3) (answer : Nat → Option (Reply × Nat))
    (others : ∀ k, k ≠ l → answer k = none) : s.answerLanes answer =
      match answer l with
      | some (r, price) => s.quoteReply l r (some (s.slot l).token) price
      | none => s := by
  unfold State.answerLanes
  match l, hl with
  | 0, _ => simp only [List.foldl_cons, List.foldl_nil, others 1 (by decide), others 2 (by decide)] <;> rfl
  | 1, _ => simp only [List.foldl_cons, List.foldl_nil, others 0 (by decide), others 2 (by decide)] <;> rfl
  | 2, _ => simp only [List.foldl_cons, List.foldl_nil, others 0 (by decide), others 1 (by decide)] <;> rfl

/-! ## A lane closed (R50, R56) -/

/-- The slot of a lane whose quote is voided, if it holds one (R56). -/
def Slot.voided (q : Slot) : Slot := if q.state = .empty then q else { q with state := .empty, life := none }

theorem Slot.voided_state (q : Slot) : q.voided.state = .empty := by
  unfold Slot.voided
  split
  next h => exact h
  · rfl

theorem Slot.voided_life {q : Slot} (h : q.state ≠ .empty) : q.voided.life = none := by
  rw [Slot.voided, if_neg h]

theorem quoteReply_sales (s : State) (l : Nat) (r : Reply) (k : Option Nat) (price : Nat) :
    (s.quoteReply l r k price).sales = s.sales := (quoteReply_frame ..).same .sales (by decide)

/-- A void without a reply. -/
theorem voidQuote_silent {s : State} {l : Nat} (h : (s.slot l).state ≠ .empty) :
    s.voidQuote l none = (s.letGo l).emptySlot l := if_pos ((Slot.held_iff _).mpr h)

/-- An EMPTY slot has nothing to void. -/
theorem voidQuote_empty {s : State} {l : Nat} (r : Option Reply) (h : (s.slot l).state = .empty) : s.voidQuote l r = s :=
  if_neg (mt (Slot.held_iff _).mp (not_not_intro h))

/-- Sales after a void, with a reply or without. -/
theorem voidQuote_sales (s : State) (l : Nat) (r : Option Reply) : (s.voidQuote l r).sales =
    if (s.slot l).state = .empty then s.sales
    else { s.sales with lanes := s.sales.lanes.set l { s.lane l with slot := Slot.voided (s.slot l) } } := by
  by_cases h : (s.slot l).state = .empty
  · rw [voidQuote_empty r h, if_pos h]
  · have emptied : ((s.letGo l).emptySlot l).sales =
        { s.sales with lanes := s.sales.lanes.set l { s.lane l with slot := Slot.voided (s.slot l) } } := by
      simp only [State.emptySlot, State.setSlot, State.setLane, State.setSales_sales, letGo_sales, letGo_lane, letGo_slot,
        Slot.voided, if_neg h]
    rw [if_neg h]
    cases r with
    | none => rw [voidQuote_silent h, emptied]
    | some r => rw [voidQuote_held r h, quoteReply_sales, emptied]

theorem lane_of_sales {s t : State} (h : t.sales = s.sales) (l : Nat) : t.lane l = s.lane l := by
  rw [State.lane, State.lane, h]

theorem slot_of_lane {s t : State} {l : Nat} (h : t.lane l = s.lane l) : t.slot l = s.slot l := congrArg LaneSales.slot h

theorem voidQuote_lane {s : State} {l : Nat} (hl : l < s.sales.lanes.length) (r : Option Reply) :
    (s.voidQuote l r).lane l = { s.lane l with slot := (s.slot l).voided } := by
  rw [State.lane, voidQuote_sales]
  split
  next h =>
    rw [Slot.voided, if_pos h]
    rfl
  · exact getD_set_eq _ _ _ _ hl

theorem voidQuote_lane_ne (s : State) {l k : Nat} (h : k ≠ l) (r : Option Reply) : (s.voidQuote l r).lane k = s.lane k := by
  rw [State.lane, voidQuote_sales]
  split
  · rfl
  · exact getD_set_ne _ _ _ _ _ h

theorem voidQuote_orders (s : State) (l : Nat) (r : Option Reply) : (s.voidQuote l r).sales.orders = s.sales.orders := by
  rw [voidQuote_sales]
  split <;> rfl

theorem voidQuote_lanes_length (s : State) (l : Nat) (r : Option Reply) :
    (s.voidQuote l r).sales.lanes.length = s.sales.lanes.length := by
  rw [voidQuote_sales]
  split
  · rfl
  · exact List.length_set

/-- What Port F is sent by a void. -/
theorem voidQuote_portF_silent (s : State) (l : Nat) : (s.voidQuote l none).portF = s.portF := by
  by_cases h : (s.slot l).state = .empty
  · rw [voidQuote_empty none h]
  · rw [voidQuote_silent h]
    exact (letGo_frame s l).same .portF (by decide)

theorem letGo_nodes (s : State) (l : Nat) : (s.letGo l).nodes = s.nodes := (letGo_frame s l).same .nodes (by decide)

theorem letGo_portF (s : State) (l : Nat) : (s.letGo l).portF = s.portF := (letGo_frame s l).same .portF (by decide)

theorem voidQuote_portF (s : State) (l : Nat) (r : Reply) : (s.voidQuote l (some r)).portF =
    if (s.slot l).state = .empty then s.portF else (s.quoteReply l r (some (s.slot l).token) 0).portF := by
  by_cases h : (s.slot l).state = .empty
  · rw [voidQuote_empty _ h, if_pos h]
  · rw [voidQuote_held r h, if_neg h]
    exact quoteReply_portF s ((s.letGo l).emptySlot l) l r _ 0 (letGo_nodes s l) (letGo_portF s l)

theorem closeLane_open {s : State} {l : Nat} (r : Option Reply) (h : (s.lane l).isOpen = true) :
    s.closeLane l r = (s.voidQuote l r).setLane l { (s.voidQuote l r).lane l with isOpen := false } := if_pos h

theorem closeLane_closed {s : State} {l : Nat} (r : Option Reply) (h : (s.lane l).isOpen = false) : s.closeLane l r = s :=
  if_neg (Bool.eq_false_iff.mp h)

/-- An OPEN lane closes with its quote voided and its queue kept; a CLOSED one stands. -/
theorem closeLane_lane {s : State} {l : Nat} (hl : l < s.sales.lanes.length) (r : Option Reply) :
    (s.closeLane l r).lane l =
      if (s.lane l).isOpen then { s.lane l with isOpen := false, slot := (s.slot l).voided } else s.lane l := by
  cases h : (s.lane l).isOpen with
  | true =>
    rw [closeLane_open r h, lane_setLane _ (by rw [voidQuote_lanes_length]; exact hl), voidQuote_lane hl]
    rfl
  | false => rw [closeLane_closed r h]; rfl

theorem closeLane_lane_ne (s : State) {l k : Nat} (hk : k ≠ l) (r : Option Reply) : (s.closeLane l r).lane k = s.lane k := by
  cases h : (s.lane l).isOpen with
  | true => rw [closeLane_open r h, lane_setLane_ne _ _ hk, voidQuote_lane_ne s hk]
  | false => rw [closeLane_closed r h]

theorem closeLane_orders (s : State) (l : Nat) (r : Option Reply) : (s.closeLane l r).sales.orders = s.sales.orders := by
  cases h : (s.lane l).isOpen with
  | true => rw [closeLane_open r h]; exact voidQuote_orders s l r
  | false => rw [closeLane_closed r h]

theorem closeLane_portF_silent (s : State) (l : Nat) : (s.closeLane l none).portF = s.portF := by
  cases h : (s.lane l).isOpen with
  | true => rw [closeLane_open none h]; exact voidQuote_portF_silent s l
  | false => rw [closeLane_closed none h]

/-- The reply of a close goes to the lane's kiosk alone, where an open quote is voided. -/
theorem closeLane_portF (s : State) {l : Nat} (hl : l < 3) (r : Reply) : (s.closeLane l (some r)).portF =
    (s.answerLanes fun m =>
      if m = l ∧ (s.lane m).isOpen = true ∧ (s.slot m).state ≠ .empty then some (r, 0) else none).portF := by
  rw [answerLanes_one s hl _ fun k hk => if_neg fun h => hk h.1]
  cases h : (s.lane l).isOpen with
  | true =>
    have closed : (s.closeLane l (some r)).portF = (s.voidQuote l (some r)).portF := by
      rw [closeLane_open _ h]
      rfl
    rw [closed, voidQuote_portF]
    by_cases he : (s.slot l).state = .empty
    · rw [if_pos he, if_neg fun k => k.2.2 he]
    · rw [if_neg he, if_pos ⟨rfl, rfl, he⟩]
  | false =>
    rw [closeLane_closed _ h, if_neg fun k => Bool.false_ne_true k.2.1]

theorem voidQuote_noticeSame {a : NoticeClass} (h : ¬DropClass a) (s : State) (l : Nat) (r : Option Reply) :
    NoticeSame a s (s.voidQuote l r) := by
  have letGo := (letGo_frame s l).noticeSame (c := a) (by decide)
  by_cases he : (s.slot l).state = .empty
  · rw [voidQuote_empty r he]
    exact .refl
  · cases r with
    | none => rw [voidQuote_silent he]; exact letGo
    | some r =>
      rw [voidQuote_held r he]
      exact NoticeSame.trans (t := (s.letGo l).emptySlot l) letGo (quoteReply_noticeSame h ..)

theorem closeLane_noticeSame {a : NoticeClass} (h : ¬DropClass a) (s : State) (l : Nat) (r : Option Reply) :
    NoticeSame a s (s.closeLane l r) := by
  cases hopen : (s.lane l).isOpen with
  | true => rw [closeLane_open r hopen]; exact voidQuote_noticeSame h s l r
  | false => rw [closeLane_closed r hopen]; exact .refl

/-! ## A station out of service (R155, R69) -/

theorem station_of_stations {s t : State} (h : t.stations = s.stations) (i : Nat) : t.station i = s.station i :=
  station_congr h i

/-- The state in which a station going out of service has been written, RETRACT sent to it if it worked. -/
def State.outWritten (s : State) (i : Nat) (r : OutReason) : State :=
  (if Station.working (s.station i) then s.retract i else s).setStation i
    { Station.afterOut (s.station i) r with inService := false }

/-- The withdrawal cascade follows where the station was used and in service (R69). -/
def State.outCascaded (s : State) (i : Nat) (r : OutReason) : State :=
  if (s.station i).inService = true ∧ Station.used (s.station i) = true then
    (s.outWritten i r).cascade (s.station i).service
  else s.outWritten i r

theorem outOfService_eq (s : State) (i : Nat) (r : OutReason) : s.outOfService i r =
    match outNotice r with
    | some n => (s.outCascaded i r).notifyStation n i none
    | none => s.outCascaded i r := rfl

theorem outWritten_stations (s : State) (i : Nat) (r : OutReason) : (s.outWritten i r).stations =
    s.stations.set i { Station.afterOut (s.station i) r with inService := false } := by
  unfold State.outWritten
  split
  · rw [State.setStation, State.setStations_stations, (retract_frame s i).same .stations (by decide)]
  · rfl

theorem outCascaded_frame (s : State) (i : Nat) (r : OutReason) :
    SameExcept [.sales, .mgmt] (s.outWritten i r) (s.outCascaded i r) := .ite (cascade_frame ..) .refl

theorem outOfService_outWritten (s : State) (i : Nat) (r : OutReason) :
    SameExcept [.sales, .mgmt] (s.outWritten i r) (s.outOfService i r) := by
  rw [outOfService_eq]
  split
  · exact (outCascaded_frame s i r).trans ((notifyStation_frame ..).within (by decide))
  · exact outCascaded_frame s i r

theorem outOfService_stations (s : State) (i : Nat) (r : OutReason) : (s.outOfService i r).stations =
    s.stations.set i { Station.afterOut (s.station i) r with inService := false } :=
  ((outOfService_outWritten s i r).same .stations (by decide)).trans (outWritten_stations s i r)

theorem outOfService_station {s : State} {i : Nat} (h : i < s.stations.length) (r : OutReason) :
    (s.outOfService i r).station i = { Station.afterOut (s.station i) r with inService := false } := by
  rw [State.station, outOfService_stations]
  exact getD_set_eq _ _ _ _ h

theorem outOfService_station_ne (s : State) {i k : Nat} (h : k ≠ i) (r : OutReason) :
    (s.outOfService i r).station k = s.station k := by
  rw [State.station, outOfService_stations]
  exact getD_set_ne _ _ _ _ _ h

theorem outOfService_portF (s : State) (i : Nat) (r : OutReason) : (s.outOfService i r).portF =
    if Station.working (s.station i) then (s.toFieldUrgent (s.station i).actuator 0x30 [3, 0]).portF else s.portF := by
  refine ((outOfService_outWritten s i r).same .portF (by decide)).trans ?_
  unfold State.outWritten
  split <;> rfl

/-- The cascade counts and marks the waiting orders that need the lost service. -/
theorem cascade_covered {s : State} {svc : Nat} (h : s.covered svc = true) : s.cascade svc = s := if_pos h

theorem cascade_lost {s : State} {svc : Nat} (h : s.covered svc = false) : s.cascade svc =
    (s.setSales { s.sales with
      orders := s.sales.orders.map fun o => if newlyDegraded svc o then { o with degraded := true } else o }).notify .sales
      { reason 4 with place := some svc, arg := some (s.sales.orders.countP (newlyDegraded svc)) } :=
  if_neg (Bool.eq_false_iff.mp h)

theorem covered_of_stations {s t : State} (h : t.stations = s.stations) (n : Nat) : t.covered n = s.covered n := by
  rw [State.covered, State.covered, h]

/-- A service reads covered alike before and after the cascade. -/
theorem outOfService_covered (s : State) (i : Nat) (r : OutReason) (n : Nat) :
    (s.outOfService i r).covered n = (s.outWritten i r).covered n :=
  covered_of_stations ((outOfService_outWritten s i r).same .stations (by decide)) n

theorem outWritten_sales (s : State) (i : Nat) (r : OutReason) : (s.outWritten i r).sales = s.sales := by
  unfold State.outWritten
  split
  · exact (retract_frame s i).same .sales (by decide)
  · rfl

theorem outWritten_mgmt (s : State) (i : Nat) (r : OutReason) : (s.outWritten i r).mgmt = s.mgmt := by
  unfold State.outWritten
  split
  · exact (retract_frame s i).same .mgmt (by decide)
  · rfl

theorem outOfService_sales (s : State) (i : Nat) (r : OutReason) : (s.outOfService i r).sales = (s.outCascaded i r).sales := by
  rw [outOfService_eq]
  split <;> rfl

/-- The service is covered still, or was not given by the station: no order is touched. -/
theorem outOfService_kept {s : State} {i : Nat} {r : OutReason}
    (h : (s.station i).inService = false ∨ (s.outOfService i r).covered (s.station i).service = true) :
    (s.outOfService i r).sales = s.sales ∧ (s.outCascaded i r).mgmt = s.mgmt := by
  have same : s.outCascaded i r = s.outWritten i r := by
    obtain h | h := h
    · exact if_neg fun k => Bool.false_ne_true (h.symm.trans k.1)
    · rw [outOfService_covered] at h
      unfold State.outCascaded
      split
      · exact cascade_covered h
      · rfl
  rw [outOfService_sales, same]
  exact ⟨outWritten_sales s i r, outWritten_mgmt s i r⟩

/-- The service is lost with the station. -/
theorem outCascaded_lost {s : State} {i : Nat} {r : OutReason} (inService : (s.station i).inService = true)
    (used : Station.used (s.station i) = true)
    (lost : (s.outOfService i r).covered (s.station i).service = false) : s.outCascaded i r =
      ((s.outWritten i r).setSales { s.sales with
        orders := s.sales.orders.map fun o =>
          if newlyDegraded (s.station i).service o then { o with degraded := true } else o }).notify .sales
        { reason 4 with
          place := some (s.station i).service,
          arg := some (s.sales.orders.countP (newlyDegraded (s.station i).service)) } := by
  rw [outOfService_covered] at lost
  unfold State.outCascaded
  rw [if_pos ⟨inService, used⟩, cascade_lost lost, outWritten_sales]

theorem outCascaded_notices (s : State) (i : Nat) (r : OutReason) :
    (s.outCascaded i r).mgmt.notices.length = s.mgmt.notices.length := by
  rw [← outWritten_mgmt s i r]
  unfold State.outCascaded
  split
  · unfold State.cascade
    split
    · rfl
    · exact notify_length ..
  · rfl

/-- Going out of service raises the SALES and STATION classes alone. -/
theorem outOfService_noticeSame {a : NoticeClass} (sales : a ≠ .sales) (station : a ≠ .station) (s : State) (i : Nat)
    (r : OutReason) : NoticeSame a s (s.outOfService i r) := by
  have written : NoticeSame a s (s.outWritten i r) := .of_mgmt (outWritten_mgmt s i r)
  have cascade (t : State) (svc : Nat) : NoticeSame a t (t.cascade svc) := by
    unfold State.cascade
    split
    · exact .refl
    · exact notify_noticeSame sales (t.setSales _) _
  have cascaded : NoticeSame a s (s.outCascaded i r) := written.trans (.ite (cascade _ _) .refl)
  rw [outOfService_eq]
  split
  · exact cascaded.trans (notify_noticeSame station _ _)
  · exact cascaded

end Sys2Proof.Machine
end

section
/-!
A frame accepted (R15, R23, R24, R35 to R38, R44) and a node fallen SILENT (R41 to R43), with the obligations O16 and O18.
-/
namespace Sys2Proof.Machine

-- Proofs in order: a thread that waits for another proof counts against the check's memory limit.
set_option Elab.async false

/-! ## States that the arbiter and the conveyor judge alike -/

/-- The two states hold the same of all that an evaluation of the arbiter, the speed level and standby reads. -/
structure Alike (s t : State) : Prop where
  nodes : t.nodes = s.nodes
  sales : t.sales = s.sales
  merge : t.merge = s.merge
  track : t.track = s.track
  portF : t.portF = s.portF
  halt : t.halt = s.halt
  params : t.mgmt.params = s.mgmt.params

namespace Alike
variable {s t : State}

theorem findNode (h : Alike s t) (p : NodeRecord → Bool) : t.findNode p = s.findNode p := by
  simp only [State.findNode, State.node, h.nodes]

theorem param (h : Alike s t) (p : Config.Param) : t.param p = s.param p := by rw [State.param, State.param, h.params]

theorem speedLevel (h : Alike s t) : t.speedLevel = s.speedLevel := by
  simp only [State.speedLevel, State.caps, State.demand, State.grantedOrder, State.headOrder, State.lane, State.order,
    h.sales, h.merge, h.track]

theorem standby (h : Alike s t) : t.standby = s.standby := by
  simp only [State.standby, State.nobodyComing, State.someStaged, h.sales, h.merge, h.track]

theorem entryFree (h : Alike s t) : t.entryFree = s.entryFree := by
  simp only [State.entryFree, State.entryClear, State.tailCar, h.param, h.halt, h.merge, h.track]

theorem headOrder (h : Alike s t) (l : Nat) : t.headOrder l = s.headOrder l := by
  rw [State.headOrder, State.headOrder, lane_of_sales h.sales]

theorem winner (h : Alike s t) : t.winner = s.winner := by
  have candidate : t.candidate = s.candidate := by
    funext l
    simp only [State.candidate, State.present, State.laneAddr, h.findNode, State.suspended, State.laneSilent,
      h.headOrder, State.order, h.nodes, h.sales]
  rw [State.winner, State.winner, candidate, h.merge]

theorem setTrack (h : Alike s t) (v : Track) : Alike (s.setTrack v) (t.setTrack v) :=
  ⟨h.nodes, h.sales, h.merge, rfl, h.portF, h.halt, h.params⟩

theorem setMerge (h : Alike s t) (v : Merge) : Alike (s.setMerge v) (t.setMerge v) :=
  ⟨h.nodes, h.sales, rfl, h.track, h.portF, h.halt, h.params⟩

theorem setSales (h : Alike s t) (v : Sales) : Alike (s.setSales v) (t.setSales v) :=
  ⟨h.nodes, rfl, h.merge, h.track, h.portF, h.halt, h.params⟩

theorem setStartRequested (h : Alike s t) (v : Bool) : Alike (s.setStartRequested v) (t.setStartRequested v) :=
  ⟨h.nodes, h.sales, h.merge, h.track, h.portF, h.halt, h.params⟩

theorem toField (h : Alike s t) (d : Option Nat) (k : Byte) (l : List Byte) :
    Alike (s.toField d k l) (t.toField d k l) := by
  have fs := toField_frame s d k l
  have ft := toField_frame t d k l
  have same {p : Part} (hp : p ∉ [Part.portF, .mgmt]) := And.intro (fs.same p hp) (ft.same p hp)
  have nodes := same (p := .nodes) (by decide)
  have sales := same (p := .sales) (by decide)
  have merge := same (p := .merge) (by decide)
  have track := same (p := .track) (by decide)
  have halt := same (p := .halt) (by decide)
  exact ⟨nodes.2.trans (h.nodes.trans nodes.1.symm), sales.2.trans (h.sales.trans sales.1.symm),
    merge.2.trans (h.merge.trans merge.1.symm), track.2.trans (h.track.trans track.1.symm),
    toField_portF s t d k l h.portF, halt.2.trans (h.halt.trans halt.1.symm),
    (toField_orderly ..).params.trans (h.params.trans (toField_orderly ..).params.symm)⟩

theorem driveCmd (h : Alike s t) (a b : Nat) : Alike (s.driveCmd a b) (t.driveCmd a b) := by
  have drive : t.driveAddr = s.driveAddr := by simp only [State.driveAddr, State.roleAddr, h.findNode]
  unfold State.driveCmd
  rw [drive]
  exact h.toField ..

theorem judgeSpeed (h : Alike s t) : Alike s.judgeSpeed t.judgeSpeed := by
  unfold State.judgeSpeed
  rw [h.track, h.speedLevel]
  split
  · exact (h.setTrack _).driveCmd ..
  · exact h

theorem judgeStandby (h : Alike s t) : Alike s.judgeStandby t.judgeStandby := by
  unfold State.judgeStandby
  rw [h.track, h.standby, h.param]
  split
  · split
    · exact h.setTrack _
    · exact h
  · exact h.setTrack _

theorem openGate (h : Alike s t) (l : Nat) : Alike (s.openGate l) (t.openGate l) := by
  have gate : t.gateAddr l = s.gateAddr l := by simp only [State.gateAddr, State.laneAddr, h.findNode]
  have sent := h.toField (s.gateAddr l) Config.kGateCmd [1]
  unfold State.openGate State.setGate State.setMergeLane State.mergeLane
  rw [gate, sent.merge]
  exact sent.setMerge _

theorem grantLane (h : Alike s t) (l : Nat) : Alike (s.grantLane l) (t.grantLane l) := by
  unfold State.grantLane
  rw [h.headOrder]
  split
  · exact h
  next r _ =>
    have order : t.order r = s.order r := by rw [State.order, State.order, h.sales]
    have granted := h.setSales { s.sales with orders := s.sales.orders.set r { s.order r with state := .granted } }
    dsimp only [State.setOrderState, State.setOrder]
    rw [order, h.sales, h.param, State.setSales_merge, State.setSales_merge, h.merge]
    exact (granted.setMerge _).openGate l

theorem arbitrate (h : Alike s t) : Alike s.arbitrate t.arbitrate := by
  unfold State.arbitrate
  rw [h.entryFree, h.winner, h.track]
  split
  · split
    · exact h
    · split
      · exact h.grantLane _
      · exact h
      · exact h.setStartRequested true
      · exact h.setStartRequested true
  · exact h

/-- One review of both states leaves them alike. -/
theorem review (h : Alike s t) : Alike s.review t.review := h.arbitrate.judgeSpeed.judgeStandby

end Alike

/-! ## What the inbound side of a port holds -/

/-- Every port holds the same inbound frames and the same pause. -/
structure InboundSame (s t : State) : Prop where
  inq : ∀ p, (t.port p).inq = (s.port p).inq
  paused : ∀ p, (t.port p).paused = (s.port p).paused

section
variable {s t u : State}

theorem InboundSame.refl : InboundSame s s := ⟨fun _ => rfl, fun _ => rfl⟩

theorem InboundSame.trans (h : InboundSame s t) (k : InboundSame t u) : InboundSame s u :=
  ⟨fun p => (k.inq p).trans (h.inq p), fun p => (k.paused p).trans (h.paused p)⟩

theorem InboundSame.ite {c : Prop} [Decidable c] (h : InboundSame s t) (k : InboundSame s u) :
    InboundSame s (if c then t else u) := by
  split
  · exact h
  · exact k

theorem SameExcept.inbound {l : List Part} (h : SameExcept l s t) (hS : Part.portS ∉ l) (hF : Part.portF ∉ l) :
    InboundSame s t := by
  have port (p : PortId) : t.port p = s.port p := by
    cases p
    · exact h.same .portS hS
    · exact h.same .portF hF
  exact ⟨fun p => by rw [port], fun p => by rw [port]⟩

end

theorem Port.transmit_paused (q : Port) : (Port.transmit q).paused = q.paused := by
  unfold Port.transmit Port.startFrame
  split
  · rfl
  · split <;> rfl
  · split <;> rfl
  · rfl

theorem setPort_inbound {s : State} {p : PortId} {q : Port} (inq : q.inq = (s.port p).inq)
    (paused : q.paused = (s.port p).paused) : InboundSame s (s.setPort p q) := by
  constructor
  · intro a; cases p <;> cases a <;> first | exact inq | rfl
  · intro a; cases p <;> cases a <;> first | exact paused | rfl

theorem offerNormal_inbound (s : State) (p : PortId) (f : OutFrame) : InboundSame s (s.offerNormal p f) := by
  unfold State.offerNormal
  dsimp only
  split
  · exact setPort_inbound (Port.transmit_inq _) (Port.transmit_paused _)
  · have counted : InboundSame s (s.setPort p { s.port p with drop := sat 255 ((s.port p).drop + 1) }) :=
      setPort_inbound rfl rfl
    exact (counted.trans ((notifyLink_frame ..).inbound (by decide) (by decide))).trans
      ((noteLost_frame ..).inbound (by decide) (by decide))

theorem toField_inbound (s : State) (d : Option Nat) (k : Byte) (l : List Byte) : InboundSame s (s.toField d k l) := by
  cases d with
  | none => exact .refl
  | some a => exact offerNormal_inbound ..

theorem judgeConveyor_inbound (s : State) : InboundSame s s.judgeConveyor := by
  have speed : InboundSame s s.judgeSpeed := by
    unfold State.judgeSpeed
    refine .ite (InboundSame.trans (t := s.setTrack _) ?_ (toField_inbound ..)) .refl
    exact (setTrack_frame ..).inbound (by decide) (by decide)
  refine speed.trans (SameExcept.inbound (l := [.track]) (judgeStandby_frame _) (by decide) (by decide))

theorem openGate_inbound (s : State) (l : Nat) : InboundSame s (s.openGate l) :=
  (toField_inbound ..).trans (SameExcept.inbound (l := [.merge]) (setMerge_frame ..) (by decide) (by decide))

theorem arbitrate_inbound (s : State) : InboundSame s s.arbitrate := by
  have start : InboundSame s (s.setStartRequested true) := (setStartRequested_frame ..).inbound (by decide) (by decide)
  unfold State.arbitrate
  split
  · split
    · exact .refl
    · split
      · unfold State.grantLane
        split
        · exact .refl
        · refine InboundSame.trans (t := (s.setOrderState _ .granted).setMerge _) ?_ (openGate_inbound ..)
          exact InboundSame.trans ((setSales_frame ..).inbound (by decide) (by decide))
            ((setMerge_frame ..).inbound (by decide) (by decide))
      · exact .refl
      · exact start
      · exact start
  · exact .refl

theorem review_inbound (s : State) : InboundSame s s.review := (arbitrate_inbound s).trans (judgeConveyor_inbound _)

theorem hear_inbound (s : State) (f : Frame) : InboundSame s (s.hear f) := by
  have live (t : State) (a : Nat) (r : NodeRecord) : InboundSame t (t.noteLive a r) := by
    have noticed : InboundSame t (t.notifyNode a 9 none) := (notifyNode_frame ..).inbound (by decide) (by decide)
    unfold State.noteLive
    exact .ite (.ite (noticed.trans (review_inbound _)) noticed) .refl
  unfold State.hear
  refine InboundSame.trans (t := (s.setNode _ _).noteGap _ _ _) ?_ (live ..)
  exact InboundSame.trans (t := s.setNode _ _) ((setNodes_frame ..).inbound (by decide) (by decide))
    ((noteGap_frame ..).inbound (by decide) (by decide))

theorem route_inbound (s : State) (p : PortId) (f : Frame) : InboundSame s (s.route p f) := by
  unfold State.route State.copyOn
  split
  · exact (InboundSame.ite (offerNormal_inbound ..) .refl).trans ((deliver_frame ..).inbound (by decide) (by decide))
  · cases p
    · exact (setHanded_frame ..).inbound (by decide) (by decide)
    · exact offerNormal_inbound ..

/-! ## The sender's record (R35, R37) -/

theorem hear_nodes (s : State) (f : Frame) : (s.hear f).nodes =
    s.nodes.set f.src.toNat (NodeRecord.heard (s.node f.src.toNat) f) := by
  unfold State.hear
  exact ((noteLive_frame ..).same .nodes (by decide)).trans ((noteGap_frame ..).same .nodes (by decide))

theorem hear_node {s : State} {f : Frame} (h : f.src.toNat < s.nodes.length) :
    (s.hear f).node f.src.toNat = NodeRecord.heard (s.node f.src.toNat) f := by
  rw [State.node, hear_nodes]
  exact getD_set_eq _ _ _ _ h

theorem hear_node_ne (s : State) {f : Frame} {b : Nat} (h : b ≠ f.src.toNat) : (s.hear f).node b = s.node b := by
  rw [State.node, hear_nodes]
  exact getD_set_ne _ _ _ _ _ h

/-- Frames lost from the encoder raise ENCODER_GAP (R36). -/
theorem hear_raised (s : State) (f : Frame) : (s.hear f).raised = s.raised ++
    if seqGap (s.node f.src.toNat) f = true ∧ (s.node f.src.toNat).role = .encoder then
      [(.encoderGap, { CauseDetail.empty with node := some f.src.toNat })] else [] := by
  unfold State.hear
  refine ((noteLive_frame ..).same .raised (by decide)).trans ?_
  unfold State.noteGap
  dsimp only
  cases hgap : seqGap (s.node f.src.toNat) f with
  | false => rw [if_neg Bool.false_ne_true, if_neg fun k => Bool.false_ne_true k.1, List.append_nil]; rfl
  | true =>
    rw [if_pos rfl]
    by_cases hrole : (s.node f.src.toNat).role = .encoder
    · rw [if_pos hrole, if_pos ⟨rfl, hrole⟩]; rfl
    · rw [if_neg hrole, if_neg fun k => hrole k.2, List.append_nil]; rfl

/-- The state in which the sender's record has been brought up to date and a gap noticed. -/
def State.heardGap (s : State) (f : Frame) : State :=
  (s.setNode f.src.toNat (NodeRecord.heard (s.node f.src.toNat) f)).noteGap f.src.toNat (s.node f.src.toNat) f

theorem heardGap_frame (s : State) (f : Frame) : SameExcept [.nodes, .mgmt, .raised] s (s.heardGap f) :=
  ((setNodes_frame ..).within (by decide)).trans ((noteGap_frame ..).within (by decide))

/-- A merge eye that is heard again is an occasion for the arbiter (R44). -/
theorem hear_again {s : State} {f : Frame} (role : (s.node f.src.toNat).role = .mergeEye)
    (silent : (s.node f.src.toNat).silent = true) :
    s.hear f = ((s.heardGap f).notifyNode f.src.toNat 9 none).review := by
  unfold State.hear State.noteLive
  exact (if_pos silent).trans (if_pos role)

/-- Any other sender is not. -/
theorem hear_plain {s : State} {f : Frame}
    (h : ¬((s.node f.src.toNat).role = .mergeEye ∧ (s.node f.src.toNat).silent = true)) :
    SameExcept [.nodes, .mgmt, .raised] s (s.hear f) := by
  have noticed := (notifyNode_frame (s.heardGap f) f.src.toNat 9 none).within (m := [.nodes, .mgmt, .raised]) (by decide)
  refine (heardGap_frame s f).trans ?_
  change SameExcept _ (s.heardGap f) ((s.heardGap f).noteLive f.src.toNat (s.node f.src.toNat))
  unfold State.noteLive
  split
  next silent =>
    dsimp only
    rw [if_neg fun role => h ⟨role, silent⟩]
    exact noticed
  · exact .refl

/-- The state that is reviewed for a merge eye heard again is alike to the one with the record alone written. -/
theorem heardGap_alike (s : State) (f : Frame) :
    Alike (s.setNode f.src.toNat (NodeRecord.heard (s.node f.src.toNat) f))
      ((s.heardGap f).notifyNode f.src.toNat 9 none) := by
  have gap := noteGap_frame (s.setNode f.src.toNat (NodeRecord.heard (s.node f.src.toNat) f)) f.src.toNat
    (s.node f.src.toNat) f
  exact ⟨gap.same .nodes (by decide), gap.same .sales (by decide), gap.same .merge (by decide),
    gap.same .track (by decide), gap.same .portF (by decide), gap.same .halt (by decide),
    (noteGap_orderly ..).params⟩

/-! ## Routing (R23, R24, R38, R193) -/

theorem deliver_known {s : State} {f : Frame} {l : List Instr} (h : handover (s.node f.src.toNat) f = some l) :
    s.deliver f = s.setHanded (s.handed ++ l) := by
  unfold State.deliver
  rw [h]

theorem deliver_unknown {s : State} {f : Frame} (h : handover (s.node f.src.toNat) f = none) :
    s.deliver f = s.countRefusal f.src.toNat .payload := by
  unfold State.deliver
  rw [h]

theorem route_part {s : State} {f : Frame} (p : PortId) (h : f.dest = 1) : s.route p f = (s.copyOn f).deliver f := if_pos h

theorem route_site {s : State} {f : Frame} (h : f.dest ≠ 1) : s.route .f f = s.offerNormal .s { own := false, frame := f } :=
  if_neg h

theorem route_field {s : State} {f : Frame} (h : f.dest ≠ 1) : s.route .s f = s.setHanded (s.handed ++ [.siteFieldFrame f]) :=
  if_neg h

/-- What is handed over rests on the fields that a frame heard leaves alone. -/
theorem handover_heard (r : NodeRecord) (f : Frame) : handover (NodeRecord.heard r f) f = handover r f := rfl

theorem copyOn_node (s : State) (f : Frame) (a : Nat) : (s.copyOn f).node a = s.node a := by
  rw [State.node, (copyOn_frame s f).same .nodes (by decide)]
  rfl

theorem offerS_node (s : State) (f : OutFrame) (a : Nat) : (s.offerNormal .s f).node a = s.node a := by
  rw [State.node, (offerNormal_frame s .s f).same .nodes (by decide)]
  rfl

/-- The queue after a frame is taken, with the RESUME where it is due (R15). -/
theorem taken_eq (s : State) (p : PortId) (rest : List InFrame) : s.taken p rest =
    let begun := s.setPort p { s.port p with inq := rest }
    if p = .f ∧ s.portF.paused = true ∧ rest.length ≤ s.param .resumeAt then
      (begun.setPort .f { begun.portF with paused := false }).offerUrgent .f (ownFrame 62 0x39 [])
    else begun := by
  cases p with
  | s => exact (if_neg fun h => by cases h.1).symm
  | f =>
    by_cases h : rest.length ≤ s.param .resumeAt ∧ s.portF.paused = true
    · exact (if_pos h).trans (if_pos ⟨rfl, h.2, h.1⟩).symm
    · exact (if_neg h).trans (if_neg fun k => h ⟨k.2.2, k.2.1⟩).symm

theorem offerUrgent_paused (s : State) (p : PortId) (f : OutFrame) :
    ((s.offerUrgent p f).port p).paused = (s.port p).paused := by
  unfold State.offerUrgent
  dsimp only
  split
  · rfl
  · split
    · rw [port_setPort, Port.transmit_paused]
    · rw [port_raiseCause, port_setPort]

/-- Port F's pause ends at RESUME_AT. -/
theorem taken_paused (s : State) (rest : List InFrame) :
    (s.taken .f rest).portF.paused = (s.portF.paused && !decide (rest.length ≤ s.param .resumeAt)) := by
  rw [taken_eq]
  dsimp only
  by_cases h : s.portF.paused = true ∧ rest.length ≤ s.param .resumeAt
  · rw [if_pos ⟨rfl, h⟩]
    refine (offerUrgent_paused _ .f _).trans ?_
    simp [h.2]
  · rw [if_neg fun k => h k.2]
    change s.portF.paused = _
    cases hpaused : s.portF.paused with
    | false => rfl
    | true =>
      have : ¬rest.length ≤ s.param .resumeAt := fun k => h ⟨hpaused, k⟩
      simp [this]

theorem taken_shape {s : State} (p : PortId) (rest : List InFrame) (h : Shape s) : Shape (s.taken p rest) := by
  refine (judgeResume_orderly _ p).shape ?_
  cases p <;> exact { h with }

/-! ## The record of the sender after routing -/

/-- The sender's record after routing: as it was heard, or with one refusal more (R38, R193). -/
theorem route_node (u : State) (p : PortId) (f : Frame) : (u.route p f).node f.src.toNat = u.node f.src.toNat ∨
    (u.route p f).node f.src.toNat = { u.node f.src.toNat with
      errors := min 15 ((u.node f.src.toNat).errors + 1), lastError := some .payload } := by
  by_cases hd : f.dest = 1
  · rw [route_part p hd]
    cases hh : handover ((u.copyOn f).node f.src.toNat) f with
    | some l => exact .inl ((congrArg (fun t : State => t.node f.src.toNat) (deliver_known hh)).trans (copyOn_node ..))
    | none =>
      rw [deliver_unknown hh]
      by_cases hlen : f.src.toNat < (u.copyOn f).nodes.length
      · rw [countRefusal_node _ hlen, copyOn_node]
        exact .inr rfl
      · refine .inl (Eq.trans ?_ (copyOn_node u f _))
        have : (u.copyOn f).nodes.set f.src.toNat { (u.copyOn f).node f.src.toNat with
            errors := sat 15 (((u.copyOn f).node f.src.toNat).errors + 1), lastError := some .payload } =
          (u.copyOn f).nodes := List.set_eq_of_length_le (Nat.le_of_not_lt hlen)
        exact congrArg (fun l : List NodeRecord => l.getD f.src.toNat (.blank .none)) this
  · cases p with
    | s => rw [route_field hd]; exact .inl rfl
    | f => rw [route_site hd]; exact .inl (offerS_node ..)

/-- A frame that is not for the part leaves its sender's record as it was heard (log 43). -/
theorem route_kept (u : State) (p : PortId) {f : Frame} (hd : f.dest ≠ 1) :
    (u.route p f).node f.src.toNat = u.node f.src.toNat := by
  cases p with
  | s => rw [route_field hd]; rfl
  | f => rw [route_site hd]; exact offerS_node ..

theorem route_node_ne (u : State) (p : PortId) (f : Frame) {b : Nat} (hb : b ≠ f.src.toNat) :
    (u.route p f).node b = u.node b := by
  by_cases hd : f.dest = 1
  · rw [route_part p hd]
    cases hh : handover ((u.copyOn f).node f.src.toNat) f with
    | some l => exact (congrArg (fun t : State => t.node b) (deliver_known hh)).trans (copyOn_node ..)
    | none => rw [deliver_unknown hh, countRefusal_node_ne _ _ hb, copyOn_node]
  · cases p with
    | s => rw [route_field hd]; rfl
    | f => rw [route_site hd]; exact offerS_node ..

/-- A frame that is copied or forwarded joins Port S's normal queue. -/
theorem route_portS {u : State} {p : PortId} {f : Frame}
    (copied : f.dest = 1 ∧ (u.node f.src.toNat).forward = true ∨ p = .f ∧ f.dest ≠ 1) (room : u.portS.normal.length < 32) :
    (u.route p f).portS = Port.transmit { u.portS with normal := u.portS.normal ++ [{ own := false, frame := f }] } := by
  have joined : (u.offerNormal .s { own := false, frame := f }).portS =
      Port.transmit { u.portS with normal := u.portS.normal ++ [{ own := false, frame := f }] } := by
    rw [offerNormal_joins (p := .s) _ room]
    rfl
  obtain ⟨hd, hforward⟩ | ⟨rfl, hd⟩ := copied
  · have hcopy : u.copyOn f = u.offerNormal .s { own := false, frame := f } := if_pos hforward
    rw [route_part p hd, hcopy]
    exact ((deliver_frame ..).same .portS (by decide)).trans joined
  · rw [route_site hd]
    exact joined

theorem judgeFrame_accepted {s : State} {p : PortId} {f : Frame} (h : s.refusalOf p f = none) :
    s.judgeFrame p f = (s.hear f).route p f := by
  unfold State.judgeFrame
  rw [h]

/-- Settles O16: the queue first, then the sender's record, then the routing, each by its own rule. -/
theorem acceptedFrameIsRouted : Obligations.AcceptedFrameIsRouted := by
  intro p g rest s hreset hs hqueue hsrc hdue haccepted
  dsimp only
  rw [← taken_eq]
  have hnodes := taken_nodes s p rest
  have hnode (b : Nat) : (s.taken p rest).node b = s.node b := by rw [State.node, State.node, hnodes]
  have hlt : g.frame.src.toNat < (s.taken p rest).nodes.length := by rw [hnodes, hs.nodes]; omega
  have hheard : ((s.taken p rest).hear g.frame).node g.frame.src.toNat = NodeRecord.heard (s.node g.frame.src.toNat) g.frame := by
    rw [hear_node hlt, hnode]
  have hroute := route_frame ((s.taken p rest).hear g.frame) p g.frame
  have hrecord : NodeRecord.heard (s.node g.frame.src.toNat) g.frame = { s.node g.frame.src.toNat with
      silence := 0, silent := false, synced := true, expected := (g.frame.seq.toNat + 1) % 256,
      gaps := if (s.node g.frame.src.toNat).synced = true ∧
          (g.frame.seq.toNat + 256 - (s.node g.frame.src.toNat).expected) % 256 ≠ 0 then
        min 255 ((s.node g.frame.src.toNat).gaps +
          (g.frame.seq.toNat + 256 - (s.node g.frame.src.toNat).expected) % 256)
        else (s.node g.frame.src.toNat).gaps } := by
    have : seqGap (s.node g.frame.src.toNat) g.frame = true ↔ (s.node g.frame.src.toNat).synced = true ∧
        (g.frame.seq.toNat + 256 - (s.node g.frame.src.toNat).expected) % 256 ≠ 0 := by
      simp [seqGap, seqDistance]
    simp only [NodeRecord.heard, this]
    rfl
  have hinbound : InboundSame (s.taken p rest) (((s.taken p rest).hear g.frame).route p g.frame) :=
    (hear_inbound ..).trans (route_inbound ..)
  have hhanded : ((s.taken p rest).hear g.frame).handed = s.handed :=
    ((hear_frame ..).same .handed (by decide)).trans (taken_handed s p rest)
  have hover : handover ((((s.taken p rest).hear g.frame).copyOn g.frame).node g.frame.src.toNat) g.frame =
      handover (s.node g.frame.src.toNat) g.frame := by rw [copyOn_node, hheard, handover_heard]
  refine ⟨((s.taken p rest).hear g.frame).route p g.frame, ?exec, ?inq, ?record, fun b hb => ?others, ?raised,
    fun hp => ?paused, fun hplain => ?plain, fun hagain => ?again, fun hd l hl => ?known, fun hd hl => ?unknown,
    fun hd => ?kept, fun hp hd => ?field, fun hp hd => ?forwarded, fun hcopied hroom => ?copied⟩
  case exec => rw [exec_nodeFrameTake hreset hqueue hdue, judgeFrame_accepted ((taken_refusalOf ..).trans haccepted)]
  case inq => exact (hinbound.inq p).trans (taken_inq s p rest)
  case record =>
    rw [← hrecord]
    obtain h | h := route_node ((s.taken p rest).hear g.frame) p g.frame
    · rw [h, hheard]; rfl
    · rw [h, hheard]; rfl
  case others => rw [route_node_ne _ _ _ hb, hear_node_ne _ hb, hnode]
  case raised =>
    rw [hroute.same .raised (by decide), hear_raised, hnode]
    simp [seqGap, seqDistance, and_assoc]
  case paused =>
    subst hp
    exact (hinbound.paused .f).trans (taken_paused s rest)
  case plain =>
    have plain : SameExcept [.nodes, .mgmt, .raised] (s.taken p rest) ((s.taken p rest).hear g.frame) :=
      hear_plain (by rw [hnode]; exact hplain)
    have both (a : Part) (h1 : a ∉ [Part.nodes, .handed, .mgmt, .portS]) (h2 : a ∉ [Part.nodes, .mgmt, .raised]) :=
      And.intro (hroute.same a h1) (plain.same a h2)
    have queue := taken_frame s p rest
    exact ⟨(hroute.same .portF (by decide)).trans (plain.same .portF (by decide)),
      ((hroute.same .sales (by decide)).trans (plain.same .sales (by decide))).trans
        (queue.same .sales (by cases p <;> decide)),
      ((hroute.same .merge (by decide)).trans (plain.same .merge (by decide))).trans
        (queue.same .merge (by cases p <;> decide)),
      ((hroute.same .track (by decide)).trans (plain.same .track (by decide))).trans
        (queue.same .track (by cases p <;> decide))⟩
  case again =>
    rw [← hrecord, ← hnode]
    have heard := hear_again (s := s.taken p rest) (f := g.frame) (by rw [hnode]; exact hagain.1)
      (by rw [hnode]; exact hagain.2)
    have alike := (heardGap_alike (s.taken p rest) g.frame).review
    rw [← heard] at alike
    exact ⟨(hroute.same .portF (by decide)).trans alike.portF, (hroute.same .sales (by decide)).trans alike.sales,
      (hroute.same .merge (by decide)).trans alike.merge, (hroute.same .track (by decide)).trans alike.track⟩
  case known =>
    rw [route_part p hd, deliver_known (hover.trans hl)]
    refine ⟨?_, ?_, ?_⟩
    · rw [State.setHanded_handed, (copyOn_frame ..).same .handed (by decide), hhanded]
    · change ((State.copyOn _ _).node _).errors = _
      rw [copyOn_node, hheard]
      rfl
    · change ((State.copyOn _ _).node _).lastError = _
      rw [copyOn_node, hheard]
      rfl
  case unknown =>
    have hnode' := countRefusal_node (s := ((s.taken p rest).hear g.frame).copyOn g.frame) (a := g.frame.src.toNat)
      .payload (by rw [(copyOn_frame ..).same .nodes (by decide), hear_nodes, List.length_set]; exact hlt)
    rw [copyOn_node, hheard] at hnode'
    have hshape := ((copyOn_orderly _ g.frame).shape ((hear_orderly (s.taken p rest) g.frame).shape (taken_shape p rest hs)))
    rw [route_part p hd, deliver_unknown (hover.trans hl)]
    refine ⟨?_, ?_, ?_, countRefusal_noticed _ .payload hshape.notices⟩
    · rw [(countRefusal_frame ..).same .handed (by decide), (copyOn_frame ..).same .handed (by decide), hhanded]
    · rw [hnode']; rfl
    · rw [hnode']
  case kept =>
    rw [route_kept _ p hd, hheard]
    exact ⟨rfl, rfl⟩
  case field =>
    subst hp
    rw [route_field hd, State.setHanded_handed, hhanded]
  case forwarded =>
    subst hp
    rw [route_site hd, (offerNormal_frame _ .s _).same .handed (by decide), hhanded]
  case copied =>
    have hportS : ((s.taken p rest).hear g.frame).portS = { s.portS with inq := if p = .s then rest else s.portS.inq } :=
      ((hear_frame ..).same .portS (by decide)).trans (taken_portS s p rest)
    have hforward : (((s.taken p rest).hear g.frame).node g.frame.src.toNat).forward = (s.node g.frame.src.toNat).forward := by
      rw [hheard]
      rfl
    rw [route_portS (by rw [hforward]; exact hcopied) (by rw [hportS]; exact hroom), hportS]

/-! ## Silence (R41 to R43) -/

/-- The state in which a silence has been recorded and noticed. -/
def State.silenced (s : State) (a : Nat) : State :=
  (s.setNode a { s.node a with silent := true, synced := false, silenceDue := false }).notifyNode a 8 none

theorem silenced_frame (s : State) (a : Nat) : SameExcept [.nodes, .mgmt] s (s.silenced a) :=
  ((setNodes_frame ..).within (by decide)).trans ((notifyNode_frame ..).within (by decide))

theorem exec_nodeSilent {a : Nat} {s : State} (reset : s.inReset = false) (due : (s.node a).silenceDue = true) :
    exec (.nodeSilent a) s = .next ((s.silenced a).silenceEffect a (s.node a)) := by
  have hexec : exec (.nodeSilent a) s = execNodeSilent a s := rfl
  rw [hexec, execNodeSilent, whenDue_eq _ reset due]
  rfl

theorem silenceEffect_encoder {s : State} {r : NodeRecord} (a : Nat) (h : r.role = .encoder) :
    s.silenceEffect a r = s.raiseCause .encoderSilent { CauseDetail.empty with node := some a } := by
  unfold State.silenceEffect
  rw [h]

theorem silenceEffect_station {s : State} {r : NodeRecord} (a : Nat) (h : r.role = .station) :
    s.silenceEffect a r = s.outOfService r.station .nodeSilent := by
  unfold State.silenceEffect
  rw [h]

theorem silenceEffect_kiosk {s : State} {r : NodeRecord} (a : Nat) (h : r.role = .kiosk) :
    s.silenceEffect a r = s.closeLane r.lane none := by
  unfold State.silenceEffect
  rw [h]

theorem silenceEffect_gate {s : State} {r : NodeRecord} (a : Nat) (h : r.role = .gate) :
    s.silenceEffect a r = s.closeLane r.lane (some .laneClosed) := by
  unfold State.silenceEffect
  rw [h]

/-- Every other role raises NODE_SILENT if it is watched and the tunnel is not OFFLINE (R42). -/
theorem silenceEffect_other {s : State} {r : NodeRecord} (a : Nat)
    (h : r.role ≠ .encoder ∧ r.role ≠ .station ∧ r.role ≠ .kiosk ∧ r.role ≠ .gate) : s.silenceEffect a r =
      if watchedRole r.role = true ∧ s.halt.mode ≠ .offline then
        s.raiseCause .nodeSilent { CauseDetail.empty with node := some a }
      else s := by
  obtain ⟨h1, h2, h3, h4⟩ := h
  unfold State.silenceEffect
  split
  case h_1 hr => exact absurd hr h1
  case h_2 hr => exact absurd hr h2
  case h_3 hr => exact absurd hr h3
  case h_4 hr => exact absurd hr h4
  case h_5 => rfl

/-- The effect of a silence leaves the notice of the node. -/
theorem silenceEffect_noticeSame (s : State) (a : Nat) (r : NodeRecord) : NoticeSame .node s (s.silenceEffect a r) := by
  have drop : ¬DropClass .node := by unfold DropClass; decide
  unfold State.silenceEffect
  split
  · exact (raiseCause_frame ..).noticeSame (by decide)
  · exact outOfService_noticeSame (by decide) (by decide) ..
  · exact closeLane_noticeSame drop ..
  · exact closeLane_noticeSame drop ..
  · exact .ite ((raiseCause_frame ..).noticeSame (by decide)) .refl

/-- The silence of a node leaves every node's role and lane, and with them the kiosks' addresses. -/
theorem silenced_kioskAddr (s : State) (a l : Nat) : (s.silenced a).kioskAddr l = s.kioskAddr l := by
  have node (b : Nat) : ((s.silenced a).node b).role = (s.node b).role ∧ ((s.silenced a).node b).lane = (s.node b).lane := by
    change ((s.setNode a _).node b).role = _ ∧ ((s.setNode a _).node b).lane = _
    by_cases hb : b = a
    · subst hb
      by_cases hlen : b < s.nodes.length
      · rw [node_setNode _ hlen]; exact ⟨rfl, rfl⟩
      · have : s.nodes.set b { s.node b with silent := true, synced := false, silenceDue := false } = s.nodes :=
          List.set_eq_of_length_le (Nat.le_of_not_lt hlen)
        rw [State.setNode, this]
        exact ⟨rfl, rfl⟩
    · rw [node_setNode_ne _ _ hb]
      exact ⟨rfl, rfl⟩
  simp only [State.kioskAddr, State.laneAddr, State.findNode, node]

/-- Settles O18: the silence is recorded and noticed, and each role's effect is one operation of another block. -/
theorem silentNodeTakesItsEffect : Obligations.SilentNodeTakesItsEffect := by
  intro a s hreset hs ha hdue
  dsimp only
  have hbefore := silenced_frame s a
  have hafter := silenceEffect_frame (s.silenced a) a (s.node a)
  have hnodes : ((s.silenced a).silenceEffect a (s.node a)).nodes = (s.silenced a).nodes := hafter.same .nodes (by decide)
  have hraised : (s.silenced a).raised = s.raised := hbefore.same .raised (by decide)
  have hmode : (s.silenced a).halt.mode = s.halt.mode := congrArg Halt.mode (hbefore.same .halt (by decide))
  have hsales : (s.silenced a).sales = s.sales := hbefore.same .sales (by decide)
  have hlane (l : Nat) : (s.silenced a).lane l = s.lane l := lane_of_sales hsales l
  have other (h : (s.node a).role ∈ [.drive, .estop, .entryEye, .exitEye, .checkEye, .wheelSwitch]) :=
    silenceEffect_other (s := s.silenced a) (r := s.node a) a
      ⟨fun hr => by rw [hr] at h; exact absurd h (by decide), fun hr => by rw [hr] at h; exact absurd h (by decide),
        fun hr => by rw [hr] at h; exact absurd h (by decide), fun hr => by rw [hr] at h; exact absurd h (by decide)⟩
  have closes (r : Option Reply) (hopen : (s.lane (s.node a).lane).isOpen = true) (hl : (s.node a).lane < 3) :
      ((s.silenced a).closeLane (s.node a).lane r).lane (s.node a).lane =
        { s.lane (s.node a).lane with isOpen := false, slot := (s.slot (s.node a).lane).voided } := by
    rw [closeLane_lane (by rw [hsales, hs.lanes]; exact hl), hlane, if_pos hopen, slot_of_lane (hlane _)]
  refine ⟨_, exec_nodeSilent hreset hdue, ?record, fun b hb => ?others, ?noticed, fun hr => ?encoder,
    fun hr hm => ?halting, fun hr hm => ?offline, fun hr hi => ?station, fun hr hl hopen => ?lane, fun hr => ?kiosk,
    fun hr hl => ?gate, fun hr => ?quiet⟩
  case record =>
    rw [State.node, hnodes]
    exact node_setNode _ (by rw [hs.nodes]; exact ha)
  case others =>
    rw [State.node, hnodes]
    exact node_setNode_ne _ _ hb
  case noticed =>
    exact (silenceEffect_noticeSame ..).noticed (notify_noticed (s.setNode a _) _ _ hs.notices)
  case encoder =>
    rw [silenceEffect_encoder a hr, State.raiseCause, State.setRaised_raised, hraised]
  case halting =>
    rw [other hr, if_pos ⟨(watchedRole_iff _).mpr hr, by rw [hmode]; exact hm⟩, State.raiseCause, State.setRaised_raised,
      hraised]
  case offline =>
    rw [other hr, if_neg fun h => h.2 (hmode.trans hm), hraised]
  case station =>
    have hlength : (s.node a).station < (s.silenced a).stations.length := by
      rw [hbefore.same .stations (by decide), hs.stations]
      exact hi
    rw [silenceEffect_station a hr, outOfService_station hlength]
    exact ⟨rfl, rfl, rfl⟩
  case lane =>
    have closed (r : Option Reply) (heffect : (s.silenced a).silenceEffect a (s.node a) =
        (s.silenced a).closeLane (s.node a).lane r) :
        ((s.silenced a).silenceEffect a (s.node a)).lane (s.node a).lane =
          { s.lane (s.node a).lane with isOpen := false, slot := (s.slot (s.node a).lane).voided } := by
      rw [heffect, closes r hopen hl]
    have hlanes : ((s.silenced a).silenceEffect a (s.node a)).lane (s.node a).lane =
        { s.lane (s.node a).lane with isOpen := false, slot := (s.slot (s.node a).lane).voided } :=
      hr.elim (fun hr => closed none (silenceEffect_kiosk a hr)) fun hr => closed _ (silenceEffect_gate a hr)
    rw [State.slot, hlanes]
    exact ⟨rfl, Slot.voided_state _, Slot.voided_life, rfl⟩
  case kiosk =>
    rw [silenceEffect_kiosk a hr, closeLane_portF_silent]
    exact hbefore.same .portF (by decide)
  case gate =>
    rw [silenceEffect_gate a hr, closeLane_portF _ hl, answerLanes_one _ hl _ fun k hk => if_neg fun h => hk h.1,
      answerLanes_one s hl _ fun k hk => if_neg fun h => hk h.1]
    rw [hlane, slot_of_lane (hlane _)]
    by_cases hvoids : (s.node a).lane = (s.node a).lane ∧ (s.lane (s.node a).lane).isOpen = true ∧
        (s.slot (s.node a).lane).state ≠ .empty
    · rw [if_pos hvoids]
      exact quoteReply_portF_of (silenced_kioskAddr s a _) (hbefore.same .portF (by decide)) ..
    · rw [if_neg hvoids]
      exact hbefore.same .portF (by decide)
  case quiet =>
    have hunwatched : watchedRole (s.node a).role = false := by
      obtain hr | hr | hr := hr <;> rw [hr] <;> rfl
    have heffect : (s.silenced a).silenceEffect a (s.node a) = s.silenced a := by
      rw [silenceEffect_other a ?_, if_neg fun h => Bool.false_ne_true (hunwatched.symm.trans h.1)]
      obtain hr | hr | hr := hr <;> rw [hr] <;> decide
    rw [heffect]
    exact hbefore

end Sys2Proof.Machine
end

section
/-!
The receiver (R3 to R7, R16): how it judges an escape, a header, a body and a closed collection, and that it reads back what
a transmission puts on the line, with the obligations O8 and O9.
-/
namespace Sys2Proof.Machine

-- Proofs in order: a thread that waits for another proof counts against the check's memory limit.
set_option Elab.async false

/-! ## A byte at the receiver (R3, R4) -/

/-- A byte that brings a content byte is taken as it. -/
theorem receive_content {s : State} {p : PortId} {b x : Byte} (h : contentOf (s.port p).rx b = some x) :
    s.receive p b = s.content p x := by
  unfold State.receive
  cases hrx : (s.port p).rx with
  | hunt => rw [hrx] at h; cases h
  | collect =>
    rw [hrx, contentOf] at h
    split at h
    · cases h
    next hplain =>
      have h1 : ¬b = Config.delimiter := fun h => hplain (.inl h)
      have h2 : ¬b = Config.escape := fun h => hplain (.inr (.inl h))
      have h3 : ¬b = Config.haltByte := fun h => hplain (.inr (.inr h))
      obtain rfl := Option.some.inj h
      dsimp only
      rw [if_neg h1, if_neg h2, if_neg h3]
  | escape =>
    rw [hrx, contentOf] at h
    dsimp only at h ⊢
    split at h
    next h1 =>
      rw [if_pos h1, ← Option.some.inj h]
      rfl
    next h1 =>
      split at h
      next h2 =>
        rw [if_neg h1, if_pos h2, ← Option.some.inj h]
        rfl
      next h2 =>
        split at h
        next h3 =>
          rw [if_neg h1, if_neg h2, if_pos h3, ← Option.some.inj h]
          rfl
        · cases h

/-- A content byte is never a raw halt byte. -/
theorem contentOf_halt (rx : RxState) : contentOf rx 0xE5 = none := by cases rx <;> rfl

theorem receive_delimiter_collect {s : State} {p : PortId} (rx : (s.port p).rx = .collect) :
    s.receive p 0xC7 = s.closeFrame p := by
  simp [State.receive, rx, Config.delimiter]

theorem receive_delimiter_hunt {s : State} {p : PortId} (rx : (s.port p).rx = .hunt) :
    s.receive p 0xC7 = s.setRx p .collect [] := by
  simp [State.receive, rx, Config.delimiter]

theorem receive_delimiter_escape {s : State} {p : PortId} (rx : (s.port p).rx = .escape) :
    s.receive p 0xC7 = (s.setRx p .collect []).rxError p .badEscape := by
  simp [State.receive, rx, Config.delimiter]

theorem receive_escape {s : State} {p : PortId} (rx : (s.port p).rx = .collect) :
    s.receive p 0xCB = s.setRx p .escape (s.port p).coll := by
  simp [State.receive, rx, Config.delimiter, Config.escape]

/-- A byte that is no escape code aborts the frame. -/
theorem receive_badEscape {s : State} {p : PortId} {b : Byte} (rx : (s.port p).rx = .escape)
    (h : b ∉ [0x31, 0x32, 0x33, 0xC7, 0xE5]) : s.receive p b = s.abortFrame p .badEscape := by
  simp only [List.mem_cons, List.not_mem_nil, or_false, not_or] at h
  obtain ⟨h1, h2, h3, h4, h5⟩ := h
  unfold State.receive
  rw [rx]
  exact (if_neg h1).trans <| (if_neg h2).trans <| (if_neg h3).trans <| (if_neg h4).trans (if_neg h5)

/-! ## A content byte (R5, R6) -/

theorem content_header {s : State} {p : PortId} {x : Byte} (length : (s.port p).coll.length = 5) :
    s.content p x = match headerError ((s.port p).coll ++ [x]) with
      | some e => s.abortFrame p e
      | none => s.setRx p .collect ((s.port p).coll ++ [x]) := by
  unfold State.content
  exact (if_neg (by omega)).trans ((if_pos length).trans rfl)

/-- A content byte that stays within what the header promises joins the collection. -/
def Joins (coll : List Byte) (x : Byte) : Prop :=
  coll.length < 5 ∨ coll.length = 5 ∧ headerError (coll ++ [x]) = none ∨ 5 < coll.length ∧ coll.length < collLen coll + 8

theorem content_joins {s : State} {p : PortId} {x : Byte} (h : Joins (s.port p).coll x) :
    s.content p x = s.setRx p .collect ((s.port p).coll ++ [x]) := by
  obtain h | ⟨h, hheader⟩ | ⟨h, hlen⟩ := h
  · exact if_pos h
  · rw [content_header h, hheader]
  · exact (if_neg (by omega)).trans ((if_neg (by omega)).trans (if_pos hlen))

theorem content_long {s : State} {p : PortId} {x : Byte} (h6 : 6 ≤ (s.port p).coll.length)
    (h : (s.port p).coll.length = ((s.port p).coll.getD 4 0).toNat + 8) : s.content p x = s.abortFrame p .long := by
  have hlen : ¬(s.port p).coll.length < collLen (s.port p).coll + 8 := by rw [collLen, ← h]; exact Nat.lt_irrefl _
  exact (if_neg (by omega)).trans ((if_neg (by omega)).trans (if_neg hlen))

/-! ## The verdict on a header and on a closed collection (R5, R6) -/

/-- The header's bytes do not sum to 0, or name an address above 63. -/
def BadHeader (h : List Byte) : Prop := h.foldl (· + ·) 0 ≠ 0 ∨ 63 < (h.getD 0 0).toNat ∨ 63 < (h.getD 1 0).toNat

theorem headerError_bad {h : List Byte} (bad : BadHeader h) : headerError h = some .hdrCheck := by
  unfold headerError
  by_cases hsum : h.foldl (· + ·) 0 ≠ 0
  · exact if_pos hsum
  · exact (if_neg hsum).trans (if_pos (bad.resolve_left hsum))

theorem headerError_long {h : List Byte} (good : ¬BadHeader h) (long : 48 < (h.getD 4 0).toNat) :
    headerError h = some .long :=
  (if_neg fun k => good (.inl k)).trans ((if_neg fun k => good (.inr k)).trans (if_pos long))

theorem headerError_none {h : List Byte} (good : ¬BadHeader h) (fits : (h.getD 4 0).toNat ≤ 48) : headerError h = none :=
  (if_neg fun k => good (.inl k)).trans ((if_neg fun k => good (.inr k)).trans (if_neg (Nat.not_lt.mpr fits)))

theorem closeFrame_error {s : State} {p : PortId} {e : RxError} (open_ : (s.port p).coll ≠ [])
    (h : closeError (s.port p).coll = some e) : s.closeFrame p = (s.setRx p .collect []).rxError p e := by
  unfold State.closeFrame
  dsimp only
  rw [if_neg open_, h]

theorem closeFrame_complete {s : State} {p : PortId} (open_ : (s.port p).coll ≠ [])
    (h : closeError (s.port p).coll = none) :
    s.closeFrame p = (s.setRx p .collect []).offerInbound p (frameOf (s.port p).coll) := by
  unfold State.closeFrame
  dsimp only
  rw [if_neg open_, h]

theorem closeFrame_idle {s : State} {p : PortId} (h : (s.port p).coll = []) : s.closeFrame p = s.setRx p .collect [] :=
  if_pos h

/-- A frame discarded at a delimiter: the next one is open. -/
theorem rxError_discarded (s : State) (p : PortId) (e : RxError) (h : s.mgmt.notices.length = 8) :
    Discarded p e .collect s ((s.setRx p .collect []).rxError p e) := by
  have noticed (t : State) (ht : t.mgmt = s.mgmt) (n : Nat) :
      Noticed .link { reason n with arg := some (portNumber p) } (t.notifyLink p n) :=
    notify_noticed _ _ _ (by rw [ht]; exact h)
  refine ⟨?_, ?_, ?_, noticed _ (by simp [State.setRx]) _⟩ <;>
    simp [State.rxError, State.setRx, State.notifyLink, sat]

/-- The receiver's part of a port after a byte that is no halt byte is counted. -/
theorem countHalt_plain {s : State} {p : PortId} {b : Byte} (hb : b ≠ 0xE5) :
    ((s.countHalt p b).port p).rx = (s.port p).rx ∧ ((s.countHalt p b).port p).coll = (s.port p).coll ∧
    ((s.countHalt p b).port p).rxErrors = (s.port p).rxErrors := by
  rw [countHalt_other hb, port_setPort]
  exact ⟨rfl, rfl, rfl⟩

/-- Settles O8: the receiver's branches, after the byte is counted, which leaves the receiver alone. -/
theorem receiverJudgesFrames : Obligations.ReceiverJudgesFrames := by
  intro p b s hreset hs
  refine ⟨_, exec_receiveByte p b hreset, ?_⟩
  dsimp only
  have hnotices : (s.countHalt p b).mgmt.notices.length = 8 := by rw [countHalt_mgmt]; exact hs.notices
  have plain {x : Byte} (hx : contentOf (s.port p).rx b = some x) : b ≠ 0xE5 := by
    rintro rfl
    rw [contentOf_halt] at hx
    cases hx
  have received {x : Byte} (hx : contentOf (s.port p).rx b = some x) :
      (s.countHalt p b).receive p b = (s.countHalt p b).content p x := by
    refine receive_content ?_
    rw [(countHalt_plain (plain hx)).1]
    exact hx
  have aborted {e : RxError} (hb : b ≠ 0xE5) : Discarded p e .hunt s ((s.countHalt p b).abortFrame p e) :=
    (abortFrame_discarded _ p e hnotices).of_rxErrors (countHalt_plain hb).2.2
  have dropped {e : RxError} (hb : b ≠ 0xE5) :
      Discarded p e .collect s (((s.countHalt p b).setRx p .collect []).rxError p e) :=
    (rxError_discarded _ p e hnotices).of_rxErrors (countHalt_plain hb).2.2
  refine ⟨fun x hx hlen => ?header, fun x hx h6 hlen => ?long, fun hb hrx => ?closedEscape, fun hrx hb => ?badEscape,
    fun hb hrx hopen hshort => ?short, fun hb hrx h6 hlen hcrc => ?crc⟩
  case header =>
    obtain ⟨hrx, hcoll, herrors⟩ := countHalt_plain (s := s) (p := p) (plain hx)
    rw [received hx, content_header (by rw [hcoll]; exact hlen), hcoll]
    refine ⟨fun hbad => ?_, fun hgood hlong => ?_, fun hgood hfits => ?_⟩
    · rw [headerError_bad hbad]
      exact aborted (plain hx)
    · rw [headerError_long hgood hlong]
      exact aborted (plain hx)
    · rw [headerError_none hgood hfits]
      dsimp only
      rw [State.setRx, port_setPort]
      exact ⟨rfl, rfl, herrors⟩
  case long =>
    obtain ⟨-, hcoll, -⟩ := countHalt_plain (s := s) (p := p) (plain hx)
    rw [received hx, content_long (by rw [hcoll]; exact h6) (by rw [hcoll]; exact hlen)]
    exact aborted (plain hx)
  case closedEscape =>
    subst hb
    rw [receive_delimiter_escape (by rw [(countHalt_plain (by decide)).1]; exact hrx)]
    exact dropped (by decide)
  case badEscape =>
    have hplain : b ≠ 0xE5 := by
      rintro rfl
      exact hb (by decide)
    rw [receive_badEscape (by rw [(countHalt_plain hplain).1]; exact hrx) hb]
    exact aborted hplain
  case short =>
    subst hb
    obtain ⟨hrx', hcoll, -⟩ := countHalt_plain (s := s) (p := p) (b := 0xC7) (by decide)
    have herror : closeError (s.port p).coll = some .short := if_pos hshort
    rw [receive_delimiter_collect (hrx'.trans hrx), closeFrame_error (by rw [hcoll]; exact hopen)
      (by rw [hcoll]; exact herror)]
    exact dropped (by decide)
  case crc =>
    subst hb
    obtain ⟨hrx', hcoll, -⟩ := countHalt_plain (s := s) (p := p) (b := 0xC7) (by decide)
    have hopen : (s.port p).coll ≠ [] := fun h => by rw [h] at h6; exact Nat.not_succ_le_zero 5 h6
    have hsplit : (s.port p).coll.length - 2 = collLen (s.port p).coll + 6 := by rw [collLen]; omega
    have herror : closeError (s.port p).coll = some .crc := by
      rw [hsplit] at hcrc
      refine (if_neg ?_).trans (if_neg (Ne.symm hcrc))
      rw [collLen]
      omega
    rw [receive_delimiter_collect (hrx'.trans hrx), closeFrame_error (by rw [hcoll]; exact hopen)
      (by rw [hcoll]; exact herror)]
    exact dropped (by decide)

/-! ## What a transmission puts on the line (R7, R16) -/

theorem byte_length_toNat {n : Nat} (h : n ≤ 48) : (byte n).toNat = n := by
  rw [byte_toNat]
  omega

theorem body_length (f : Frame) : (Frame.body f).length = f.payload.length + 6 := by
  simp [Frame.body, Frame.head5]

theorem content_length (f : Frame) : (Frame.content f).length = f.payload.length + 8 := by
  simp [Frame.content, body_length, be16]

theorem content_len (f : Frame) : (Frame.content f).getD 4 0 = byte f.payload.length := rfl

theorem content_head (f : Frame) : (Frame.content f).take 6 = Frame.head5 f ++ [headerCheck (Frame.head5 f)] := rfl

/-- The six header bytes of a frame within its limits pass the header's check. -/
theorem content_headerError {f : Frame} (h : f.wf = true) : headerError ((Frame.content f).take 6) = none := by
  simp only [Frame.wf, Bool.and_eq_true, decide_eq_true_eq] at h
  obtain ⟨⟨hdest, hsrc⟩, hlen⟩ := h
  rw [content_head]
  refine headerError_none ?_ ?_
  · rintro (hsum | hdest' | hsrc')
    · refine hsum ?_
      rw [List.foldl_append, headerCheck]
      exact (BitVec.add_comm _ _).trans (BitVec.sub_add_cancel 0 _)
    · exact absurd hdest (Nat.not_le.mpr hdest')
    · exact absurd hsrc (Nat.not_le.mpr hsrc')
  · change (byte f.payload.length).toNat ≤ 48
    rw [byte_length_toNat hlen]
    exact hlen

theorem content_closeError {f : Frame} (h : f.payload.length ≤ 48) : closeError (Frame.content f) = none := by
  have hlen : collLen (Frame.content f) = f.payload.length := by rw [collLen, content_len, byte_length_toNat h]
  have hbody : collLen (Frame.content f) + 6 = (Frame.body f).length := by rw [hlen, body_length]
  unfold closeError
  rw [if_neg (by rw [content_length, hlen]; omega), hbody]
  exact if_pos (by rw [Frame.content, List.take_left', List.drop_left'] <;> rfl)

theorem content_frameOf {f : Frame} (h : f.payload.length ≤ 48) : frameOf (Frame.content f) = f := by
  have hlen : collLen (Frame.content f) = f.payload.length := by rw [collLen, content_len, byte_length_toNat h]
  have hpayload : ((Frame.content f).drop 6).take (collLen (Frame.content f)) = f.payload := by
    rw [hlen]
    exact List.take_left' rfl
  unfold frameOf
  rw [hpayload]
  rfl

/-- Each content byte of a frame joins the bytes before it. -/
theorem content_prefix_joins {f : Frame} (h : f.wf = true) {before after : List Byte} {x : Byte}
    (hsplit : Frame.content f = before ++ x :: after) : Joins before x := by
  have hlen : f.payload.length ≤ 48 := by
    simp only [Frame.wf, Bool.and_eq_true, decide_eq_true_eq] at h
    exact h.2
  have htotal : f.payload.length + 8 = before.length + (after.length + 1) := by
    rw [← content_length, hsplit, List.length_append, List.length_cons]
  obtain hb | hb | hb := Nat.lt_trichotomy before.length 5
  · exact .inl hb
  · refine .inr (.inl ⟨hb, ?_⟩)
    have : before ++ [x] = (Frame.content f).take 6 := by
      have hassoc : Frame.content f = (before ++ [x]) ++ after := by rw [hsplit, List.append_assoc]; rfl
      rw [hassoc]
      exact (List.take_left' (by rw [List.length_append, hb]; rfl)).symm
    rw [this]
    exact content_headerError h
  · refine .inr (.inr ⟨hb, ?_⟩)
    have : before.getD 4 0 = (Frame.content f).getD 4 0 := by
      rw [hsplit, getD_append_left (by omega)]
    rw [collLen, this, content_len, byte_length_toNat hlen]
    omega

/-! ## Reading it back -/

/-- A port that collects: the receiver in COLLECT, with a run count and the bytes collected so far. -/
def State.reading (s : State) (p : PortId) (run : Nat) (coll : List Byte) : State :=
  s.setPort p { s.port p with rx := .collect, coll := coll, haltRun := run }

/-- The same with an escape waiting for its code byte. -/
def State.escaping (s : State) (p : PortId) (coll : List Byte) : State :=
  s.setPort p { s.port p with rx := .escape, coll := coll, haltRun := 0 }

theorem setPort_setPort (s : State) (p : PortId) (q r : Port) : (s.setPort p q).setPort p r = s.setPort p r := by
  cases p <;> rfl

theorem setPort_inReset (s : State) (p : PortId) (q : Port) : (s.setPort p q).inReset = s.inReset := by cases p <;> rfl

theorem Runs.append {l m : List Instr} {s t u : State} (h : Runs l s t) (k : Runs m t u) : Runs (l ++ m) s u := by
  induction l generalizing s with
  | nil =>
    obtain rfl : t = s := h
    exact k
  | cons c l ih =>
    obtain ⟨v, hv, hrest⟩ := h
    exact ⟨v, hv, ih hrest⟩

/-- One byte that is no halt byte, at a receiver that collects or escapes. -/
theorem runs_byte {s t : State} {p : PortId} {q : Port} {b : Byte} (hreset : s.inReset = false) (hb : b ≠ 0xE5)
    (h : (s.setPort p { q with haltRun := 0 }).receive p b = t) : Runs [.receiveByte p b] (s.setPort p q) t := by
  refine ⟨_, exec_receiveByte p b (by rw [setPort_inReset]; exact hreset), ?_⟩
  rw [countHalt_other hb, port_setPort, setPort_setPort]
  exact h.symm

section
variable {s : State} {p : PortId}

/-- A content byte sent as it is or escaped joins the collection (Table 1-2). -/
theorem runs_escaped (hreset : s.inReset = false) {x : Byte} {coll : List Byte} (hjoins : Joins coll x) (run : Nat) :
    Runs ((escaped x).map (.receiveByte p)) (s.reading p run coll) (s.reading p 0 (coll ++ [x])) := by
  have taken {b : Byte} {rx : RxState} (hx : contentOf rx b = some x) :
      (s.setPort p { s.port p with rx := rx, coll := coll, haltRun := 0 }).receive p b = s.reading p 0 (coll ++ [x]) := by
    rw [receive_content (x := x) (by rw [port_setPort]; exact hx), content_joins (by rw [port_setPort]; exact hjoins),
      State.setRx, port_setPort, setPort_setPort]
    rfl
  have pair {b : Byte} (hb : b ≠ 0xE5) (hx : contentOf .escape b = some x) :
      Runs [.receiveByte p 0xCB, .receiveByte p b] (s.reading p run coll) (s.reading p 0 (coll ++ [x])) := by
    have escape : Runs [.receiveByte p 0xCB] (s.reading p run coll) (s.escaping p coll) := by
      refine runs_byte hreset (by decide) ?_
      rw [receive_escape (by rw [port_setPort]), State.setRx, port_setPort, setPort_setPort]
      rfl
    exact escape.append (runs_byte hreset hb (taken hx))
  unfold escaped
  split
  next h => subst h; exact pair (by decide) rfl
  next h1 =>
    split
    next h => subst h; exact pair (by decide) rfl
    next h2 =>
      split
      next h => subst h; exact pair (by decide) rfl
      next h3 =>
        have hx : contentOf .collect x = some x := if_neg fun h => h.elim h1 fun h => h.elim h2 h3
        exact runs_byte hreset h3 (taken hx)

/-- The content bytes of a frame are collected. -/
theorem runs_content (hreset : s.inReset = false) {f : Frame} (hf : f.wf = true) (after before : List Byte) (run : Nat)
    (hsplit : Frame.content f = before ++ after) :
    ∃ last, Runs ((after.flatMap escaped).map (.receiveByte p)) (s.reading p run before)
      (s.reading p last (Frame.content f)) := by
  induction after generalizing before run with
  | nil =>
    rw [List.append_nil] at hsplit
    exact ⟨run, by rw [hsplit]; exact rfl⟩
  | cons x after ih =>
    obtain ⟨last, hrest⟩ := ih (before ++ [x]) 0 (by rw [hsplit, List.append_assoc]; rfl)
    refine ⟨last, ?_⟩
    rw [List.flatMap_cons, List.map_append]
    exact (runs_escaped hreset (content_prefix_joins hf hsplit) run).append hrest

/-- The closing delimiter offers the frame to the inbound queue. -/
theorem runs_close (hreset : s.inReset = false) {f : Frame} (hf : f.wf = true) (run : Nat) :
    Runs [.receiveByte p 0xC7] (s.reading p run (Frame.content f))
      ((s.setPort p { s.port p with rx := .collect, coll := [], haltRun := 0 }).offerInbound p f) := by
  have hlen : f.payload.length ≤ 48 := by
    simp only [Frame.wf, Bool.and_eq_true, decide_eq_true_eq] at hf
    exact hf.2
  refine runs_byte hreset (by decide) ?_
  rw [receive_delimiter_collect (by rw [port_setPort]), closeFrame_complete (by rw [port_setPort]; exact List.cons_ne_nil _ _)
    (by rw [port_setPort]; exact content_closeError hlen), State.setRx, port_setPort, setPort_setPort]
  exact congrArg _ (content_frameOf hlen)

/-- The opening delimiter, where the transmission sends one, finds or leaves the receiver with an empty collection. -/
theorem runs_open (hreset : s.inReset = false) (opens : Bool)
    (h : (s.port p).rx = .collect ∧ (s.port p).coll = [] ∨ (s.port p).rx = .hunt ∧ opens = true) :
    ∃ run, Runs ((if opens then [Config.delimiter] else []).map (.receiveByte p)) s (s.reading p run []) := by
  cases opens with
  | false =>
    obtain ⟨hrx, hcoll⟩ | ⟨-, h⟩ := h
    · refine ⟨(s.port p).haltRun, ?_⟩
      change s.reading p (s.port p).haltRun [] = s
      rw [State.reading, ← hrx, ← hcoll]
      cases p <;> rfl
    · cases h
  | true =>
    refine ⟨0, _, exec_receiveByte p 0xC7 hreset, ?_⟩
    have hplain := countHalt_plain (s := s) (p := p) (b := 0xC7) (by decide)
    change s.reading p 0 [] = _
    obtain ⟨hrx, hcoll⟩ | ⟨hrx, -⟩ := h
    · rw [receive_delimiter_collect (hplain.1.trans hrx), closeFrame_idle (hplain.2.1.trans hcoll),
        countHalt_other (by decide), State.setRx, port_setPort, setPort_setPort]
      rfl
    · rw [receive_delimiter_hunt (hplain.1.trans hrx), countHalt_other (by decide), State.setRx, port_setPort,
        setPort_setPort]
      rfl

end

/-- Settles O9: the opening delimiter, each content byte in its turn, and the closing delimiter. -/
theorem receiverReadsWhatTransmitterWrites : Obligations.ReceiverReadsWhatTransmitterWrites := by
  intro p f opens s hf hreset hstart
  obtain ⟨run, hopen⟩ := runs_open hreset opens hstart
  obtain ⟨last, hcontent⟩ := runs_content (p := p) hreset hf (Frame.content f) [] run rfl
  unfold Sending.wire
  rw [List.map_append, List.map_append]
  exact (hopen.append hcontent).append (runs_close hreset hf last)

end Sys2Proof.Machine
end

section
/-!
Merge and the conveyor (R97 to R98, R101 to R109, R117 to R122): gates, staging, the arbiter's conditions and turn, the speed
level and standby, and the conveyor's timers, with the obligations O28, O29, O30, O31 and O40.
-/
namespace Sys2Proof.Machine

-- Proofs in order: a thread that waits for another proof counts against the check's memory limit.
set_option Elab.async false

/-! ## Addresses -/

theorem findNode_of_nodes {s t : State} (h : t.nodes = s.nodes) (p : NodeRecord → Bool) : t.findNode p = s.findNode p := by
  simp only [State.findNode, State.node, h]

theorem gateAddr_of_nodes {s t : State} (h : t.nodes = s.nodes) (l : Nat) : t.gateAddr l = s.gateAddr l :=
  findNode_of_nodes h fun n => n.role == .gate && n.lane == l

theorem driveAddr_of_nodes {s t : State} (h : t.nodes = s.nodes) : t.driveAddr = s.driveAddr :=
  findNode_of_nodes h fun n => n.role == .drive

theorem kioskAddr_of_nodes {s t : State} (h : t.nodes = s.nodes) (l : Nat) : t.kioskAddr l = s.kioskAddr l :=
  findNode_of_nodes h fun n => n.role == .kiosk && n.lane == l

/-! ## Gates (R105, R109) -/

/-- A lane's merge record with its gate written. -/
def Merge.withGate (m : Merge) (l : Nat) (g : Gate) : Merge :=
  { m with lanes := m.lanes.set l { m.lanes.getD l .blank with gate := g } }

theorem openGate_merge (s : State) (l : Nat) : (s.openGate l).merge = s.merge.withGate l .opening := by
  unfold State.openGate State.setGate State.setMergeLane State.mergeLane
  rw [(toField_frame ..).same .merge (by decide)]
  rfl

theorem closeGate_merge (s : State) (l : Nat) : (s.closeGate l).merge = s.merge.withGate l .closing := by
  unfold State.closeGate State.setGate State.setMergeLane State.mergeLane
  rw [(toField_frame ..).same .merge (by decide)]
  rfl

theorem mergeLane_of_merge {s t : State} (h : t.merge = s.merge) (l : Nat) : t.mergeLane l = s.mergeLane l := by
  rw [State.mergeLane, State.mergeLane, h]

theorem withGate_lane {m : Merge} {l : Nat} (g : Gate) (h : l < m.lanes.length) :
    (m.withGate l g).lanes.getD l .blank = { m.lanes.getD l .blank with gate := g } := getD_set_eq _ _ _ _ h

theorem withGate_lane_ne (m : Merge) {l k : Nat} (g : Gate) (h : k ≠ l) :
    (m.withGate l g).lanes.getD k .blank = m.lanes.getD k .blank := getD_set_ne _ _ _ _ _ h

/-! ## Staging (R97, R98, R101) -/

theorem without_mergeLane (s : State) (c : Instr) (l : Nat) : (s.without c).mergeLane l = s.mergeLane l := rfl

theorem exec_mergeEyeBlocked {l : Nat} {s : State} (h : Taken (.mergeEyeBlocked l) s) :
    exec (.mergeEyeBlocked l) s = .next (
      let t := (s.without (.mergeEyeBlocked l)).setMergeLane l { s.mergeLane l with eye := true }
      match s.headOrder l with
      | none => t.markUnpaid l
      | some r => if (s.order r).state = .queued then (t.stage l r).review else t) :=
  (taking_eq _ h rfl).trans rfl

theorem exec_mergeEyeClear {l : Nat} {s : State} (h : Taken (.mergeEyeClear l) s) :
    exec (.mergeEyeClear l) s = .next (
      let t := (s.without (.mergeEyeClear l)).setMergeLane l { s.mergeLane l with eye := false, unpaid := false }
      match s.headOrder l with
      | none => t
      | some r => if (s.order r).state = .staged then (t.setOrderState r .queued).judgeConveyor else t) :=
  (taking_eq _ h rfl).trans rfl

/-- Staging an order writes its state, clears the flag and hands the start request. -/
theorem stage_eq (s : State) (l r : Nat) : s.stage l r =
    (((s.setOrder r { s.order r with state := .staged }).setMergeLane l { s.mergeLane l with unpaid := false })).setStartRequested
      (s.startRequested || decide (s.halt.mode = .armed ∧
        (s.track.conveyor = .stopped ∨ s.track.conveyor = .stopping))) := by
  unfold State.stage
  rw [handStart_eq]
  rfl

/-- Settles O28: the branches of the two edges, a staging being one write to the order, one to the lane and the request. -/
theorem mergeEyeStagesAndUnstages : Obligations.MergeEyeStagesAndUnstages := by
  intro l s hl hs
  dsimp only
  have hlanes : l < s.merge.lanes.length := by rw [hs.merge]; exact hl
  have hread := mergeLane_setMergeLane (s := s.without (.mergeEyeBlocked l)) { s.mergeLane l with eye := true } hlanes
  refine ⟨fun htaken => ⟨fun hhead => ?unpaid, fun r hhead hr hqueued => ?staged, fun r hhead hother => ?other⟩,
    fun htaken => ⟨fun hhead => ?empty, fun r hhead hstaged => ?unstaged, fun r hhead hother => ?kept⟩⟩
  case unpaid =>
    rw [exec_mergeEyeBlocked htaken, hhead]
    dsimp only
    rw [State.markUnpaid, hread, setMergeLane_twice]
    rfl
  case staged =>
    refine ⟨((s.without (.mergeEyeBlocked l)).setMergeLane l { s.mergeLane l with eye := true }).stage l r, ?_, ?_, ?_⟩
    · rw [exec_mergeEyeBlocked htaken, hhead]
      dsimp only
      rw [if_pos hqueued]
    · exact (((setHanded_frame s _).within (by decide)).trans ((setMerge_frame ..).within (by decide))).trans
        ((stage_frame ..).within (by decide))
    · rw [stage_eq, hread]
      refine ⟨order_setOrder _ (hs.orders ▸ hr), fun q hq => order_setOrder_ne _ _ hq, rfl, rfl, ?_, fun k hk => ?_, rfl,
        rfl⟩
      · exact mergeLane_setMergeLane (s := (s.setMergeLane l { s.mergeLane l with eye := true })) _
          (by rw [State.setMergeLane, State.setMerge_merge, List.length_set]; exact hlanes)
      · exact (mergeLane_setMergeLane_ne (s.setMergeLane l { s.mergeLane l with eye := true }) _ hk).trans
          (mergeLane_setMergeLane_ne s _ hk)
  case other =>
    rw [exec_mergeEyeBlocked htaken, hhead]
    dsimp only
    rw [if_neg hother]
  case empty => rw [exec_mergeEyeClear htaken, hhead]
  case unstaged =>
    rw [exec_mergeEyeClear htaken, hhead]
    dsimp only
    rw [if_pos hstaged]
    rfl
  case kept =>
    rw [exec_mergeEyeClear htaken, hhead]
    dsimp only
    rw [if_neg hother]

/-! ## The arbiter (R102 to R105) -/

/-- Conditions 1 to 5 of R102 in plain words. -/
theorem entryFree_iff (s : State) : s.entryFree = true ↔
    s.halt.mode = .armed ∧ s.merge.grant = none ∧ s.track.cars.length < 16 ∧ s.merge.entryBlocked = false ∧
    ∀ c, s.track.cars.getLast? = some c → ∃ n, c.length = some n ∧ s.param .entryGap + n ≤ c.front := by
  have clear : s.entryClear = true ↔
      ∀ c, s.track.cars.getLast? = some c → ∃ n, c.length = some n ∧ s.param .entryGap + n ≤ c.front := by
    unfold State.entryClear State.tailCar
    cases s.track.cars.getLast? with
    | none => simp
    | some c =>
      cases hlen : c.length with
      | none => simp [Car.rear, hlen]
      | some n =>
        simp only [Car.rear, hlen, Option.map_some, decide_eq_true_eq, Option.some.injEq, forall_eq', exists_eq_left']
        omega
  unfold State.entryFree
  rw [Bool.and_eq_true, Bool.and_eq_true, Bool.and_eq_true, Bool.and_eq_true, clear, decide_eq_true_iff, beq_iff_eq,
    Option.isNone_iff_eq_none, Bool.not_eq_true', and_assoc, and_assoc, and_assoc]
  exact Iff.rfl

theorem candidate_iff (s : State) (l : Nat) : s.candidate l = true ↔
    s.present l = true ∧ s.suspended l = false ∧ ∃ r, s.headOrder l = some r ∧ (s.order r).state = .staged := by
  unfold State.candidate
  cases s.headOrder l with
  | none => simp
  | some r => simp [and_assoc]

theorem turn_lt {p l : Nat} (h : l ∈ turn p) : l < 3 := by
  simp only [turn, List.mem_cons, List.not_mem_nil, or_false] at h
  omega

/-- Every lane has its turn. -/
theorem mem_turn (p : Nat) {l : Nat} (h : l < 3) : l ∈ turn p := by
  simp only [turn, List.mem_cons, List.not_mem_nil, or_false]
  omega

/-- The first candidate after the last-granted lane wins (R103). -/
theorem winner_eq {s : State} {k : Nat} (h1 : 1 ≤ k) (h3 : k ≤ 3)
    (hk : s.candidate ((s.merge.lastGranted + k) % 3) = true)
    (before : ∀ j, 1 ≤ j → j < k → s.candidate ((s.merge.lastGranted + j) % 3) = false) :
    s.winner = some ((s.merge.lastGranted + k) % 3) := by
  have three : (s.merge.lastGranted + 3) % 3 = s.merge.lastGranted % 3 := Nat.add_mod_right ..
  unfold State.winner turn
  obtain rfl | rfl | rfl : k = 1 ∨ k = 2 ∨ k = 3 := by omega
  · rw [List.find?_cons_of_pos hk]
  · rw [List.find?_cons_of_neg (by rw [before 1 (by decide) (by decide)]; decide), List.find?_cons_of_pos hk]
  · rw [List.find?_cons_of_neg (by rw [before 1 (by decide) (by decide)]; decide),
      List.find?_cons_of_neg (by rw [before 2 (by decide) (by decide)]; decide), ← three, List.find?_cons_of_pos hk]

theorem winner_none {s : State} (h : ∀ l, l < 3 → ¬s.candidate l = true) : s.winner = none :=
  List.find?_eq_none.mpr fun l hl => h l (turn_lt hl)

theorem winner_some {s : State} {l : Nat} (hl : l < 3) (h : s.candidate l = true) : ∃ k, s.winner = some k := by
  cases hw : s.winner with
  | none => exact absurd h (List.find?_eq_none.mp hw l (mem_turn _ hl))
  | some k => exact ⟨k, rfl⟩

theorem arbitrate_barred {s : State} (h : ¬s.entryFree = true) : s.arbitrate = s := if_neg h

theorem arbitrate_free {s : State} (h : s.entryFree = true) : s.arbitrate =
    match s.winner with
    | none => s
    | some l =>
      match s.track.conveyor with
      | .moving => s.grantLane l
      | .starting => s
      | .stopped => s.setStartRequested true
      | .stopping => s.setStartRequested true := (if_pos h).trans rfl

/-- The state in which a grant has been recorded, its gate not yet opened (R104). -/
def State.granting (s : State) (l r : Nat) : State :=
  (s.setOrder r { s.order r with state := .granted }).setMerge { s.merge with
    grant := some { lane := l, tag := (s.order r).tag }, admitTimer := some (s.param .admitWindow), lastGranted := l }

theorem grantLane_eq {s : State} {l r : Nat} (h : s.headOrder l = some r) : s.grantLane l = (s.granting l r).openGate l := by
  unfold State.grantLane
  rw [h]
  rfl

/-- Settles O29: the conditions as propositions, the turn as a search, and the grant as two writes and a command. -/
theorem arbiterGrantsInTurn : Obligations.ArbiterGrantsInTurn := by
  intro s hs
  dsimp only
  rw [← entryFree_iff]
  simp only [← candidate_iff]
  refine ⟨fun h => ?nothing, fun hready ⟨l, hl, hwaits⟩ hconv => ?start, fun hconv => ?starting,
    fun hready hconv k h1 h3 hwaits hbefore r hhead hr => ?grant⟩
  case nothing =>
    by_cases hready : s.entryFree = true
    · rw [arbitrate_free hready, winner_none (h.resolve_left (not_not_intro hready))]
    · exact arbitrate_barred hready
  case start =>
    obtain ⟨k, hk⟩ := winner_some hl hwaits
    rw [arbitrate_free hready, hk]
    obtain hconv | hconv := hconv <;> rw [hconv]
  case starting =>
    by_cases hready : s.entryFree = true
    · rw [arbitrate_free hready, hconv]
      cases s.winner <;> rfl
    · exact arbitrate_barred hready
  case grant =>
    have hwinner := winner_eq h1 h3 hwaits fun j hj1 hjk => Bool.eq_false_iff.mpr (hbefore j hj1 hjk)
    have hgrant : s.arbitrate = (s.granting ((s.merge.lastGranted + k) % 3) r).openGate ((s.merge.lastGranted + k) % 3) := by
      rw [arbitrate_free hready, hwinner, hconv]
      exact grantLane_eq hhead
    have hl : (s.merge.lastGranted + k) % 3 < 3 := Nat.mod_lt _ (by decide)
    generalize (s.merge.lastGranted + k) % 3 = l at *
    have hmerge := openGate_merge (s.granting l r) l
    have hsales : ((s.granting l r).openGate l).sales = (s.granting l r).sales :=
      (openGate_frame ..).same .sales (by decide)
    rw [hgrant]
    refine ⟨(((setSales_frame s _).within (by decide)).trans ((setMerge_frame ..).within (by decide))).trans
      ((openGate_frame ..).within (by decide)), ?_, ?_, ?_, ?_, ?_, fun q hq => ?_, ?_⟩
    · rw [hmerge]; rfl
    · rw [hmerge]; rfl
    · rw [hmerge]; rfl
    · rw [State.mergeLane, hmerge]
      exact withGate_lane _ (by rw [State.granting, State.setMerge_merge]; exact hs.merge ▸ hl)
    · rw [State.order, hsales]
      exact order_setOrder _ (hs.orders ▸ hr)
    · rw [State.order, hsales]
      exact order_setOrder_ne s _ hq
    · exact toField_portF s (s.granting l r) (s.gateAddr l) 0x32 [1] rfl

/-! ## The speed level and standby (R121, R122) -/

theorem foldl_min_le_init (l : List Nat) (a : Nat) : l.foldl min a ≤ a := by
  induction l generalizing a with
  | nil => exact Nat.le_refl a
  | cons x l ih => exact Nat.le_trans (ih (min a x)) (Nat.min_le_left a x)

theorem foldl_min_le_mem {l : List Nat} {k : Nat} (h : k ∈ l) (a : Nat) : l.foldl min a ≤ k := by
  induction l generalizing a with
  | nil => cases h
  | cons x l ih =>
    obtain rfl | h := List.mem_cons.mp h
    · exact Nat.le_trans (foldl_min_le_init l _) (Nat.min_le_right a k)
    · exact ih h _

/-- The minimum is one of the numbers it is taken over. -/
theorem foldl_min_attained (l : List Nat) (a : Nat) : l.foldl min a = a ∨ l.foldl min a ∈ l := by
  induction l generalizing a with
  | nil => exact .inl rfl
  | cons x l ih =>
    obtain h | h := ih (min a x)
    · obtain hm | hm := Nat.le_total a x
      · exact .inl (h.trans (Nat.min_eq_left hm))
      · exact .inr (List.mem_cons.mpr (.inl (h.trans (Nat.min_eq_right hm))))
    · exact .inr (List.mem_cons_of_mem _ h)

/-- The caps in force: of each car with a plan, and of the granted order. -/
theorem mem_caps (s : State) (k : Nat) : k ∈ s.caps ↔ (∃ c ∈ s.track.cars, c.cap = some k) ∨
    ∃ g r, s.merge.grant = some g ∧ s.headOrder g.lane = some r ∧ (s.order r).cap = k := by
  have granted : k ∈ (s.grantedOrder.map fun r => (s.order r).cap).toList ↔
      ∃ g r, s.merge.grant = some g ∧ s.headOrder g.lane = some r ∧ (s.order r).cap = k := by
    simp only [Option.mem_toList, State.grantedOrder, Option.map_eq_some_iff, Option.bind_eq_some_iff]
    constructor
    · rintro ⟨r, ⟨g, hg, hr⟩, hcap⟩
      exact ⟨g, r, hg, hr, hcap⟩
    · rintro ⟨g, r, hg, hr, hcap⟩
      exact ⟨r, ⟨g, hg, hr⟩, hcap⟩
  rw [State.caps, List.mem_append, List.mem_filterMap, granted]

theorem nobodyComing_iff (s : State) : s.nobodyComing = true ↔
    s.track.cars = [] ∧ s.merge.grant = none ∧ ∀ o ∈ s.sales.orders, o.state ≠ .staged := by
  unfold State.nobodyComing State.someStaged
  simp only [Bool.and_eq_true, List.isEmpty_iff, Option.isNone_iff_eq_none, Bool.not_eq_true', List.any_eq_false,
    beq_iff_eq, and_assoc, ne_eq]

theorem standby_iff (s : State) : s.standby = true ↔ s.track.conveyor = .moving ∧ s.track.cars = [] ∧
    s.merge.grant = none ∧ ∀ o ∈ s.sales.orders, o.state ≠ .staged := by
  unfold State.standby
  rw [Bool.and_eq_true, nobodyComing_iff, beq_iff_eq]

theorem judgeSpeed_commands {s : State} (moving : s.track.conveyor = .moving) (h : s.speedLevel ≠ s.track.commanded) :
    s.judgeSpeed = (s.setTrack { s.track with commanded := s.speedLevel }).toField s.driveAddr 0x31 [1, byte s.speedLevel] :=
  if_pos ⟨moving, h⟩

theorem judgeSpeed_stands {s : State} (h : s.track.conveyor ≠ .moving ∨ s.speedLevel = s.track.commanded) :
    s.judgeSpeed = s := if_neg fun k => h.elim (fun h => h k.1) fun h => k.2 h

/-- Settles O30: the level is a minimum over the caps in force, and standby a conjunction. -/
theorem speedAndStandbyAreJudged : Obligations.SpeedAndStandbyAreJudged := by
  intro s
  dsimp only
  rw [← standby_iff]
  simp only [← mem_caps]
  refine ⟨⟨foldl_min_le_init _ _, fun k hk => foldl_min_le_mem hk _, foldl_min_attained _ _⟩, judgeSpeed_commands,
    judgeSpeed_stands, fun hstanding hidle => ?load, fun hstanding hidle => ?left, fun hstanding => ?stop⟩
  case load =>
    unfold State.judgeStandby
    rw [if_pos hstanding, hidle]
    rfl
  case left =>
    obtain ⟨n, hn⟩ := Option.ne_none_iff_exists'.mp hidle
    unfold State.judgeStandby
    rw [if_pos hstanding, hn]
  case stop => exact if_neg hstanding

/-! ## Gate reports and the end of a grant (R106 to R108) -/

theorem holdsGrant_iff (s : State) (l : Nat) : s.holdsGrant l = true ↔ ∃ g, s.merge.grant = some g ∧ g.lane = l := by
  simp only [State.holdsGrant, Option.any_eq_true, beq_iff_eq]

theorem exec_gateState {l : Nat} {opens : Bool} {s : State} (h : Taken (.gateState l opens) s) :
    exec (.gateState l opens) s = .next (
      let u := s.without (.gateState l opens)
      match (generalizing := false) (s.mergeLane l).gate, opens with
      | .closed, true => u.uncommandedOpen l
      | .opening, true => u.setGate l .isOpen
      | .isOpen, true => u
      | .closing, true => u
      | .closed, false => u
      | .opening, false => u
      | .isOpen, false => (u.notifyGate l).setGate l .closed
      | .closing, false => u.setGate l .closed) := (taking_eq _ h rfl).trans rfl

theorem closeGate_eq (s : State) (l : Nat) : s.closeGate l =
    (s.toField (s.gateAddr l) 0x32 [2]).setMergeLane l { s.mergeLane l with gate := .closing } := by
  have : (s.toField (s.gateAddr l) 0x32 [2]).mergeLane l = s.mergeLane l :=
    mergeLane_of_merge ((toField_frame ..).same .merge (by decide)) l
  unfold State.closeGate State.setGate
  rw [← this]
  rfl

/-- A grant is withdrawn: its order goes back by its merge eye, and its gate closes (R108). -/
theorem withdraw_granted {s : State} {g : Grant} {r : Nat} (grant : s.merge.grant = some g)
    (head : s.headOrder g.lane = some r) : s.withdraw = (s.ungrant g.lane r).endGrant g.lane := by
  unfold State.withdraw
  rw [grant]
  dsimp only
  rw [head]

theorem ungrant_sales (s : State) (l r : Nat) : (s.ungrant l r).sales =
    (s.setOrder r { s.order r with state := if (s.mergeLane l).eye then .staged else .queued }).sales := by
  unfold State.ungrant
  split
  · exact (handStart_frame _).same .sales (by decide)
  · rfl

theorem endGrant_merge (s : State) (l : Nat) :
    (s.endGrant l).merge = Merge.withGate { s.merge with grant := none, admitTimer := none } l .closing :=
  closeGate_merge ..

theorem ungrant_merge (s : State) (l r : Nat) : (s.ungrant l r).merge = s.merge :=
  (ungrant_frame s l r).same .merge (by decide)

/-- What the withdrawal of a grant leaves of Merge, of the orders and of Port F. -/
theorem withdraw_parts {s : State} {g : Grant} {r : Nat} (grant : s.merge.grant = some g)
    (head : s.headOrder g.lane = some r) :
    s.withdraw.merge = Merge.withGate { s.merge with grant := none, admitTimer := none } g.lane .closing ∧
    s.withdraw.sales = (s.setOrder r
      { s.order r with state := if (s.mergeLane g.lane).eye then .staged else .queued }).sales ∧
    s.withdraw.portF = (s.toField (s.gateAddr g.lane) 0x32 [2]).portF := by
  rw [withdraw_granted grant head]
  refine ⟨?_, ?_, ?_⟩
  · rw [endGrant_merge, ungrant_merge]
  · rw [(endGrant_frame ..).same .sales (by decide), ungrant_sales]
  · have nodes : (s.ungrant g.lane r).nodes = s.nodes := (ungrant_frame ..).same .nodes (by decide)
    have gate : ((s.ungrant g.lane r).setMerge
        { (s.ungrant g.lane r).merge with grant := none, admitTimer := none }).gateAddr g.lane = s.gateAddr g.lane :=
      gateAddr_of_nodes nodes g.lane
    unfold State.endGrant State.closeGate
    rw [gate]
    exact toField_portF s _ (s.gateAddr g.lane) 0x32 [2] ((ungrant_frame ..).same .portF (by decide))

/-- Settles O31: Table 5-3 branch by branch, and the expiry of the grant's window as a withdrawal with its notice. -/
theorem gateReportsAndAdmitExpiry : Obligations.GateReportsAndAdmitExpiry := by
  refine ⟨fun l opens s hl hs htaken => ?gate, fun g r s hg hs hreset htimer hgrant hhead hr => ?expiry⟩
  case gate =>
    dsimp only
    rw [exec_gateState htaken]
    refine ⟨fun hgate hopens => ⟨fun hmode hholds => ?_, fun hmode => ?_, fun hmode => ?_⟩, fun hgate hopens => ?_,
      fun hgate hopens => ?_, fun hgate hopens => ?_, fun hgate hopens => ?_, fun hgate hopens => ?_⟩
    · subst hopens
      rw [hgate]
      exact congrArg _ (if_pos ⟨hmode, (holdsGrant_iff s l).mpr hholds⟩)
    · subst hopens
      rw [hgate]
      have hno : ¬(s.halt.mode = .armed ∧ s.holdsGrant l = true) := by
        rw [holdsGrant_iff]
        rintro ⟨harmed, hholds⟩
        obtain ⟨-, hnot⟩ | hrec := hmode
        · exact hnot hholds
        · rw [harmed] at hrec
          cases hrec
      refine congrArg _ ((if_neg hno).trans ((if_pos (hmode.imp_left And.left)).trans ?_))
      exact closeGate_eq ((s.without (.gateState l true)).notifyGate l) l
    · subst hopens
      rw [hgate]
      have hno (m : Mode) (hm : m = .armed ∨ m = .recovering) : s.halt.mode ≠ m := by
        rintro rfl
        obtain h | h | h := hmode <;> rw [h] at hm <;> exact absurd hm (by decide)
      exact congrArg _ ((if_neg fun k => hno .armed (.inl rfl) k.1).trans
        (if_neg fun k => k.elim (hno .armed (.inl rfl)) (hno .recovering (.inr rfl))))
    · subst hopens
      rw [hgate]
      rfl
    · subst hopens
      rw [hgate]
      rfl
    · subst hopens
      rw [hgate]
      rfl
    · subst hopens
      obtain hgate | hgate := hgate <;> rw [hgate]
    · subst hopens
      obtain hgate | hgate := hgate <;> rw [hgate]
  case expiry =>
    obtain ⟨hmerge, hsales, hport⟩ := withdraw_parts hgrant hhead
    refine ⟨s.withdraw, ?_, (withdraw_frame s).within (by decide), ?_, ?_, ?_, ?_, ?_, ?_, hport⟩
    · have hexec : exec .admitWindowExpiry s = execAdmitWindowExpiry s := rfl
      rw [hexec, execAdmitWindowExpiry, whenDue_eq _ hreset (by rw [htimer]; rfl), hgrant]
      rfl
    · rw [hmerge]; rfl
    · rw [hmerge]; rfl
    · rw [hmerge]; rfl
    · rw [State.mergeLane, hmerge]
      exact withGate_lane (m := { s.merge with grant := none, admitTimer := none }) _ (hs.merge ▸ hg)
    · rw [State.order, hsales]
      exact order_setOrder _ (hs.orders ▸ hr)
    · rw [hsales]; rfl

/-! ## Start requests and the conveyor's timers (R117, R119, R122) -/

theorem takeStart_stopped {s : State} (armed : s.halt.mode = .armed) (h : s.track.conveyor = .stopped) :
    s.takeStart = (s.setTrack { s.track with
      conveyor := .starting, drift := 0, commanded := s.speedLevel,
      startWait := some (s.param .startWait) }).toField s.driveAddr 0x31 [1, byte s.speedLevel] := by
  unfold State.takeStart
  rw [if_pos armed, h]
  rfl

theorem takeStart_stopping {s : State} (armed : s.halt.mode = .armed) (h : s.track.conveyor = .stopping) :
    s.takeStart = s.setTrack { s.track with pendingStart := true } := by
  unfold State.takeStart
  rw [if_pos armed, h]

theorem takeStart_stands {s : State}
    (h : s.halt.mode ≠ .armed ∨ s.track.conveyor = .starting ∨ s.track.conveyor = .moving) : s.takeStart = s := by
  unfold State.takeStart
  by_cases armed : s.halt.mode = .armed
  · obtain h | h := h.resolve_left (not_not_intro armed) <;> rw [if_pos armed, h]
  · exact if_neg armed

theorem exec_startRequest {s : State} (reset : s.inReset = false) (h : s.startRequested = true) :
    exec .startRequest s = .next (s.setStartRequested false).takeStart := by
  have hexec : exec .startRequest s = execStartRequest s := rfl
  rw [hexec, execStartRequest, whenDue_eq _ reset h]

theorem exec_startWaitExpiry {s : State} (reset : s.inReset = false) (h : s.track.startWait = some 0) :
    exec .startWaitExpiry s = .next ((s.setTrack { s.track with startWait := none }).raiseCause .driveNoStart
      { CauseDetail.empty with node := s.driveAddr }) := by
  have hexec : exec .startWaitExpiry s = execStartWaitExpiry s := rfl
  rw [hexec, execStartWaitExpiry, whenDue_eq _ reset (by rw [h]; rfl)]

theorem exec_stopWaitExpiry {s : State} (reset : s.inReset = false) (h : s.track.stopWait = some 0) :
    exec .stopWaitExpiry s = .next ((s.setTrack { s.track with stopWait := none }).raiseCause .driveNoStop
      { CauseDetail.empty with node := s.driveAddr }) := by
  have hexec : exec .stopWaitExpiry s = execStopWaitExpiry s := rfl
  rw [hexec, execStopWaitExpiry, whenDue_eq _ reset (by rw [h]; rfl)]

/-- A normal stop, said once (R118, R122). -/
theorem stopConveyor_eq (s : State) : s.stopConveyor = (s.setTrack { s.track with
    conveyor := .stopping, stopWait := some (s.param .stopWait), idle := none }).toFieldUrgent s.driveAddr 0x31 [2, 0] := rfl

theorem exec_idleTimerExpiry {s : State} (reset : s.inReset = false) (h : s.track.idle = some 0) :
    exec .idleTimerExpiry s = .next s.stopConveyor := by
  have hexec : exec .idleTimerExpiry s = execIdleTimerExpiry s := rfl
  rw [hexec, execIdleTimerExpiry, whenDue_eq _ reset (by rw [h]; rfl)]

/-- Settles O40: a start request by the conveyor's state, and each timer's expiry at its moment. -/
theorem startRequestAndConveyorTimers : Obligations.StartRequestAndConveyorTimers :=
  ⟨fun _ => ⟨takeStart_stands, takeStart_stopping, takeStart_stopped⟩,
    fun _ hreset => ⟨exec_startRequest hreset, exec_startWaitExpiry hreset, exec_stopWaitExpiry hreset,
      exec_idleTimerExpiry hreset⟩⟩

end Sys2Proof.Machine
end

section
/-!
The tail of the Car List and the drive's reports (R118, R130 to R132): the rear edge, the wheel switch, the roller and
Table 6-2, with the obligations O35 and O39.
-/
namespace Sys2Proof.Machine

-- Proofs in order: a thread that waits for another proof counts against the check's memory limit.
set_option Elab.async false

/-! ## The rear edge (R130) -/

theorem exec_entryEyeClear {src : Nat} {s : State} (h : Taken (.entryEyeClear src) s) :
    exec (.entryEyeClear src) s =
      .next ((s.without (.entryEyeClear src)).setMerge { s.merge with entryBlocked := false }).rearEdge.review :=
  (taking_eq _ h rfl).trans rfl

/-- An ENTERING tail shows its rear. -/
theorem rearEdge_entering {s : State} {c : Car} (tail : s.tailCar = some c) (state : c.state = .entering) :
    s.rearEdge = s.measure c := by
  unfold State.rearEdge
  rw [tail]
  exact if_pos state

/-- A rear edge without an ENTERING tail belongs to no car. -/
theorem rearEdge_stray {s : State} (h : ∀ c, s.tailCar = some c → c.state ≠ .entering) : s.rearEdge = s.strayRear := by
  unfold State.rearEdge
  cases tail : s.tailCar with
  | none => rfl
  | some c => exact if_neg (h c tail)

theorem measure_fits {s : State} {c : Car} (h : c.front ≤ s.param .maxCarLen) :
    s.measure c = s.setTail { c with length := some c.front, state := .riding } := if_neg (Nat.not_lt.mpr h)

theorem measure_overlong {s : State} {c : Car} (h : s.param .maxCarLen < c.front) :
    s.measure c = (s.setTail { c with length := some c.front, state := .riding }).raiseCause .overlength
      { CauseDetail.empty with car := some c.tag, arg := some c.front } := if_pos h

/-! ## The wheel switch (R131) -/

theorem exec_wheelSwitchEdge {src : Nat} {blocked : Bool} {s : State} (h : Taken (.wheelSwitchEdge src blocked) s) :
    exec (.wheelSwitchEdge src blocked) s = .next (
      let t := s.without (.wheelSwitchEdge src blocked)
      if blocked = false ∨ s.halt.mode = .offline then t
      else match t.tailCar with
        | none => t.ignoreWheel none
        | some c =>
          if c.roller = .waiting ∧ c.front ≤ s.param .rollerLimit then (t.setTail { c with roller := .called }).driveCmd 3 0
          else t.ignoreWheel (some c.tag)) := (taking_eq _ h rfl).trans rfl

/-- Settles O35: the tail car's state decides the rear edge, its roller and its travel the wheel switch. -/
theorem rearEdgeAndWheelSwitchActOnTheTail : Obligations.RearEdgeAndWheelSwitchActOnTheTail := by
  refine ⟨fun src s htaken => ?rear, fun src blocked s htaken => ?wheel⟩
  case rear =>
    dsimp only
    rw [exec_entryEyeClear htaken]
    refine ⟨fun d htail hstate => ?_, fun hstray => ?_⟩
    · have hedge := rearEdge_entering
        (s := (s.without (.entryEyeClear src)).setMerge { s.merge with entryBlocked := false }) htail hstate
      rw [hedge]
      exact ⟨fun h => congrArg (fun t => Host.Outcome.next (State.review t)) (measure_fits h),
        fun h => congrArg (fun t => Host.Outcome.next (State.review t)) (measure_overlong h)⟩
    · have hedge := rearEdge_stray
        (s := (s.without (.entryEyeClear src)).setMerge { s.merge with entryBlocked := false }) hstray
      rw [hedge]
      exact ⟨fun h => congrArg (fun t => Host.Outcome.next (State.review t)) (if_pos h),
        fun h => congrArg (fun t => Host.Outcome.next (State.review t)) (if_neg h)⟩
  case wheel =>
    dsimp only
    rw [exec_wheelSwitchEdge htaken]
    refine ⟨fun h => congrArg _ (if_pos h), fun hblocked hmode => ?_⟩
    have hheard : ¬(blocked = false ∨ s.halt.mode = .offline) := by
      rw [hblocked]
      exact fun h => h.elim (fun h => Bool.noConfusion h) hmode
    dsimp only
    rw [if_neg hheard]
    have htailCar : (s.without (.wheelSwitchEdge src blocked)).tailCar = s.tailCar := rfl
    rw [htailCar]
    refine ⟨fun htail => ?_, fun d htail => ⟨fun hroller hfront => ?_, fun hother => ?_⟩⟩
    · rw [htail]
      rfl
    · rw [htail]
      exact congrArg _ (if_pos ⟨hroller, hfront⟩)
    · rw [htail]
      refine congrArg _ (if_neg fun h => ?_)
      exact hother.elim (fun k => k h.1) fun k => absurd h.2 (Nat.not_le.mpr k)

/-! ## The roller (R132) -/

theorem engageCalled_none {l : List Car} (h : ∀ x ∈ l, x.roller ≠ .called) : engageCalled l = none := by
  induction l with
  | nil => rfl
  | cons c l ih =>
    rw [engageCalled, if_neg (h c List.mem_cons_self), ih fun x hx => h x (List.mem_cons_of_mem _ hx)]
    rfl

/-- The head-most CALLED roller is the one that engages. -/
theorem engageCalled_first {before after : List Car} {x : Car} (hx : x.roller = .called)
    (h : ∀ y ∈ before, y.roller ≠ .called) :
    engageCalled (before ++ x :: after) = some (before ++ { x with roller := .engaged } :: after) := by
  induction before with
  | nil => exact if_pos hx
  | cons c before ih =>
    rw [List.cons_append, engageCalled, if_neg (h c List.mem_cons_self),
      ih fun y hy => h y (List.mem_cons_of_mem _ hy)]
    rfl

theorem judgeRoller_idle {s : State} {roller : Bool} (h : ¬(roller = true ∧ s.track.roller = false)) :
    s.judgeRoller roller = s := if_neg h

theorem judgeRoller_engages {s : State} {roller : Bool} {l : List Car} (h : roller = true ∧ s.track.roller = false)
    (hl : engageCalled s.track.cars = some l) : s.judgeRoller roller = s.setCars l := by
  unfold State.judgeRoller
  rw [if_pos h, hl]

theorem judgeRoller_noticed {s : State} {roller : Bool} (h : roller = true ∧ s.track.roller = false)
    (hl : engageCalled s.track.cars = none) : s.judgeRoller roller = s.notifyTrack 10 none none := by
  unfold State.judgeRoller
  rw [if_pos h, hl]

/-- A list with a CALLED roller splits at the head-most one. -/
theorem exists_first_called {l : List Car} (h : ∃ x ∈ l, x.roller = .called) :
    ∃ before x after, l = before ++ x :: after ∧ x.roller = .called ∧ ∀ y ∈ before, y.roller ≠ .called := by
  induction l with
  | nil => obtain ⟨x, hx, -⟩ := h; cases hx
  | cons c l ih =>
    by_cases hc : c.roller = .called
    · exact ⟨[], c, l, rfl, hc, fun y hy => by cases hy⟩
    · obtain ⟨x, hx, hcalled⟩ := h
      obtain rfl | hx := List.mem_cons.mp hx
      · exact absurd hcalled hc
      · obtain ⟨before, y, after, rfl, hy, hbefore⟩ := ih ⟨x, hx, hcalled⟩
        exact ⟨c :: before, y, after, rfl, hy, List.forall_mem_cons.mpr ⟨hc, hbefore⟩⟩

/-- What the judging of a roller flag leaves of the Car List. -/
structure RollerJudged (roller : Bool) (s t : State) : Prop where
  frame : SameExcept [.track, .mgmt] s t
  params : t.mgmt.params = s.mgmt.params
  track : ∃ cars, t.track = { s.track with cars := cars } ∧
    (¬(roller = true ∧ s.track.roller = false) → cars = s.track.cars) ∧
    (roller = true ∧ s.track.roller = false → (∀ x ∈ s.track.cars, x.roller ≠ .called) → cars = s.track.cars) ∧
    (roller = true ∧ s.track.roller = false → ∀ before x after, s.track.cars = before ++ x :: after →
      x.roller = .called → (∀ y ∈ before, y.roller ≠ .called) →
      cars = before ++ { x with roller := .engaged } :: after)
  noticed : roller = true ∧ s.track.roller = false → (∀ x ∈ s.track.cars, x.roller ≠ .called) →
    Noticed .track (reason 10) t
  quiet : ¬(roller = true ∧ s.track.roller = false) ∨ (∃ x ∈ s.track.cars, x.roller = .called) → t.mgmt = s.mgmt

theorem judgeRoller_judged {s : State} (roller : Bool) (h : s.mgmt.notices.length = 8) :
    RollerJudged roller s (s.judgeRoller roller) := by
  by_cases confirmed : roller = true ∧ s.track.roller = false
  · by_cases called : ∃ x ∈ s.track.cars, x.roller = .called
    · have someCalled : ¬∀ x ∈ s.track.cars, x.roller ≠ .called := by
        obtain ⟨x, hx, hcalled⟩ := called
        exact fun h => h x hx hcalled
      obtain ⟨before, x, after, hcars, hx, hbefore⟩ := exists_first_called called
      rw [judgeRoller_engages confirmed (hcars ▸ engageCalled_first hx hbefore)]
      refine ⟨(setTrack_frame ..).within (by decide), rfl, ⟨_, rfl, fun hnot => absurd confirmed hnot,
        fun _ hnone => absurd hnone someCalled, fun _ b y a hsplit hy hb => ?_⟩,
        fun _ hnone => absurd hnone someCalled, fun _ => rfl⟩
      have same := (engageCalled_first (after := after) hx hbefore).symm.trans
        ((congrArg engageCalled (hcars.symm.trans hsplit)).trans (engageCalled_first hy hb))
      exact Option.some.inj same
    · have noneCalled : ∀ x ∈ s.track.cars, x.roller ≠ .called := fun x hx hcalled => called ⟨x, hx, hcalled⟩
      rw [judgeRoller_noticed confirmed (engageCalled_none noneCalled)]
      refine ⟨(notifyTrack_frame ..).within (by decide), rfl, ⟨_, rfl, fun _ => rfl, fun _ _ => rfl,
        fun _ before x after hsplit hx _ => ?_⟩, fun _ _ => notify_noticed _ _ _ h, fun hother => ?_⟩
      · exact absurd hx (noneCalled x (by rw [hsplit]; exact List.mem_append_right _ List.mem_cons_self))
      · exact hother.elim (fun hnot => absurd confirmed hnot) fun hcalled => absurd hcalled called
  · rw [judgeRoller_idle confirmed]
    exact ⟨.refl, rfl, ⟨_, rfl, fun _ => rfl, fun _ _ => rfl, fun hyes => absurd hyes confirmed⟩,
      fun hyes => absurd hyes confirmed, fun _ => rfl⟩

/-! ## Drive reports (R118, Table 6-2) -/

theorem exec_driveState {src level : Nat} {report : DriveReport} {roller : Bool} {s : State}
    (h : Taken (.driveState src report level roller) s) :
    exec (.driveState src report level roller) s = .next (
      let t := ((s.without (.driveState src report level roller)).judgeRoller roller).recordReport report level roller
      match (generalizing := false) report with
      | .running => t.runningReport
      | .stopped => t.stoppedReport
      | .fault => t.raiseCause .driveFault { CauseDetail.empty with node := some src }) := by
  refine (taking_eq _ h rfl).trans ?_
  cases report <;> rfl

theorem runningReport_stopped {s : State} (stopped : s.track.conveyor = .stopped) :
    s.runningReport = if s.halt.mode = .armed then (s.notifyTrack 5 none none).stopConveyor else s := by
  unfold State.runningReport
  rw [stopped]

theorem runningReport_starting {s : State} (starting : s.track.conveyor = .starting) :
    s.runningReport = (s.setTrack { s.track with conveyor := .moving, startWait := none }).judgeSpeed.review := by
  unfold State.runningReport
  rw [starting]

theorem runningReport_stands {s : State} (h : s.track.conveyor = .moving ∨ s.track.conveyor = .stopping) :
    s.runningReport = s := by
  unfold State.runningReport
  obtain h | h := h <;> rw [h]

theorem stoppedReport_stands {s : State} (h : s.track.conveyor = .stopped ∨ s.track.conveyor = .starting) :
    s.stoppedReport = s := by
  unfold State.stoppedReport
  obtain h | h := h <;> rw [h]

theorem stoppedReport_moving {s : State} (h : s.track.conveyor = .moving) : s.stoppedReport = s.ownStop := by
  unfold State.stoppedReport
  rw [h]

theorem stoppedReport_stopping {s : State} (h : s.track.conveyor = .stopping) : s.stoppedReport = s.conveyorStopped := by
  unfold State.stoppedReport
  rw [h]

/-- A conveyor that stands takes a start that was pending. -/
theorem conveyorStopped_eq (s : State) : s.conveyorStopped =
    let t := s.setTrack { s.track with conveyor := .stopped, stopWait := none, pendingStart := false }
    if s.track.pendingStart = true ∧ s.halt.mode = .armed then t.takeStart else t := by
  unfold State.conveyorStopped
  dsimp only
  by_cases h : s.track.pendingStart = true ∧ s.halt.mode = .armed
  · rw [if_pos h, if_pos h]
    exact ((if_pos h.2).trans rfl).symm
  · rw [if_neg h, if_neg h]

/-- Whether nobody is coming rests on the cars, the grant and the orders. -/
theorem nobodyComing_congr {s t : State} (cars : t.track.cars.isEmpty = s.track.cars.isEmpty) (merge : t.merge = s.merge)
    (sales : t.sales = s.sales) : t.nobodyComing = s.nobodyComing := by
  rw [State.nobodyComing, State.nobodyComing, State.someStaged, State.someStaged, cars, merge, sales]

theorem judgeRoller_isEmpty (s : State) (roller : Bool) :
    (s.judgeRoller roller).track.cars.isEmpty = s.track.cars.isEmpty := by
  unfold State.judgeRoller
  split
  · split
    next l hl =>
      have len : l.length = s.track.cars.length := by
        simpa using congrArg List.length (engageCalled_key hl)
      change l.isEmpty = s.track.cars.isEmpty
      cases l with
      | nil => rw [List.eq_nil_of_length_eq_zero len.symm]
      | cons c l =>
        cases hcars : s.track.cars with
        | nil => rw [hcars] at len; cases len
        | cons _ _ => rfl
    · rfl
  · rfl

/-- Settles O39: the roller is judged and the report recorded, then Table 6-2 goes by the conveyor's state. -/
theorem driveReportsFollowTable : Obligations.DriveReportsFollowTable := by
  intro src report level roller s hs htaken
  dsimp only
  have judged := judgeRoller_judged (s := s.without (.driveState src report level roller)) roller hs.notices
  have hempty := judgeRoller_isEmpty (s.without (.driveState src report level roller)) roller
  rw [exec_driveState htaken]
  dsimp only
  generalize (s.without (.driveState src report level roller)).judgeRoller roller = u at judged hempty
  obtain ⟨hframe, hparams, ⟨cars, htrack, hcars⟩, hnoticed, hquiet⟩ := judged
  have hv : SameExcept [.track, .mgmt, .handed] s (u.recordReport report level roller) :=
    ((setHanded_frame s _).within (by decide)).trans ((hframe.within (by decide)).trans
      ((setTrack_frame ..).within (by decide)))
  have hrecorded : (u.recordReport report level roller).track = { s.track with
      lastReport := some report, roller := roller, cars := cars,
      reported := if report = .running then level else s.track.reported } := by
    unfold State.recordReport
    rw [State.setTrack_track, htrack]
    rfl
  have hmgmt : (u.recordReport report level roller).mgmt = u.mgmt := rfl
  have hparam (p : Config.Param) : (u.recordReport report level roller).param p = s.param p := congrArg (·.getD p.index 0) hparams
  have hvempty : (u.recordReport report level roller).track.cars.isEmpty = s.track.cars.isEmpty := hempty
  generalize u.recordReport report level roller = v at hv hrecorded hmgmt hparam hvempty
  have hconv : v.track.conveyor = s.track.conveyor := by rw [hrecorded]
  have hpending : v.track.pendingStart = s.track.pendingStart := by rw [hrecorded]
  have hhalt : v.halt = s.halt := hv.same .halt (by decide)
  have hdrive : v.driveAddr = s.driveAddr := driveAddr_of_nodes (hv.same .nodes (by decide))
  have hnobody : v.nobodyComing = s.nobodyComing :=
    nobodyComing_congr hvempty (hv.same .merge (by decide)) (hv.same .sales (by decide))
  refine ⟨v, hv, ⟨cars, hrecorded, hcars⟩, fun hc hx => ?_, fun h => hmgmt.trans (hquiet h), fun h => ?fault,
    fun h => ?running, fun h => ?stopped⟩
  · exact (show (Noticed .track (reason 10) v) ↔ Noticed .track (reason 10) u by simp only [Noticed, hmgmt]).mpr
      (hnoticed hc hx)
  case fault => subst h; rfl
  case running =>
    subst h
    refine ⟨fun hc harmed => ?_, fun hc harmed => ?_, fun hc => ?_, fun hc => ?_⟩
    · refine congrArg _ ((runningReport_stopped (hconv.trans hc)).trans ((if_pos (by rw [hhalt]; exact harmed)).trans ?_))
      rw [← hparam, ← hdrive]
      exact stopConveyor_eq _
    · exact congrArg _ ((runningReport_stopped (hconv.trans hc)).trans (if_neg (by rw [hhalt]; exact harmed)))
    · exact congrArg _ (runningReport_starting (hconv.trans hc))
    · exact congrArg _ (runningReport_stands (by rw [hconv]; exact hc))
  case stopped =>
    subst h
    refine ⟨fun hc => ?_, fun hc => ⟨fun hno => ?_, fun hsome => ?_⟩, fun hc => ⟨fun hp harmed => ?_, fun hother => ?_⟩⟩
    · exact congrArg _ (stoppedReport_stands (by rw [hconv]; exact hc))
    · exact congrArg _ ((stoppedReport_moving (hconv.trans hc)).trans
        (if_pos (hnobody.trans ((nobodyComing_iff s).mpr hno))))
    · exact congrArg _ ((stoppedReport_moving (hconv.trans hc)).trans
        (if_neg (by rw [hnobody, nobodyComing_iff]; exact hsome)))
    · exact congrArg _ ((stoppedReport_stopping (hconv.trans hc)).trans ((conveyorStopped_eq v).trans
        (if_pos ⟨hpending.trans hp, by rw [hhalt]; exact harmed⟩)))
    · refine congrArg _ ((stoppedReport_stopping (hconv.trans hc)).trans ((conveyorStopped_eq v).trans
        (if_neg fun k => ?_)))
      rw [hpending, hhalt] at k
      exact hother.elim (fun h => Bool.noConfusion (h.symm.trans k.1)) fun h => h k.2

end Sys2Proof.Machine
end

section
/-!
Stations and causes (R149 to R156, R163 to R170, R174): the actuator's reports, going in and out of service, the causes taken
outside a running tunnel, and the end of the halt wait, with the obligations O41, O42, O43 and O46.
-/
namespace Sys2Proof.Machine

-- Proofs in order: a thread that waits for another proof counts against the check's memory limit.
set_option Elab.async false

/-! ## Stations -/

theorem used_iff (st : Station) : Station.used st = true ↔ st.actuator ≠ none := Option.isSome_iff_ne_none

theorem working_iff (st : Station) : Station.working st = true ↔ st.activity = .engaged ∨ st.activity = .backoff := by
  simp [Station.working]

/-- A frame sent to the field and a station written do not meet. -/
theorem toField_setStations (s : State) (v : List Station) (d : Option Nat) (k : Byte) (l : List Byte) :
    (s.setStations v).toField d k l = (s.toField d k l).setStations v := by
  cases d with
  | none => rfl
  | some a =>
    unfold State.toField State.offerNormal
    dsimp only
    split
    next h =>
      rw [if_pos (c := (s.port .f).normal.length < Config.normalSize) h]
      rfl
    next h =>
      rw [if_neg (c := (s.port .f).normal.length < Config.normalSize) h]
      unfold State.noteLost
      split <;> rfl

theorem toField_stations (s : State) (d : Option Nat) (k : Byte) (l : List Byte) :
    (s.toField d k l).stations = s.stations := (toField_frame ..).same .stations (by decide)

/-- A station written before and after a frame to the field is written once. -/
theorem setStation_toField_setStation (s : State) (i : Nat) (v w : Station) (d : Option Nat) (k : Byte) (l : List Byte) :
    ((s.setStation i v).toField d k l).setStation i w = (s.toField d k l).setStation i w := by
  have stations := toField_stations s d k l
  change ((s.setStations (s.stations.set i v)).toField d k l).setStation i w = _
  rw [toField_setStations, ← stations]
  exact setStation_twice (s.toField d k l) i v w

/-! ## Going out of service (R155) -/

/-- Port F once a station went out of service, read from any state with the same stations and port. -/
theorem outOfService_retracts {s u : State} (stations : u.stations = s.stations) (port : u.portF = s.portF) (i : Nat)
    (r : OutReason) : (u.outOfService i r).portF =
      if (s.station i).activity = .engaged ∨ (s.station i).activity = .backoff then
        (s.toFieldUrgent (s.station i).actuator 0x30 [3, 0]).portF
      else s.portF := by
  rw [outOfService_portF, station_congr stations, toFieldUrgent_portF s u _ _ _ port, port]
  exact ite_cond_congr (propext (working_iff _))

/-- The notice of a station out of service. -/
theorem outOfService_noticed {s : State} {r : OutReason} {n : Nat} (i : Nat) (h : s.mgmt.notices.length = 8)
    (hr : outNotice r = some n) : Noticed .station { reason n with place := some i } (s.outOfService i r) := by
  rw [outOfService_eq, hr]
  exact notify_noticed _ _ _ (by rw [outCascaded_notices]; exact h)

/-! ## Actuator reports (R149, R154, R169) -/

theorem exec_actState {i : Nat} {rep : ActReport} {s : State} (h : Taken (.actState i rep) s) :
    exec (.actState i rep) s = .next (
      let t := s.without (.actState i rep)
      if Station.used (s.station i) then
        match (generalizing := false) rep with
        | .engaged => t.engagedReport i
        | .retracted => t.retractedReport i
        | .parked => t.retractedReport i
      else t) := by
  refine (taking_eq _ h rfl).trans ?_
  cases rep <;> rfl

theorem exec_actStateFault {i : Nat} {s : State} (h : Taken (.actStateFault i) s) :
    exec (.actStateFault i) s = .next (
      let t := s.without (.actStateFault i)
      if Station.used (s.station i) then t.outOfService i .actFault else t) := (taking_eq _ h rfl).trans rfl

theorem confirmStation_stands {s : State} {i : Nat} (h : s.halt.mode ≠ .halting ∨ i ∉ s.halt.awaitStations) :
    s.confirmStation i = s := if_neg fun k => h.elim (fun h => h k.1) fun h => h k.2

theorem confirmStation_awaited {s : State} {i : Nat} (mode : s.halt.mode = .halting) (h : i ∈ s.halt.awaitStations) :
    s.confirmStation i = (s.setHalt { s.halt with awaitStations := s.halt.awaitStations.erase i }).endWait :=
  if_pos ⟨mode, h⟩

/-- Settles O41: Table 7-2 by the station's activity, and a fault as a station out of service. -/
theorem actuatorReportsMoveTheStation : Obligations.ActuatorReportsMoveTheStation := by
  refine ⟨fun i rep s hi hs htaken => ?report, fun i s hi hs htaken => ?fault⟩
  case report =>
    dsimp only
    rw [exec_actState htaken]
    dsimp only
    refine ⟨fun hfree => ?_, fun hused hrep => ⟨fun hidle hmode => ?_, fun hother => ?_⟩, fun hused hrep => ?_⟩
    · exact congrArg _ (if_neg fun h => (used_iff _).mp h hfree)
    · subst hrep
      rw [if_pos ((used_iff _).mpr hused)]
      exact congrArg _ (if_pos ⟨hidle, hmode⟩)
    · subst hrep
      rw [if_pos ((used_iff _).mpr hused)]
      exact congrArg _ (if_neg fun h => hother.elim (fun k => k h.1) h.2)
    · have hreport : (match (generalizing := false) rep with
          | .engaged => (s.without (.actState i rep)).engagedReport i
          | .retracted => (s.without (.actState i rep)).retractedReport i
          | .parked => (s.without (.actState i rep)).retractedReport i) =
          (s.without (.actState i rep)).retractedReport i := by
        obtain rfl | rfl := hrep <;> rfl
      rw [if_pos ((used_iff _).mpr hused), hreport]
      have hw (w : State) (hw : w.halt = s.halt) :
          (s.halt.mode ≠ .halting ∨ i ∉ s.halt.awaitStations → w.confirmStation i = w) ∧
          (s.halt.mode = .halting → i ∈ s.halt.awaitStations → w.confirmStation i =
            (w.setHalt { s.halt with awaitStations := s.halt.awaitStations.erase i }).endWait) := by
        rw [← hw]
        exact ⟨confirmStation_stands, confirmStation_awaited⟩
      obtain ⟨stands, confirms⟩ := hw (if (s.station i).activity = .retracting then
        (s.without (.actState i rep)).setStation i { s.station i with
          activity := .idle, car := none, backoffs := 0, stepsLeft := 0 }
        else s.without (.actState i rep)) (by split <;> rfl)
      exact ⟨fun h => congrArg _ (stands h), fun h k => congrArg _ (confirms h k)⟩
  case fault =>
    dsimp only
    rw [exec_actStateFault htaken]
    refine ⟨fun hfree => congrArg _ (if_neg fun h => (used_iff _).mp h hfree), fun hused => ?_⟩
    have hlen : i < (s.without (.actStateFault i)).stations.length := by
      rw [show (s.without (.actStateFault i)).stations = s.stations from rfl, hs.stations]
      exact hi
    refine ⟨_, congrArg _ (if_pos ((used_iff _).mpr hused)), (outOfService_frame ..).same .halt (by decide),
      outOfService_station hlen _, fun k hk => outOfService_station_ne _ hk _, outOfService_noticed _ hs.notices rfl,
      outOfService_retracts (s := s) (u := s.without _) rfl rfl .., fun h => (outOfService_kept (s := s.without _) h).1, fun hin hlost => ⟨?_, ?_⟩⟩
    · rw [outOfService_sales, outCascaded_lost (s := s.without _) hin ((used_iff _).mpr hused) hlost]
      rfl
    · rw [outOfService_eq, outCascaded_lost (s := s.without _) hin ((used_iff _).mpr hused) hlost]
      refine notify_keeps _ _ _ _ _ (by decide) (notify_noticed _ _ _ ?_)
      rw [State.setSales_mgmt, outWritten_mgmt]
      exact hs.notices

/-! ## Currents and service (R150, R152, R155, R156) -/

theorem exec_current {i value : Nat} {s : State} (h : Taken (.current i value) s) :
    exec (.current i value) s = .next (
      let u := s.without (.current i value)
      let st := s.station i
      if Station.used st = true ∧ st.kind = .touch then
        let t := u.setStation i { st with lastCurrent := value }
        if st.activity = .engaged ∧ st.limit < value then t.backOff i
        else if st.activity = .idle ∧ st.limit < value ∧ st.inService = true then t.outOfService i .jammed
        else t
      else u) := (taking_eq _ h rfl).trans rfl

/-- The station as it backs off from a current. -/
def Station.backedOff (st : Station) : Station :=
  { st with activity := .backoff, backoffs := min 7 (st.backoffs + 1), stepsLeft := st.backLen }

theorem backOff_eq (s : State) (i : Nat) : s.backOff i =
    let v := (s.toField (s.station i).actuator 0x30 [2, 0]).setStation i (s.station i).backedOff
    if (s.station i).bind ≤ min 7 ((s.station i).backoffs + 1) then
      v.raiseCause .brushBind { CauseDetail.empty with station := some i, car := (s.station i).car }
    else v := rfl

/-- The record of a current, and the backing off that follows it, as one write. -/
theorem backOff_recorded {u : State} {i value : Nat} (hi : i < u.stations.length) :
    (u.setStation i { u.station i with lastCurrent := value }).backOff i =
      let v := (u.toField (u.station i).actuator 0x30 [2, 0]).setStation i
        { (u.station i).backedOff with lastCurrent := value }
      if (u.station i).bind ≤ min 7 ((u.station i).backoffs + 1) then
        v.raiseCause .brushBind { CauseDetail.empty with station := some i, car := (u.station i).car }
      else v := by
  rw [backOff_eq, station_setStation _ hi]
  dsimp only
  rw [setStation_toField_setStation]
  rfl

theorem exec_stationService {seq b dir : Byte} {rest : List Byte} {s : State}
    (h : Taken (.stationService seq (b :: dir :: rest)) s) :
    exec (.stationService seq (b :: dir :: rest)) s = .next (
      let u := s.without (.stationService seq (b :: dir :: rest))
      let i := b.toNat
      if 23 < i then u.reply seq 11 .badIndex [b]
      else if dir ≠ 1 ∧ dir ≠ 2 then u.reply seq 11 .badValue []
      else if Station.used (s.station i) = false then u.reply seq 11 .notFound []
      else if dir = 2 then (u.serviceOut i).reply seq 11 .ok []
      else if u.actuatorSilent i then u.reply seq 11 .conditionPresent []
      else (u.backInService i).reply seq 11 .ok []) := (taking_eq _ h rfl).trans rfl

theorem actuatorSilent_eq {s : State} {i a : Nat} (h : (s.station i).actuator = some a) :
    s.actuatorSilent i = (s.node a).silent := by
  unfold State.actuatorSilent
  rw [h]

theorem serviceOut_out {s : State} {i : Nat} (h : (s.station i).inService = false) :
    s.serviceOut i = s.toField (s.station i).actuator 0x30 [4, 0] := by
  unfold State.serviceOut
  rw [if_neg (by rw [h]; decide)]
  rfl

theorem afterOut_actuator (st : Station) (r : OutReason) : (Station.afterOut st r).actuator = st.actuator := by
  cases r with
  | management =>
    unfold Station.afterOut
    dsimp only
    split <;> rfl
  | _ => rfl

theorem serviceOut_in {s : State} {i : Nat} (hi : i < s.stations.length) (h : (s.station i).inService = true) :
    s.serviceOut i = (s.outOfService i .management).toField (s.station i).actuator 0x30 [4, 0] := by
  have actuator : ((s.outOfService i .management).station i).actuator = (s.station i).actuator := by
    rw [outOfService_station hi]
    exact afterOut_actuator ..
  unfold State.serviceOut
  rw [if_pos h, State.stationCmd, actuator]
  rfl

/-- What Management's request leaves of a station (Table 7-4). -/
theorem afterOut_management (st : Station) : { Station.afterOut st .management with inService := false } = { st with
    inService := false,
    activity := if st.activity = .engaged ∨ st.activity = .backoff then .retracting else st.activity } := by
  unfold Station.afterOut
  dsimp only
  by_cases h : st.activity = .engaged ∨ st.activity = .backoff
  · rw [if_pos ((working_iff st).mpr h), if_pos h]
  · rw [if_neg (mt (working_iff st).mp h), if_neg h]

/-- Settles O42: a current by the station's activity, and the service request's two directions. -/
theorem currentAndServiceMoveTheStation : Obligations.CurrentAndServiceMoveTheStation := by
  refine ⟨fun i value s hi hs htaken => ?current, fun seq b dir rest s hs htaken => ?service⟩
  case current =>
    dsimp only
    rw [exec_current htaken]
    dsimp only
    have hlen : i < (s.without (.current i value)).stations.length := by
      rw [show (s.without (.current i value)).stations = s.stations from rfl, hs.stations]
      exact hi
    have hwatched (h : (s.station i).actuator ≠ none ∧ (s.station i).kind = .touch) :
        Station.used (s.station i) = true ∧ (s.station i).kind = .touch := ⟨(used_iff _).mpr h.1, h.2⟩
    refine ⟨fun hnot => ?_, fun hw hengaged hover => ?_, fun hw hidle hover hin => ?_, fun hw hother => ?_⟩
    · exact congrArg _ (if_neg fun h => hnot ⟨(used_iff _).mp h.1, h.2⟩)
    · rw [if_pos (hwatched hw), if_pos ⟨hengaged, hover⟩]
      have hback := backOff_recorded (value := value) hlen
      refine ⟨fun hbind => congrArg _ (hback.trans (if_neg (Nat.not_le.mpr hbind))), fun hbind => ?_⟩
      exact congrArg _ (hback.trans (if_pos hbind))
    · have hnotEngaged : ¬((s.station i).activity = .engaged ∧ (s.station i).limit < value) := by
        rw [hidle]
        exact fun h => nomatch h.1
      rw [if_pos (hwatched hw), if_neg hnotEngaged, if_pos ⟨hidle, hover, hin⟩]
      have hset := station_setStation (s := s.without (.current i value)) { s.station i with lastCurrent := value } hlen
      have hstation := outOfService_station
        (s := (s.without (.current i value)).setStation i { s.station i with lastCurrent := value }) (i := i)
        (by rw [State.setStation, State.setStations_stations, List.length_set]; exact hlen) .jammed
      rw [hset] at hstation
      refine ⟨_, rfl, ?_, fun k hk => ?_, ?_, outOfService_noticed _ hs.notices rfl⟩
      · rw [hstation]
        exact congrArg (fun a => { s.station i with
          lastCurrent := value, inService := false, activity := a, car := none, backoffs := 0, stepsLeft := 0 }) hidle.symm
      · exact (outOfService_station_ne _ hk _).trans (station_setStation_ne _ _ hk)
      · rw [outOfService_portF, hset]
        exact if_neg (by rw [working_iff]; rw [hidle]; decide)
    · have h1 : ¬((s.station i).activity = .engaged ∧ (s.station i).limit < value) := by
        rintro ⟨h1, h2⟩
        rw [h1] at hother
        simp at hother
        omega
      have h2 : ¬((s.station i).activity = .idle ∧ (s.station i).limit < value ∧ (s.station i).inService = true) := by
        rintro ⟨h1, h2, h3⟩
        rw [h1, h3] at hother
        simp at hother
        omega
      rw [if_pos (hwatched hw), if_neg h1, if_neg h2]
  case service =>
    dsimp only
    rw [exec_stationService htaken]
    dsimp only
    have hdir (h : dir = 1 ∨ dir = 2) : ¬(dir ≠ 1 ∧ dir ≠ 2) := fun k => h.elim k.1 k.2
    have hrange (h : b.toNat ≤ 23) : ¬23 < b.toNat := Nat.not_lt.mpr h
    refine ⟨fun h => congrArg _ (if_pos h), fun h h1 h2 => ?_, fun h hd hfree => ?_, fun a h hact => ?_⟩
    · rw [if_neg (hrange h), if_pos ⟨h1, h2⟩]
    · have hunused : Station.used (s.station b.toNat) = false :=
        Bool.eq_false_iff.mpr fun k => (used_iff _).mp k hfree
      rw [if_neg (hrange h), if_neg (hdir hd), if_pos hunused]
    · have hused : ¬Station.used (s.station b.toNat) = false := by
        rw [(used_iff (s.station b.toNat)).mpr (by rw [hact]; exact Option.some_ne_none a)]
        decide
      have hlen : b.toNat < (s.without (.stationService seq (b :: dir :: rest))).stations.length := by
        rw [show (s.without (.stationService seq (b :: dir :: rest))).stations = s.stations from rfl, hs.stations]
        omega
      have hback := actuatorSilent_eq (s := s.without (.stationService seq (b :: dir :: rest))) hact
      rw [if_neg (hrange h)]
      refine ⟨fun hd hsilent => ?_, fun hd hheard => ?_, fun hd hout => ?_, fun hd hin => ?_⟩
      · rw [if_neg (hdir (.inl hd)), if_neg hused, if_neg (by rw [hd]; decide), if_pos (hback.trans hsilent)]
      · have hlive : ¬(s.without (.stationService seq (b :: dir :: rest))).actuatorSilent b.toNat = true := by
          rw [hback.trans hheard]
          decide
        rw [if_neg (hdir (.inl hd)), if_neg hused, if_neg (by rw [hd]; decide), if_neg hlive]
        rfl
      · rw [if_neg (hdir (.inr hd)), if_neg hused, if_pos hd,
          serviceOut_out (s := s.without (.stationService seq (b :: dir :: rest))) hout]
        rw [show ((s.without (.stationService seq (b :: dir :: rest))).station b.toNat).actuator = some a from hact]
      · refine ⟨(s.without (.stationService seq (b :: dir :: rest))).outOfService b.toNat .management, ?_, ?_,
          fun k hk => outOfService_station_ne _ hk _, ?_, fun hcovered => ?_⟩
        · rw [if_neg (hdir (.inr hd)), if_neg hused, if_pos hd, serviceOut_in hlen hin]
          rw [show ((s.without (.stationService seq (b :: dir :: rest))).station b.toNat).actuator = some a from hact]
        · exact (outOfService_station hlen _).trans (afterOut_management _)
        · rw [outOfService_retracts (s := s) (u := s.without _) rfl rfl, hact]
        · exact outOfService_kept (s := s.without _) (.inr hcovered)

/-! ## Causes (R163 to R165, R174) -/

/-- Outside a running tunnel a cause joins the set (R165). -/
theorem takeCause_joins {s : State} (k : CauseKind) (d : CauseDetail)
    (h : s.halt.mode = .offline ∨ s.halt.mode = .halting ∨ s.halt.mode = .halted) :
    s.takeCause k d = (s.setHalt (Halt.latch s.halt k d)).notifyHalt none (some k) := by
  unfold State.takeCause
  obtain h | h | h := h <;> rw [h]

theorem exec_stopActive {src : Nat} {s : State} (h : Taken (.stopActive src) s) :
    exec (.stopActive src) s = .next (((s.without (.stopActive src)).setHalt { s.halt with
      estopActive := if src ∈ s.halt.estopActive then s.halt.estopActive else s.halt.estopActive ++ [src] }).takeCause
        .estopNode { CauseDetail.empty with node := some src }) := (taking_eq _ h rfl).trans rfl

theorem exec_estopLineAsserted {s : State} (reset : s.inReset = false) : exec .estopLineAsserted s =
    .next (if s.halt.estopLine then s
      else (s.setHalt { s.halt with estopLine := true }).takeCause .estopLine CauseDetail.empty) :=
  (running_eq State.lineAsserted reset).trans rfl

/-- Settles O43: the three modes in which a cause joins the set, and each command that takes one. -/
theorem causeIsTakenByMode : Obligations.CauseIsTakenByMode := by
  refine ⟨fun k d s h => takeCause_joins k d h, fun k d s hreset hraised => ?_, fun src s htaken => ?_,
    fun s hreset => ⟨fun hline => ?_, fun hline => ?_⟩, fun seq args s htaken => (taking_eq _ htaken rfl).trans rfl⟩
  · have hexec : exec (.raiseCause k d) s = execRaiseCause k d s := rfl
    rw [hexec, execRaiseCause, whenDue_eq _ hreset (decide_eq_true hraised)]
  · refine ⟨_, exec_stopActive htaken, fun a => ?_⟩
    by_cases hmem : src ∈ s.halt.estopActive
    · rw [if_pos hmem]
      exact ⟨.inr, fun h => h.elim (fun h => h ▸ hmem) id⟩
    · rw [if_neg hmem, List.mem_append, List.mem_singleton]
      exact Or.comm
  · rw [exec_estopLineAsserted hreset, if_neg (by rw [hline]; decide)]
  · rw [exec_estopLineAsserted hreset, if_pos hline]

/-! ## The halt wait (R168 to R170) -/

/-- Station by station, an operation that writes one station, and twice the same as once. -/
theorem foldl_station_idem {g : State → Nat → State} {f : Station → Station}
    (hg : ∀ t i k, k < t.stations.length → (g t i).station k = if k = i then f (t.station k) else t.station k)
    (hlen : ∀ t i, (g t i).stations.length = t.stations.length) (idem : ∀ st, f (f st) = f st) (l : List Nat) {k : Nat} :
    ∀ {s : State}, k < s.stations.length → (l.foldl g s).station k = if k ∈ l then f (s.station k) else s.station k := by
  induction l with
  | nil => exact fun _ => (if_neg (List.not_mem_nil)).symm
  | cons i l ih =>
    intro s hk
    rw [List.foldl_cons, ih (by rw [hlen]; exact hk), hg s i k hk]
    by_cases hi : k = i
    · rw [if_pos hi, if_pos (List.mem_cons.mpr (.inl hi)), idem]
      exact ite_self _
    · rw [if_neg hi]
      exact ite_cond_congr (propext (by rw [List.mem_cons, or_iff_right hi]))

theorem outOfService_unconfirmed_station (s : State) (i : Nat) {k : Nat} (hk : k < s.stations.length) :
    (s.outOfService i .unconfirmed).station k =
      if k = i then { Station.toIdle (s.station k) with inService := false } else s.station k := by
  split
  next h => subst h; exact outOfService_station hk _
  next h => exact outOfService_station_ne s h _

theorem outOfService_length (s : State) (i : Nat) (r : OutReason) :
    (s.outOfService i r).stations.length = s.stations.length := by
  rw [outOfService_stations, List.length_set]

/-- The awaited stations as the halt wait's expiry leaves them (R170). -/
theorem haltForcedOut_station {s : State} {i : Nat} (h : i < s.stations.length) : s.haltForcedOut.station i =
    if i ∈ s.halt.awaitStations then { Station.toIdle (s.station i) with inService := false } else s.station i :=
  foldl_station_idem (f := fun st => { Station.toIdle st with inService := false })
    (fun t j _ hk => outOfService_unconfirmed_station t j hk)
    (fun t j => outOfService_length t j _) (fun _ => rfl) _
    (s := s.setHalt (Halt.latch s.halt .stopUnconfirmed s.unconfirmedDetail)) h

theorem haltForced_orderly (s : State) : Orderly s s.haltForced := by
  have out : Orderly s s.haltForcedOut :=
    (setHalt_orderly s (Halt.latch s.halt .stopUnconfirmed s.unconfirmedDetail) (by exact List.length_set)).trans
      (Orderly.foldl (fun t i => outOfService_orderly t i _) _ _)
  unfold State.haltForced
  exact .ite (out.trans (conveyorStopped_orderly _)) out

theorem exec_haltDriveConfirm {src : Nat} {report : DriveReport} {s : State} (h : Taken (.haltDriveConfirm src report) s) :
    exec (.haltDriveConfirm src report) s = .next (
      let u := s.without (.haltDriveConfirm src report)
      if report = .stopped then u.confirmDrive else u) := by
  refine (taking_eq _ h rfl).trans ?_
  cases report <;> rfl

theorem confirmDrive_stands {s : State} (h : s.halt.mode ≠ .halting ∨ s.halt.awaitDrive = false) : s.confirmDrive = s :=
  if_neg fun k => h.elim (fun h => h k.1) fun h => Bool.false_ne_true (h.symm.trans k.2)

/-- In HALTING the awaited drive's stop leaves the conveyor STOPPED, nothing pending being acted on. -/
theorem confirmDrive_awaited {s : State} (mode : s.halt.mode = .halting) (h : s.halt.awaitDrive = true) :
    s.confirmDrive = ((s.setHalt { s.halt with awaitDrive := false }).setTrack { s.track with
      conveyor := .stopped, stopWait := none, pendingStart := false }).endWait :=
  (if_pos ⟨mode, h⟩).trans (congrArg State.endWait (conveyorStopped_unarmed (by
    rw [State.setHalt_halt]
    dsimp only
    rw [mode]
    decide)))

/-- The wait's end, with nobody awaited. -/
theorem endWait_halted {s : State} (hs : Shape s) (drive : s.halt.awaitDrive = false)
    (stations : s.halt.awaitStations = []) :
    s.endWait.halt = { s.halt with mode := .halted, permit := false, bcast := none, haltWait := none } ∧
    Noticed .halt (reason 4) s.endWait ∧ SameExcept [.halt, .portF, .portS, .mgmt] s s.endWait := by
  refine ⟨?_, ?_, (endWait_frame s).within (by decide)⟩
  · rw [endWait_confirmed s drive stations]
    exact enterMode_halt ..
  · rw [endWait_confirmed s drive stations]
    have halted : Orderly s ((s.setHalt { s.halt with bcast := none, haltWait := none }).enterMode .halted) :=
      (setHalt_kept_orderly _ _ (by exact rfl)).trans (enterMode_orderly ..)
    exact notify_noticed _ _ _ (halted.shape hs).notices

theorem exec_broadcastTimerExpiry {s : State} (reset : s.inReset = false) (h : s.halt.bcast = some 0) :
    exec .broadcastTimerExpiry s =
      .next (s.broadcast.setHalt { s.broadcast.halt with bcast := some (s.broadcast.param .bcastEvery) }) := by
  have hexec : exec .broadcastTimerExpiry s = execBroadcastTimerExpiry s := rfl
  rw [hexec, execBroadcastTimerExpiry, whenDue_eq _ reset (by rw [h]; rfl)]
  rfl

theorem exec_haltWaitExpiry {s : State} (reset : s.inReset = false) (h : s.halt.haltWait = some 0) :
    exec .haltWaitExpiry s = .next (((s.haltForced.setHalt { s.haltForced.halt with
      awaitDrive := false, awaitStations := [], bcast := none, haltWait := none }).enterMode .halted).notifyHalt
      (some .halted) (some .stopUnconfirmed)) := by
  have hexec : exec .haltWaitExpiry s = execHaltWaitExpiry s := rfl
  rw [hexec, execHaltWaitExpiry_eq, whenDue_eq _ reset (by rw [h]; rfl)]

/-- Settles O46: each report or timer by its branch, the forced end through the stations' fold. -/
theorem haltWaitIsConfirmedOrForced : Obligations.HaltWaitIsConfirmedOrForced := by
  refine ⟨fun src s htaken => (taking_eq _ htaken rfl).trans rfl,
    fun s hreset => (running_eq (fun s => s.setHalt { s.halt with estopLine := false }) hreset).trans rfl,
    fun s hs => ⟨endWait_awaited s, endWait_halted hs⟩, fun src report s htaken => ?confirm,
    fun s hreset hdue => ?broadcast, fun s hs hreset hmode hdue => ?forced⟩
  case confirm =>
    dsimp only
    rw [exec_haltDriveConfirm htaken]
    refine ⟨fun hrep hmode hdrive => ?_, fun hother => ?_⟩
    · exact congrArg _ ((if_pos hrep).trans (confirmDrive_awaited (s := s.without _) hmode hdrive))
    · by_cases hrep : report = .stopped
      · exact congrArg _ ((if_pos hrep).trans
          (confirmDrive_stands (s := s.without _) (hother.resolve_left (not_not_intro hrep))))
      · exact congrArg _ (if_neg hrep)
  case broadcast =>
    have hparam : s.broadcast.param .bcastEvery = s.param .bcastEvery := (broadcast_orderly s).param _
    have hhalt : s.broadcast.halt = s.halt := (broadcast_frame s).same .halt (by decide)
    refine ⟨_, exec_broadcastTimerExpiry hreset hdue,
      ((broadcast_frame s).within (by decide)).trans ((setHalt_frame ..).within (by decide)), ?_, fun k d hfirst => ?_⟩
    · rw [State.setHalt_halt, hparam, hhalt]
    · rw [State.setHalt_portF, State.broadcast, hfirst]
      rfl
  case forced =>
    have hunarmed : s.halt.mode ≠ .armed := by rw [hmode]; decide
    refine ⟨_, exec_haltWaitExpiry hreset hdue, ?_, fun i hi => ?_, ?_, ?_⟩
    · refine (enterMode_halt ..).trans ?_
      rw [State.setHalt_halt, haltForced_halt]
      rfl
    · refine (station_congr (enterMode_stations ..) i).trans ?_
      refine (station_congr (haltForced_stations s) i).trans ?_
      exact haltForcedOut_station (by rw [hs.stations]; exact hi)
    · refine (enterMode_track ..).trans ((if_neg (by decide)).trans ?_)
      exact haltForced_track hunarmed
    · have halted := ((haltForced_orderly s).trans (setHalt_kept_orderly s.haltForced { s.haltForced.halt with
        awaitDrive := false, awaitStations := [], bcast := none, haltWait := none } rfl)).trans (enterMode_orderly _ .halted)
      exact notify_noticed _ _ _ (halted.shape hs).notices

end Sys2Proof.Machine
end

section
/-!
Halt entry (R120, R157, R165 to R167): what closing the gates and withdrawing a grant leave of Merge and Sales, what the
urgent queue of Port F keeps through an event, and the obligation O44.
-/
namespace Sys2Proof.Machine

-- Proofs in order: a thread that waits for another proof counts against the check's memory limit.
set_option Elab.async false

/-! ## Closing open gates (R109) -/

/-- A lane's merge record once an open gate has been closed. -/
def LaneMerge.shut (v : LaneMerge) : LaneMerge :=
  if v.gate = .opening ∨ v.gate = .isOpen then { v with gate := .closing } else v

theorem LaneMerge.shut_open {v : LaneMerge} (h : v.gate = .opening ∨ v.gate = .isOpen) :
    v.shut = { v with gate := .closing } := if_pos h

theorem LaneMerge.shut_closed {v : LaneMerge} (h : ¬(v.gate = .opening ∨ v.gate = .isOpen)) : v.shut = v := if_neg h

theorem LaneMerge.shut_shut (v : LaneMerge) : v.shut.shut = v.shut := by
  by_cases h : v.gate = .opening ∨ v.gate = .isOpen
  · rw [shut_open h]
    exact shut_closed fun h => by obtain h | h := h <;> cases h
  · rw [shut_closed h, shut_closed h]

theorem closeIfOpen_open {s : State} {l : Nat} (h : (s.mergeLane l).gate = .opening ∨ (s.mergeLane l).gate = .isOpen) :
    s.closeIfOpen l = s.closeGate l := by
  unfold State.closeIfOpen
  obtain h | h := h <;> rw [h]

theorem closeIfOpen_closed {s : State} {l : Nat}
    (h : ¬((s.mergeLane l).gate = .opening ∨ (s.mergeLane l).gate = .isOpen)) : s.closeIfOpen l = s := by
  unfold State.closeIfOpen
  cases hg : (s.mergeLane l).gate with
  | opening => exact absurd (.inl hg) h
  | isOpen => exact absurd (.inr hg) h
  | closed => rfl
  | closing => rfl

theorem closeIfOpen_mergeLane {s : State} (l : Nat) {k : Nat} (hk : k < s.merge.lanes.length) :
    (s.closeIfOpen l).mergeLane k = if k = l then (s.mergeLane k).shut else s.mergeLane k := by
  by_cases h : (s.mergeLane l).gate = .opening ∨ (s.mergeLane l).gate = .isOpen
  · rw [closeIfOpen_open h, State.mergeLane, closeGate_merge]
    by_cases hl : k = l
    · subst hl
      rw [if_pos rfl, withGate_lane _ hk, LaneMerge.shut_open h]
      rfl
    · rw [if_neg hl, withGate_lane_ne _ _ hl]
      rfl
  · rw [closeIfOpen_closed h]
    split
    next hl => rw [hl, LaneMerge.shut_closed h]
    next => rfl

/-- What the closing of gates leaves of Merge but for the gates. -/
structure GrantSame (s t : State) : Prop where
  lanes : t.merge.lanes.length = s.merge.lanes.length
  grant : t.merge.grant = s.merge.grant
  admitTimer : t.merge.admitTimer = s.merge.admitTimer
  lastGranted : t.merge.lastGranted = s.merge.lastGranted

theorem closeIfOpen_grantSame (s : State) (l : Nat) : GrantSame s (s.closeIfOpen l) := by
  by_cases h : (s.mergeLane l).gate = .opening ∨ (s.mergeLane l).gate = .isOpen
  · rw [closeIfOpen_open h]
    exact ⟨by rw [closeGate_merge]; exact List.length_set, by rw [closeGate_merge]; rfl, by rw [closeGate_merge]; rfl,
      by rw [closeGate_merge]; rfl⟩
  · rw [closeIfOpen_closed h]
    exact ⟨rfl, rfl, rfl, rfl⟩

/-- Several gates closed where they are open: each named lane's, once. -/
theorem foldl_closeIfOpen (ls : List Nat) : ∀ s : State, GrantSame s (ls.foldl State.closeIfOpen s) ∧
    ∀ k, k < s.merge.lanes.length →
      (ls.foldl State.closeIfOpen s).mergeLane k = if k ∈ ls then (s.mergeLane k).shut else s.mergeLane k := by
  induction ls with
  | nil => exact fun s => ⟨⟨rfl, rfl, rfl, rfl⟩, fun k _ => (if_neg List.not_mem_nil).symm⟩
  | cons l ls ih =>
    intro s
    obtain ⟨h1, h2, h3, h4⟩ := closeIfOpen_grantSame s l
    obtain ⟨⟨k1, k2, k3, k4⟩, hlane⟩ := ih (s.closeIfOpen l)
    refine ⟨⟨k1.trans h1, k2.trans h2, k3.trans h3, k4.trans h4⟩, fun k hk => ?_⟩
    rw [List.foldl_cons, hlane k (h1.symm ▸ hk), closeIfOpen_mergeLane l hk]
    by_cases hl : k = l
    · rw [if_pos hl, if_pos (List.mem_cons.mpr (.inl hl)), LaneMerge.shut_shut]
      exact ite_self _
    · rw [if_neg hl]
      exact ite_cond_congr (propext (by rw [List.mem_cons, or_iff_right hl]))

theorem closeOpenGates_grantSame (s : State) : GrantSame s s.closeOpenGates := (foldl_closeIfOpen _ s).1

theorem closeOpenGates_mergeLane {s : State} (h : s.merge.lanes.length = 3) {k : Nat} (hk : k < 3) :
    s.closeOpenGates.mergeLane k = (s.mergeLane k).shut := by
  refine ((foldl_closeIfOpen [0, 1, 2] s).2 k (h.symm ▸ hk)).trans (if_pos ?_)
  simp only [List.mem_cons, List.not_mem_nil, or_false]
  omega

/-! ## Withdrawing a grant (R108) -/

theorem withdraw_none {s : State} (h : s.merge.grant = none) : s.withdraw = s := by
  unfold State.withdraw
  rw [h]

/-- A grant without an order at its lane's head ends, and no order moves. -/
theorem withdraw_empty {s : State} {g : Grant} (grant : s.merge.grant = some g) (head : s.headOrder g.lane = none) :
    s.withdraw = s.endGrant g.lane := by
  unfold State.withdraw
  rw [grant]
  dsimp only
  rw [head]

theorem withdraw_merge {s : State} {g : Grant} (grant : s.merge.grant = some g) :
    s.withdraw.merge = Merge.withGate { s.merge with grant := none, admitTimer := none } g.lane .closing := by
  cases head : s.headOrder g.lane with
  | none => rw [withdraw_empty grant head, endGrant_merge]
  | some r => exact (withdraw_parts grant head).1

/-- A lane's gate record after a withdrawal: the granted lane's is CLOSING, the others stand. -/
theorem withdraw_mergeLane {s : State} {k : Nat} (hk : k < s.merge.lanes.length) : s.withdraw.mergeLane k =
    if s.merge.grant.any (fun g => g.lane == k) then { s.mergeLane k with gate := .closing } else s.mergeLane k := by
  cases grant : s.merge.grant with
  | none => rw [withdraw_none grant]; rfl
  | some g =>
    rw [State.mergeLane, withdraw_merge grant, Option.any_some]
    by_cases hl : g.lane = k
    · subst hl
      rw [if_pos (beq_self_eq_true _)]
      exact withGate_lane (m := { s.merge with grant := none, admitTimer := none }) _ hk
    · rw [if_neg (by rw [beq_iff_eq]; exact hl)]
      exact withGate_lane_ne { s.merge with grant := none, admitTimer := none } _ (Ne.symm hl)

theorem withdraw_grant (s : State) : s.withdraw.merge.grant = none := by
  cases grant : s.merge.grant with
  | none => rw [withdraw_none grant, grant]
  | some g => rw [withdraw_merge grant]; rfl

theorem withdraw_admitTimer {s : State} (h : s.merge.grant ≠ none) : s.withdraw.merge.admitTimer = none := by
  obtain ⟨g, grant⟩ := Option.ne_none_iff_exists'.mp h
  rw [withdraw_merge grant]
  rfl

theorem withdraw_lastGranted (s : State) : s.withdraw.merge.lastGranted = s.merge.lastGranted := by
  cases grant : s.merge.grant with
  | none => rw [withdraw_none grant]
  | some g => rw [withdraw_merge grant]; rfl

theorem withdraw_length (s : State) : s.withdraw.merge.lanes.length = s.merge.lanes.length := by
  cases grant : s.merge.grant with
  | none => rw [withdraw_none grant]
  | some g => rw [withdraw_merge grant]; exact List.length_set

theorem withdraw_lanes (s : State) : s.withdraw.sales.lanes = s.sales.lanes ∧ s.withdraw.sales.free = s.sales.free := by
  cases grant : s.merge.grant with
  | none => rw [withdraw_none grant]; exact ⟨rfl, rfl⟩
  | some g =>
    cases head : s.headOrder g.lane with
    | none =>
      rw [withdraw_empty grant head, (endGrant_frame ..).same .sales (by decide)]
      exact ⟨rfl, rfl⟩
    | some r => rw [(withdraw_parts grant head).2.1]; exact ⟨rfl, rfl⟩

/-- Every gate open before a withdrawal and a closing of gates is CLOSING after them. -/
theorem withdraw_closeOpenGates_gate {s : State} (h : s.merge.lanes.length = 3) {l : Nat} (hl : l < 3)
    (gate : (s.mergeLane l).gate = .opening ∨ (s.mergeLane l).gate = .isOpen) :
    (s.withdraw.closeOpenGates.mergeLane l).gate = .closing := by
  rw [closeOpenGates_mergeLane ((withdraw_length s).trans h) hl, withdraw_mergeLane (h.symm ▸ hl)]
  split
  · rw [LaneMerge.shut_closed]
    rintro (h | h) <;> cases h
  · rw [LaneMerge.shut_open gate]

/-! ## Port F's urgent queue behind a busy line -/

/-- An event that leaves the urgent queue and the causes, the line being busy. -/
structure UrgentKept (s t : State) : Prop where
  port : s.portF.line ≠ none → t.portF.line ≠ none ∧ t.portF.urgent = s.portF.urgent
  raised : t.raised = s.raised

theorem UrgentKept.refl {s : State} : UrgentKept s s := ⟨fun h => ⟨h, rfl⟩, rfl⟩

theorem UrgentKept.trans {s t u : State} (h : UrgentKept s t) (k : UrgentKept t u) : UrgentKept s u := by
  refine ⟨fun hline => ?_, k.raised.trans h.raised⟩
  obtain ⟨ht, hurgent⟩ := h.port hline
  obtain ⟨hu, hsame⟩ := k.port ht
  exact ⟨hu, hsame.trans hurgent⟩

theorem SameExcept.urgentKept {l : List Part} {s t : State} (h : SameExcept l s t)
    (hl : Part.portF ∉ l ∧ Part.raised ∉ l := by decide) : UrgentKept s t := by
  obtain ⟨hport, hraised⟩ := hl
  have port : t.portF = s.portF := h.same .portF hport
  exact ⟨fun hline => by rw [port]; exact ⟨hline, rfl⟩, h.same .raised hraised⟩

theorem UrgentKept.foldl {α : Type} {g : State → α → State} (h : ∀ t x, UrgentKept t (g t x)) (xs : List α) :
    ∀ s, UrgentKept s (xs.foldl g s) := by
  induction xs with
  | nil => exact fun _ => .refl
  | cons x xs ih => exact fun s => (h s x).trans (ih _)

/-- A normal frame waits beside the urgent ones. -/
theorem offerNormal_urgentKept (s : State) (f : OutFrame) : UrgentKept s (s.offerNormal .f f) := by
  refine ⟨fun hline => ?_, (offerNormal_frame s .f f).same .raised (by decide)⟩
  by_cases room : s.portF.normal.length < 32
  · rw [offerNormal_joins (s := s) (p := .f) f room, Port.transmit_busy_line (by exact hline)]
    exact ⟨hline, rfl⟩
  · rw [offerNormal_drops (s := s) (p := .f) f (Nat.le_of_not_lt room)]
    unfold State.noteLost
    split <;> exact ⟨hline, rfl⟩

theorem toField_urgentKept (s : State) (d : Option Nat) (k : Byte) (l : List Byte) : UrgentKept s (s.toField d k l) := by
  unfold State.toField
  split
  · exact offerNormal_urgentKept ..
  · exact .refl

theorem closeGate_urgentKept (s : State) (l : Nat) : UrgentKept s (s.closeGate l) :=
  (toField_urgentKept ..).trans (setGate_frame ..).urgentKept

theorem closeOpenGates_urgentKept (s : State) : UrgentKept s s.closeOpenGates := by
  refine UrgentKept.foldl (fun t l => ?_) _ s
  by_cases h : (t.mergeLane l).gate = .opening ∨ (t.mergeLane l).gate = .isOpen
  · rw [closeIfOpen_open h]; exact closeGate_urgentKept ..
  · rw [closeIfOpen_closed h]; exact .refl

theorem withdraw_urgentKept (s : State) : UrgentKept s s.withdraw := by
  have ends (t : State) (l : Nat) : UrgentKept t (t.endGrant l) :=
    (setMerge_frame ..).urgentKept.trans (closeGate_urgentKept ..)
  unfold State.withdraw
  split
  · exact .refl
  · split
    · exact ends ..
    · exact (ungrant_frame ..).urgentKept.trans (ends ..)

theorem sweep_urgentKept (s : State) : UrgentKept s s.sweep := by
  have blocked (t : State) : UrgentKept t t.countBlocked := (countBlocked_frame t).urgentKept
  have filtered : UrgentKept s (s.setPort .f { s.portF with
      normal := s.portF.normal.filter fun f => !blockedIn s.halt.mode f }) := ⟨fun h => ⟨h, rfl⟩, rfl⟩
  unfold State.sweep
  exact filtered.trans (UrgentKept.foldl (fun t _ => blocked t) _ _)

theorem enterMode_urgentKept (s : State) (m : Mode) : UrgentKept s (s.enterMode m) := by
  unfold State.enterMode
  exact ((setHalt_frame ..).urgentKept.trans (.ite (setTrack_frame ..) .refl : SameExcept [.track] _ _).urgentKept).trans
    (sweep_urgentKept _)

/-- An urgent frame with room joins the queue behind a busy line. -/
theorem offerUrgent_queued {s : State} {f : OutFrame} (line : s.portF.line ≠ none)
    (new : f.frame.kind ≠ 0x33 ∨ (s.portF.urgent.any fun g => g.frame.kind == 0x33) = false)
    (room : s.portF.urgent.length < 16) :
    (s.offerUrgent .f f).portF.line ≠ none ∧ (s.offerUrgent .f f).portF.urgent = s.portF.urgent ++ [f] := by
  rw [offerUrgent_joins (s := s) (p := .f) new room, Port.transmit_busy_line (by exact line)]
  exact ⟨line, rfl⟩

/-- An event that at most adds urgent frames behind a busy line, and causes of the kind URGENT_OVERFLOW. -/
structure UrgentAdded (s t : State) : Prop where
  port : s.portF.line ≠ none → t.portF.line ≠ none ∧ s.portF.urgent <+: t.portF.urgent
  raised : ∃ more, t.raised = s.raised ++ more ∧ ∀ e ∈ more, e.1 = .urgentOverflow

theorem UrgentKept.added {s t : State} (h : UrgentKept s t) : UrgentAdded s t := by
  refine ⟨fun hline => ?_, [], by rw [h.raised, List.append_nil], fun e he => absurd he List.not_mem_nil⟩
  obtain ⟨ht, hurgent⟩ := h.port hline
  exact ⟨ht, hurgent ▸ List.prefix_rfl⟩

theorem UrgentAdded.trans {s t u : State} (h : UrgentAdded s t) (k : UrgentAdded t u) : UrgentAdded s u := by
  obtain ⟨more, hmore, hkinds⟩ := h.raised
  obtain ⟨rest, hrest, hall⟩ := k.raised
  refine ⟨fun hline => ?_, more ++ rest, by rw [hrest, hmore, List.append_assoc], fun e he => ?_⟩
  · obtain ⟨ht, hprefix⟩ := h.port hline
    obtain ⟨hu, hlonger⟩ := k.port ht
    exact ⟨hu, hprefix.trans hlonger⟩
  · exact (List.mem_append.mp he).elim (hkinds e) (hall e)

theorem UrgentAdded.foldl {α : Type} {g : State → α → State} (h : ∀ t x, UrgentAdded t (g t x)) (xs : List α) :
    ∀ s, UrgentAdded s (xs.foldl g s) := by
  induction xs with
  | nil => exact fun _ => UrgentKept.refl.added
  | cons x xs ih => exact fun s => (h s x).trans (ih _)

theorem offerUrgent_urgentAdded (s : State) (f : OutFrame) : UrgentAdded s (s.offerUrgent .f f) := by
  by_cases old : f.frame.kind = 0x33 ∧ (s.portF.urgent.any fun g => g.frame.kind == 0x33) = true
  · obtain ⟨hkind, hwaits⟩ := old
    rw [offerUrgent_repeats (s := s) (p := .f) hkind hwaits]
    exact UrgentKept.refl.added
  · have new : f.frame.kind ≠ 0x33 ∨ (s.portF.urgent.any fun g => g.frame.kind == 0x33) = false := by
      rw [← Bool.not_eq_true]
      exact Classical.not_and_iff_not_or_not.mp old
    by_cases room : s.portF.urgent.length < 16
    · have raised : (s.offerUrgent .f f).raised = s.raised := by
        rw [offerUrgent_joins (s := s) (p := .f) new room]
        rfl
      refine ⟨fun hline => ?_, [], by rw [raised, List.append_nil], fun e he => absurd he List.not_mem_nil⟩
      obtain ⟨hline, hurgent⟩ := offerUrgent_queued hline new room
      exact ⟨hline, hurgent ▸ List.prefix_append ..⟩
    · rw [offerUrgent_drops (s := s) (p := .f) new (Nat.le_of_not_lt room)]
      exact ⟨fun hline => ⟨hline, List.prefix_rfl⟩, [_], rfl, fun e he => by rw [List.mem_singleton.mp he]⟩

theorem toFieldUrgent_urgentAdded (s : State) (d : Option Nat) (k : Byte) (l : List Byte) :
    UrgentAdded s (s.toFieldUrgent d k l) := by
  unfold State.toFieldUrgent
  split
  · exact offerUrgent_urgentAdded ..
  · exact UrgentKept.refl.added

theorem haltRetract_urgentAdded (s : State) : UrgentAdded s s.haltRetract :=
  UrgentAdded.foldl (fun t i => (toFieldUrgent_urgentAdded t (t.station i).actuator _ _).trans
    (setStations_frame ..).urgentKept.added) _ s

theorem endWait_urgentKept (s : State) : UrgentKept s s.endWait := by
  unfold State.endWait
  split
  · exact ((setHalt_frame ..).urgentKept.trans (enterMode_urgentKept ..)).trans (notifyHalt_frame ..).urgentKept
  · exact .refl

/-! ## Halt entry (R166, R167) -/

theorem takeCause_entry {s : State} (k : CauseKind) (d : CauseDetail)
    (h : s.halt.mode = .armed ∨ s.halt.mode = .recovering) : s.takeCause k d = s.haltEntry k d := by
  unfold State.takeCause
  obtain h | h := h <;> rw [h]

/-- The state in which halt entry withdraws the grant. -/
def State.haltRetracted (s : State) (k : CauseKind) (d : CauseDetail) : State :=
  (s.haltCalled k d).driveStop.haltConveyor.haltRetract

theorem haltStopped_eq (s : State) (k : CauseKind) (d : CauseDetail) :
    s.haltStopped k d = (s.haltRetracted k d).withdraw.closeOpenGates.flagCars := rfl

theorem haltCalled_frame (s : State) (k : CauseKind) (d : CauseDetail) :
    SameExcept [.halt, .track, .portF, .portS, .mgmt, .raised] s (s.haltCalled k d) :=
  (((setHalt_frame ..).within (by decide)).trans ((enterMode_frame ..).within (by decide))).trans
    (((broadcast_frame _).within (by decide)).trans ((setHalt_frame ..).within (by decide)))

theorem haltRetracted_frame (s : State) (k : CauseKind) (d : CauseDetail) :
    SameExcept [.halt, .track, .portF, .portS, .mgmt, .raised, .stations] s (s.haltRetracted k d) :=
  (((haltCalled_frame ..).within (by decide)).trans ((driveStop_frame _).within (by decide))).trans
    (((haltConveyor_frame _).within (by decide)).trans ((haltRetract_frame _).within (by decide)))

/-- Merge and Sales at the end of halt entry are those of the withdrawal and the closing of the gates. -/
theorem haltEntry_after (s : State) (k : CauseKind) (d : CauseDetail) :
    SameExcept [.halt, .track, .portF, .portS, .mgmt] (s.haltRetracted k d).withdraw.closeOpenGates (s.haltEntry k d) := by
  rw [haltEntry_eq]
  exact (((flagCars_frame _).within (by decide)).trans ((setHalt_frame ..).within (by decide))).trans
    (((notifyHalt_frame ..).within (by decide)).trans ((endWait_frame _).within (by decide)))

/-- The notice and the judging of the wait's end leave what halt entry stopped. -/
theorem haltEntry_awaiting (s : State) (k : CauseKind) (d : CauseDetail) :
    SameExcept [.halt, .portF, .portS, .mgmt] (s.haltAwaiting k d) (s.haltEntry k d) := by
  rw [haltEntry_eq]
  exact ((notifyHalt_frame ..).within (by decide)).trans ((endWait_frame _).within (by decide))

/-- The Halt block once the end of the wait has been judged. -/
theorem endWait_halt (s : State) : s.endWait.halt =
    if s.halt.awaitDrive = false ∧ s.halt.awaitStations = [] then
      { s.halt with mode := .halted, permit := false, bcast := none, haltWait := none }
    else s.halt := by
  unfold State.endWait
  split
  · exact enterMode_halt ..
  · rfl

theorem notifyHalt_halt (s : State) (m : Option Mode) (k : Option CauseKind) : (s.notifyHalt m k).halt = s.halt := rfl

/-- The Halt block at the end of halt entry: HALTED at once where nobody is awaited. -/
theorem haltEntry_halt (s : State) (k : CauseKind) (d : CauseDetail) : (s.haltEntry k d).halt =
    if (s.track.conveyor != .stopped) = false ∧ s.busyStations = [] then
      { (s.haltAwaiting k d).halt with mode := .halted, permit := false, bcast := none, haltWait := none }
    else (s.haltAwaiting k d).halt := by
  have awaiting := haltAwaiting_halt s k d
  rw [haltEntry_eq, endWait_halt, notifyHalt_halt]
  exact ite_cond_congr (propext (by rw [awaiting]))

/-- The notices of the end of halt entry. -/
theorem haltEntry_noticed {s : State} (hs : Shape s) (k : CauseKind) (d : CauseDetail) :
    ((s.track.conveyor != .stopped) = false ∧ s.busyStations = [] → Noticed .halt (reason 4) (s.haltEntry k d)) ∧
    (¬((s.track.conveyor != .stopped) = false ∧ s.busyStations = []) →
      Noticed .halt { reason 3 with arg := some (causeNumber k) } (s.haltEntry k d)) := by
  have awaiting : Orderly s (s.haltAwaiting k d) := by
    unfold State.haltAwaiting
    exact (haltStopped_orderly s k d).trans (setHalt_kept_orderly _ _ (by dsimp only))
  have shape := (awaiting.trans (notify_orderly (s.haltAwaiting k d) .halt
    { reason 3 with arg := some (causeNumber k) })).shape hs
  have halt := haltAwaiting_halt s k d
  have notices := (awaiting.shape hs).notices
  rw [haltEntry_eq]
  generalize s.haltAwaiting k d = u at *
  refine ⟨fun ⟨hdrive, hbusy⟩ => ?_, fun h => ?_⟩
  · have drive : u.halt.awaitDrive = false := by rw [halt]; exact hdrive
    have stations : u.halt.awaitStations = [] := by rw [halt]; exact hbusy
    exact (endWait_halted (s := u.notifyHalt (some .halting) (some k)) shape drive stations).2.1
  · have awaited : u.halt.awaitDrive = true ∨ u.halt.awaitStations ≠ [] := by
      rw [halt]
      by_cases hd : (s.track.conveyor != .stopped) = false
      · exact .inr fun hb => h ⟨hd, hb⟩
      · exact .inl ((Bool.not_eq_false _).mp hd)
    rw [endWait_awaited (u.notifyHalt (some .halting) (some k)) awaited]
    exact notify_noticed _ _ _ notices

/-- After the drive's stop halt entry at most adds urgent frames. -/
theorem haltEntry_urgentAdded (s : State) (k : CauseKind) (d : CauseDetail) :
    UrgentAdded (s.haltCalled k d).driveStop (s.haltEntry k d) := by
  rw [haltEntry_eq, State.haltAwaiting, haltStopped_eq, State.haltRetracted]
  have retracted : UrgentAdded (s.haltCalled k d).driveStop (s.haltCalled k d).driveStop.haltConveyor.haltRetract :=
    (haltConveyor_frame _).urgentKept.added.trans (haltRetract_urgentAdded _)
  generalize (s.haltCalled k d).driveStop.haltConveyor.haltRetract = u at retracted
  have gates : UrgentKept u u.withdraw.closeOpenGates.flagCars :=
    ((withdraw_urgentKept u).trans (closeOpenGates_urgentKept _)).trans (flagCars_frame _).urgentKept
  exact (retracted.trans gates.added).trans
    ((((setHalt_frame ..).urgentKept.trans (notifyHalt_frame ..).urgentKept).trans (endWait_urgentKept _)).added)

theorem broadcast_urgentAdded (s : State) : UrgentAdded s s.broadcast := offerUrgent_urgentAdded ..

theorem haltCalled_urgentAdded (s : State) (k : CauseKind) (d : CauseDetail) : UrgentAdded s (s.haltCalled k d) :=
  ((setHalt_frame ..).urgentKept.trans (enterMode_urgentKept _ .halting)).added.trans
    ((broadcast_urgentAdded _).trans (setHalt_frame ..).urgentKept.added)

/-- The broadcast and the drive's stop head an urgent queue that was empty behind a frame on the line. -/
theorem haltCalled_driveStop_urgent {s : State} {a : Nat} (k : CauseKind) (d : CauseDetail)
    (line : s.portF.line ≠ none) (empty : s.portF.urgent = []) (drive : s.driveAddr = some a) :
    (s.haltCalled k d).driveStop.portF.line ≠ none ∧ (s.haltCalled k d).driveStop.portF.urgent =
      [ownFrame 63 0x33 [byte (causeNumber k)], ownFrame a 0x31 [2, 0]] := by
  have entered : UrgentKept s ((s.setHalt { Halt.latch s.halt k d with first := some (k, d), hold := none }).enterMode
      .halting) := (setHalt_frame ..).urgentKept.trans (enterMode_urgentKept ..)
  have first : ((s.setHalt { Halt.latch s.halt k d with first := some (k, d), hold := none }).enterMode
      .halting).halt.first = some (k, d) := by rw [enterMode_halt]; rfl
  have called : (s.haltCalled k d).portF = ((s.setHalt { Halt.latch s.halt k d with
      first := some (k, d), hold := none }).enterMode .halting).broadcast.portF := rfl
  have address : (s.haltCalled k d).driveAddr = some a :=
    (driveAddr_of_nodes ((haltCalled_frame s k d).same .nodes (by decide))).trans drive
  obtain ⟨hline, hurgent⟩ := entered.port line
  rw [empty] at hurgent
  generalize (s.setHalt { Halt.latch s.halt k d with first := some (k, d), hold := none }).enterMode .halting = u at *
  have broadcast : u.broadcast = u.offerUrgent .f (ownFrame 63 0x33 [byte (causeNumber k)]) := by
    unfold State.broadcast
    rw [first]
    rfl
  obtain ⟨bline, bqueued⟩ := offerUrgent_queued (f := ownFrame 63 0x33 [byte (causeNumber k)]) hline
    (.inr (by rw [hurgent]; rfl)) (by rw [hurgent]; decide)
  rw [← broadcast, ← called, hurgent] at bqueued
  rw [← broadcast, ← called] at bline
  have stop : (s.haltCalled k d).driveStop = (s.haltCalled k d).offerUrgent .f (ownFrame a 0x31 [2, 0]) := by
    unfold State.driveStop
    rw [address]
    rfl
  obtain ⟨sline, squeued⟩ := offerUrgent_queued (f := ownFrame a 0x31 [2, 0]) bline (.inl (by exact of_decide_eq_true rfl))
    (by rw [bqueued]; exact of_decide_eq_true rfl)
  rw [stop]
  exact ⟨sline, squeued.trans (by rw [bqueued]; rfl)⟩

/-- Settles O44: halt entry's steps in order, each by what it leaves of the block it touches. -/
theorem haltEntryStopsTheTunnel : Obligations.HaltEntryStopsTheTunnel := by
  intro k d s hs hmode
  dsimp only
  rw [takeCause_entry k d hmode]
  have hbusy : ((List.range 24).filter fun i => (s.station i).actuator.isSome && (s.station i).activity != .idle) =
      s.busyStations := rfl
  rw [hbusy]
  have hhalt := haltEntry_halt s k d
  rw [haltAwaiting_halt] at hhalt
  obtain ⟨hdone, hawaited⟩ := haltEntry_noticed hs k d
  have hbefore := haltRetracted_frame s k d
  have hafter := haltEntry_after s k d
  have hmergeIs : (s.haltRetracted k d).merge = s.merge := hbefore.same .merge (by decide)
  have hsalesIs : (s.haltRetracted k d).sales = s.sales := hbefore.same .sales (by decide)
  have hmerge : (s.haltEntry k d).merge = (s.haltRetracted k d).withdraw.closeOpenGates.merge :=
    hafter.same .merge (by decide)
  have hsales : (s.haltEntry k d).sales = (s.haltRetracted k d).withdraw.sales :=
    (hafter.same .sales (by decide)).trans ((closeOpenGates_frame _).same .sales (by decide))
  have htrack : (s.haltEntry k d).track = (s.haltStopped k d).track :=
    ((haltEntry_awaiting s k d).same .track (by decide)).trans (haltAwaiting_track s k d)
  have hstations : (s.haltEntry k d).stations = (s.haltStopped k d).stations :=
    ((haltEntry_awaiting s k d).same .stations (by decide)).trans (haltAwaiting_stations s k d)
  obtain ⟨-, hgrant, hadmit, hlast⟩ := closeOpenGates_grantSame (s.haltRetracted k d).withdraw
  refine ⟨?permit, ?first, ?hold, ?causes, ?details, ?drive, ?stations, fun h => ?halting, fun h1 h2 => ?halted, ?track,
    fun i hi => ?station, ?grant, fun h => ?timer, ?last, fun l hl hgate => ?gate, ?lanes, ?free, fun h => ?kept,
    fun g r hg hhead hr => ?order, ?raised, fun a hline hempty hdrive => ?urgent⟩
  case permit => rw [hhalt]; split <;> rfl
  case first => rw [hhalt]; split <;> rfl
  case hold => rw [hhalt]; split <;> rfl
  case causes => rw [hhalt]; split <;> rfl
  case details => rw [hhalt]; split <;> rfl
  case drive => rw [hhalt]; split <;> rfl
  case stations => rw [hhalt]; split <;> rfl
  case halting =>
    have hno : ¬((s.track.conveyor != .stopped) = false ∧ s.busyStations = []) := fun ⟨h1, h2⟩ =>
      h.elim (fun h => Bool.false_ne_true (h1.symm.trans h)) fun h => h h2
    rw [hhalt, if_neg hno]
    exact ⟨rfl, rfl, rfl, hawaited hno⟩
  case halted =>
    rw [hhalt, if_pos ⟨h1, h2⟩]
    exact ⟨rfl, rfl, rfl, hdone ⟨h1, h2⟩⟩
  case track => rw [htrack, haltStopped_track]
  case station => rw [station_congr hstations, (haltStopped_station hs.stations k d i).1]
  case grant => rw [hmerge, hgrant, withdraw_grant]
  case timer => rw [hmerge, hadmit, withdraw_admitTimer (by rw [hmergeIs]; exact h)]
  case last => rw [hmerge, hlast, withdraw_lastGranted, hmergeIs]
  case gate =>
    rw [mergeLane_of_merge hmerge]
    rw [← mergeLane_of_merge hmergeIs] at hgate
    exact withdraw_closeOpenGates_gate (by rw [hmergeIs]; exact hs.merge) hl hgate
  case lanes => rw [hsales, (withdraw_lanes _).1, hsalesIs]
  case free => rw [hsales, (withdraw_lanes _).2, hsalesIs]
  case kept => rw [hsales, withdraw_none (by rw [hmergeIs]; exact h), hsalesIs]
  case order =>
    have horder (n : Nat) : (s.haltRetracted k d).order n = s.order n := by rw [State.order, State.order, hsalesIs]
    have hheadIs : (s.haltRetracted k d).headOrder g.lane = some r := by
      rw [← hhead, State.headOrder, State.headOrder, State.lane, State.lane, hsalesIs]
    obtain ⟨-, hparts, -⟩ := withdraw_parts (by rw [hmergeIs]; exact hg) hheadIs
    rw [State.order, hsales, hparts, mergeLane_of_merge hmergeIs, horder]
    exact order_setOrder (s := s.haltRetracted k d) _ (by rw [hsalesIs, hs.orders]; exact hr)
  case raised =>
    exact ((haltCalled_urgentAdded s k d).trans ((toFieldUrgent_urgentAdded ..).trans
      (haltEntry_urgentAdded s k d))).raised
  case urgent =>
    obtain ⟨hbusyLine, hheads⟩ := haltCalled_driveStop_urgent k d hline hempty hdrive
    obtain ⟨-, hprefix⟩ := (haltEntry_urgentAdded s k d).port hbusyLine
    rw [hheads] at hprefix
    exact (List.prefix_iff_eq_take.mp hprefix).symm

end Sys2Proof.Machine
end

section
/-!
Release and the recovery hold (R109, R120, R158, R172, R173): the warning, and the tunnel armed again with its idle stations
engaged, with the obligation O47.
-/
namespace Sys2Proof.Machine

-- Proofs in order: a thread that waits for another proof counts against the check's memory limit.
set_option Elab.async false

/-! ## Release (R172) -/

theorem exec_release {seq : Byte} {args : List Byte} {s : State} (h : Taken (.release seq args) s) :
    exec (.release seq args) s = .next (
      let u := s.without (.release seq args)
      if s.halt.mode ≠ .halted then u.reply seq 5 .wrongMode []
      else if s.halt.causes ≠ [] then u.reply seq 5 .causeLatched []
      else u.recover.reply seq 5 .ok []) := (taking_eq _ h rfl).trans rfl

/-- A taken release with the warning offered. -/
def State.warned (s : State) : State :=
  let t := s.enterMode .recovering
  t.offerUrgent .f (ownFrame 63 0x34 [byte (t.param .holdTicks)])

/-- A taken release with the hold begun. -/
def State.held (s : State) : State :=
  s.warned.setHalt { s.warned.halt with hold := some (s.warned.param .holdTicks) }

theorem recover_eq (s : State) : s.recover = s.held.closeOpenGates.notifyHalt (some .recovering) none := rfl

theorem warned_frame (s : State) : SameExcept [.halt, .track, .portS, .portF, .mgmt, .raised] s s.warned := by
  unfold State.warned
  exact ((enterMode_frame ..).within (by decide)).trans ((offerUrgent_frame _ .f _).within (by decide))

theorem warned_orderly (s : State) : Orderly s s.warned := by
  unfold State.warned
  exact (enterMode_orderly ..).trans (offerUrgent_orderly _ .f _)

theorem warned_halt (s : State) : s.warned.halt = { s.halt with mode := .recovering, permit := false } :=
  ((offerUrgent_frame _ .f _).same .halt (by decide)).trans (enterMode_halt s .recovering)

theorem warned_track (s : State) : s.warned.track = s.track :=
  ((offerUrgent_frame _ .f _).same .track (by decide)).trans (enterMode_track s .recovering)

theorem held_halt (s : State) :
    s.held.halt = { s.halt with mode := .recovering, permit := false, hold := some (s.param .holdTicks) } := by
  rw [State.held, State.setHalt_halt, warned_halt, (warned_orderly s).param]

theorem held_orderly (s : State) : Orderly s s.held := (warned_orderly s).trans (setHalt_kept_orderly _ _ rfl)

/-- What a taken release leaves of the blocks. -/
theorem recover_after (s : State) : SameExcept [.portF, .mgmt, .merge] s.held s.recover := by
  rw [recover_eq]
  exact ((closeOpenGates_frame _).within (by decide)).trans ((notifyHalt_frame ..).within (by decide))

theorem recover_mergeLane {s : State} (h : s.merge.lanes.length = 3) {l : Nat} (hl : l < 3) :
    s.recover.mergeLane l = (s.mergeLane l).shut := by
  have merge : s.held.merge = s.merge := (warned_frame s).same .merge (by decide)
  have noticed : s.recover.merge = s.held.closeOpenGates.merge := by
    rw [recover_eq]
    exact (notifyHalt_frame ..).same .merge (by decide)
  rw [mergeLane_of_merge noticed, closeOpenGates_mergeLane (by rw [merge]; exact h) hl, mergeLane_of_merge merge]

/-- The warning joins the urgent queue, and the gates' commands wait in the normal one. -/
theorem recover_urgent {s : State} (line : s.portF.line ≠ none) (room : s.portF.urgent.length < 16) :
    s.recover.portF.urgent = s.portF.urgent ++ [ownFrame 63 0x34 [byte (s.param .holdTicks)]] := by
  obtain ⟨hline, hurgent⟩ := (enterMode_urgentKept s .recovering).port line
  obtain ⟨wline, wqueued⟩ := offerUrgent_queued (s := s.enterMode .recovering)
    (f := ownFrame 63 0x34 [byte ((s.enterMode .recovering).param .holdTicks)]) hline (.inl (by exact of_decide_eq_true rfl))
    (by rw [hurgent]; exact room)
  have after : UrgentKept s.warned s.recover := by
    rw [recover_eq]
    exact (setHalt_frame ..).urgentKept.trans ((closeOpenGates_urgentKept _).trans (notifyHalt_frame ..).urgentKept)
  obtain ⟨-, hkept⟩ := after.port wline
  rw [hkept, ← hurgent, ← (enterMode_orderly s .recovering).param]
  exact wqueued

/-! ## The hold timer's expiry (R158, R173) -/

theorem takeStart_frame_track (s : State) : s.takeStart.track.cars = s.track.cars ∧
    (s.track.drift = 0 → s.takeStart.track.drift = 0) := by
  by_cases armed : s.halt.mode = .armed
  · cases h : s.track.conveyor with
    | stopped =>
      rw [takeStart_stopped armed h, (toField_frame ..).same .track (by decide)]
      exact ⟨rfl, fun _ => rfl⟩
    | stopping =>
      rw [takeStart_stopping armed h]
      exact ⟨rfl, id⟩
    | starting =>
      rw [takeStart_stands (.inr (.inl h))]
      exact ⟨rfl, id⟩
    | moving =>
      rw [takeStart_stands (.inr (.inr h))]
      exact ⟨rfl, id⟩
  · rw [takeStart_stands (.inl armed)]
    exact ⟨rfl, id⟩

/-- The state in which the hold's expiry has armed the tunnel. -/
def State.rearmed (s : State) : State := (s.setHalt { s.halt with hold := none }).enterMode .armed

/-- The state in which it has started the conveyor for the cars in the list. -/
def State.restarted (s : State) : State := if s.track.cars = [] then s.rearmed else s.rearmed.takeStart

theorem rearmed_halt (s : State) : s.rearmed.halt = { s.halt with mode := .armed, permit := true, hold := none } :=
  enterMode_halt ..

theorem rearmed_track (s : State) : s.rearmed.track = { s.track with drift := 0 } := enterMode_track ..

theorem exec_holdTimerExpiry {s : State} (reset : s.inReset = false) (h : s.halt.hold = some 0) :
    exec .holdTimerExpiry s = .next (s.restarted.resumeStations.notifyHalt (some .armed) none).review := by
  have hexec : exec .holdTimerExpiry s = execHoldTimerExpiry s := rfl
  have cars : s.rearmed.track.cars = s.track.cars := by rw [rearmed_track]
  rw [hexec, execHoldTimerExpiry, whenDue_eq _ reset (by rw [h]; rfl), State.restarted, ← cars]
  rfl

theorem restarted_frame (s : State) : SameExcept [.track, .portF, .mgmt] s.rearmed s.restarted := by
  unfold State.restarted
  exact .ite .refl (takeStart_frame _)

theorem restarted_track (s : State) : s.restarted.track.drift = 0 ∧ s.restarted.track.cars = s.track.cars := by
  have hcars : s.rearmed.track.cars = s.track.cars := by rw [rearmed_track]
  have hdrift : s.rearmed.track.drift = 0 := by rw [rearmed_track]
  obtain ⟨kcars, kdrift⟩ := takeStart_frame_track s.rearmed
  unfold State.restarted
  split
  · exact ⟨hdrift, hcars⟩
  · exact ⟨kdrift hdrift, kcars.trans hcars⟩

theorem restarted_empty {s : State} (h : s.track.cars = []) : s.restarted.track = { s.track with drift := 0 } := by
  rw [State.restarted, if_pos h, rearmed_track]

theorem restarted_starts {s : State} (stopped : s.track.conveyor = .stopped) (h : s.track.cars ≠ []) :
    s.restarted.track.conveyor = .starting ∧ s.restarted.track.startWait = some (s.param .startWait) := by
  have orderly : Orderly s s.rearmed :=
    (setHalt_kept_orderly s { s.halt with hold := none } rfl).trans (enterMode_orderly ..)
  rw [State.restarted, if_neg h, takeStart_stopped (by rw [rearmed_halt]) (by rw [rearmed_track]; exact stopped),
    (toField_frame ..).same .track (by decide), State.setTrack_track, orderly.param]
  exact ⟨rfl, rfl⟩

/-- The car's window at the station is open, in the statements' words (R158). -/
theorem windowOpen_iff (st : Station) (x : Car) : windowOpen st x = true ↔
    (st.position : Int) + st.startOff ≤ (x.front : Int) ∧
      (∀ n, x.length = some n → (x.front : Int) - n < (st.position : Int) + st.endOff) ∧
      hasService x.services st.service = true ∧ hasService x.done st.service = false := by
  have below : rearBelow st (Car.rear x) = true ↔
      ∀ n, x.length = some n → (x.front : Int) - n < (st.position : Int) + st.endOff := by
    cases hx : x.length with
    | none => simp [rearBelow, Car.rear, hx]
    | some n =>
      simp only [rearBelow, Car.rear, hx, Station.endPoint, Option.map_some, Option.all_some, Option.some.injEq,
        forall_eq']
      exact decide_eq_true_iff
  unfold windowOpen wants
  rw [Bool.and_eq_true, Bool.and_eq_true, Bool.and_eq_true, below, decide_eq_true_iff, Bool.not_eq_true', and_assoc]
  exact Iff.rfl

/-- A station as resume engagement leaves it, with the cars of the list (R158). -/
def Station.resumed (cars : List Car) (st : Station) : Station :=
  if Station.used st = true ∧ st.activity = .idle ∧ st.inService = true then
    match cars.find? (windowOpen st) with
    | some c => { st with activity := .engaged, car := some c.tag, backoffs := 0, stepsLeft := 0 }
    | none => st
  else st

theorem Station.resumed_resumed (cars : List Car) (st : Station) : (st.resumed cars).resumed cars = st.resumed cars := by
  unfold Station.resumed
  by_cases ready : Station.used st = true ∧ st.activity = .idle ∧ st.inService = true
  · cases hfind : cars.find? (windowOpen st) with
    | none => simp only [if_pos ready, hfind]
    | some c =>
      rw [if_pos ready]
      exact if_neg fun h => nomatch h.2.1
  · rw [if_neg ready, if_neg ready]

theorem resumeStation_station (s : State) (i : Nat) {k : Nat} (hk : k < s.stations.length) :
    (s.resumeStation i).station k = if k = i then (s.station k).resumed s.track.cars else s.station k := by
  unfold State.resumeStation Station.resumed
  by_cases hi : k = i
  · subst hi
    rw [if_pos rfl]
    by_cases ready : Station.used (s.station k) = true ∧ (s.station k).activity = .idle ∧ (s.station k).inService = true
    · rw [if_pos ready, if_pos ready]
      cases s.track.cars.find? (windowOpen (s.station k)) with
      | none => rfl
      | some c =>
        refine (station_setStation (s := s.stationCmd k 1 (s.station k).active) _ ?_).trans ?_
        · rw [State.stationCmd, toField_stations]
          exact hk
        · rfl
    · rw [if_neg ready, if_neg ready]
  · rw [if_neg hi]
    dsimp only
    split
    · split
      · exact (station_setStation_ne (s.stationCmd i 1 _) _ hi).trans (stationCmd_station ..)
      · rfl
    · rfl

/-- The stations after resume engagement, each by the cars of the list. -/
theorem resumeStations_station {s : State} (hs : Shape s) {i : Nat} (hi : i < 24) :
    s.resumeStations.station i = (s.station i).resumed s.track.cars := by
  have fold (ls : List Nat) : ∀ t : State, Shape t → t.track.cars = s.track.cars →
      (ls.foldl State.resumeStation t).station i =
        if i ∈ ls then (t.station i).resumed s.track.cars else t.station i := by
    induction ls with
    | nil => exact fun t _ _ => (if_neg List.not_mem_nil).symm
    | cons j ls ih =>
      intro t ht hcars
      have cars : (t.resumeStation j).track.cars = s.track.cars := by
        rw [(resumeStation_frame t j).same .track (by decide)]
        exact hcars
      rw [List.foldl_cons, ih _ ((resumeStation_orderly t j).shape ht) cars,
        resumeStation_station t j (ht.stations.symm ▸ hi), hcars]
      by_cases hj : i = j
      · rw [if_pos hj, if_pos (List.mem_cons.mpr (.inl hj)), Station.resumed_resumed]
        exact ite_self _
      · rw [if_neg hj]
        exact ite_cond_congr (propext (by rw [List.mem_cons, or_iff_right hj]))
  exact (fold stationNumbers s hs rfl).trans (if_pos (List.mem_range.mpr hi))

/-- Settles O47: the release's steps, and the hold's expiry with each station judged on the cars of the list. -/
theorem releaseHoldAndResume : Obligations.ReleaseHoldAndResume := by
  refine ⟨fun seq args s hs htaken => ?release, fun s hs hreset hdue => ?resume⟩
  case release =>
    dsimp only
    rw [exec_release htaken]
    refine ⟨fun hmode => congrArg _ (if_pos hmode), fun hmode hcauses => ?_, fun hmode hcauses => ?_⟩
    · exact congrArg _ ((if_neg (not_not_intro hmode)).trans (if_pos hcauses))
    · have hu := hs.without (.release seq args)
      have after := recover_after (s.without (.release seq args))
      refine ⟨(s.without (.release seq args)).recover,
        congrArg _ ((if_neg (not_not_intro hmode)).trans (if_neg (not_not_intro hcauses))), ?_,
        fun l hl => recover_mergeLane hu.merge hl, ?_, ?_, ?_, recover_urgent (s := s.without (.release seq args))⟩
      · exact (after.same .halt (by decide)).trans (held_halt _)
      · exact (after.same .track (by decide)).trans (warned_track _)
      · exact (after.same .stations (by decide)).trans ((warned_frame _).same .stations (by decide))
      · rw [recover_eq]
        exact notify_noticed _ _ _ (((held_orderly _).trans (closeOpenGates_orderly _)).shape hu).notices
  case resume =>
    dsimp only
    have restarts : Orderly s s.restarted := by
      have armed : Orderly s s.rearmed :=
        (setHalt_kept_orderly s { s.halt with hold := none } rfl).trans (enterMode_orderly ..)
      unfold State.restarted
      exact .ite armed (armed.trans (takeStart_orderly _))
    have orderly := restarts.trans (resumeStations_orderly _)
    have resumed : SameExcept [.stations, .portF, .mgmt] s.restarted
        (s.restarted.resumeStations.notifyHalt (some .armed) none) :=
      (resumeStations_frame _).trans ((notifyHalt_frame ..).within (by decide))
    have halt : s.restarted.halt = s.rearmed.halt := (restarted_frame s).same .halt (by decide)
    obtain ⟨hdrift, hcars⟩ := restarted_track s
    have stations : s.restarted.stations = s.stations :=
      ((restarted_frame s).same .stations (by decide)).trans (enterMode_stations ..)
    have track : (s.restarted.resumeStations.notifyHalt (some .armed) none).track = s.restarted.track :=
      resumed.same .track (by decide)
    have station (i : Nat) (hi : i < 24) : (s.restarted.resumeStations.notifyHalt (some .armed) none).station i =
        (s.station i).resumed s.track.cars := by
      refine (station_congr ((notifyHalt_frame ..).same .stations (by decide)) i).trans ?_
      rw [resumeStations_station (restarts.shape hs) hi, station_congr stations, hcars]
    refine ⟨s.restarted.resumeStations.notifyHalt (some .armed) none, exec_holdTimerExpiry hreset hdue, ?_,
      by rw [track, hdrift], by rw [track, hcars], notify_noticed _ _ _ (orderly.shape hs).notices, fun hstopped hsome => ?_, fun hempty => ?_,
      fun i hi => ⟨fun hno => ?_, fun hready before x after hsplit hopened hbefore => ?_⟩⟩
    · exact (resumed.same .halt (by decide)).trans (halt.trans (rearmed_halt s))
    · rw [track]
      exact restarted_starts hstopped hsome
    · rw [track]
      exact restarted_empty hempty
    · rw [station i hi, Station.resumed]
      split
      next ready =>
        have hnone : s.track.cars.find? (windowOpen (s.station i)) = none :=
          List.find?_eq_none.mpr fun x hx h => by
            obtain hno | hno := hno
            · exact hno ⟨(used_iff _).mp ready.1, ready.2⟩
            · exact hno x hx ((windowOpen_iff _ x).mp h)
        rw [hnone]
      · rfl
    · have hfind : s.track.cars.find? (windowOpen (s.station i)) = some x := by
        rw [List.find?_eq_some_iff_append]
        exact ⟨(windowOpen_iff _ x).mpr hopened, before, after, hsplit, fun y hy =>
          (Bool.not_eq_true' _).mpr (Bool.eq_false_iff.mpr fun h => hbefore y hy ((windowOpen_iff _ y).mp h))⟩
      obtain ⟨hused, hrest⟩ := hready
      rw [station i hi, Station.resumed, if_pos ⟨(used_iff _).mpr hused, hrest⟩, hfind]

end Sys2Proof.Machine
end

section
/-!
Arming and disarming (R50, R109, R133, R175, R176): the check-eye list, the lanes opened and closed, the gates' commands, with
the obligation O48.
-/
namespace Sys2Proof.Machine

-- Proofs in order: a thread that waits for another proof counts against the check's memory limit.
set_option Elab.async false

/-! ## The check-eye list (R133) -/

theorem mem_insertEye (e f : Nat × Nat) (l : List (Nat × Nat)) : f ∈ insertEye e l ↔ f = e ∨ f ∈ l := by
  induction l with
  | nil => simp [insertEye]
  | cons a l ih =>
    unfold insertEye
    split
    · exact List.mem_cons
    · rw [List.mem_cons, ih, List.mem_cons]
      exact or_left_comm

/-- The list in order of position (R133). -/
def EyesInOrder (l : List (Nat × Nat)) : Prop := l.Pairwise fun e f => e.2 ≤ f.2

theorem insertEye_inOrder (e : Nat × Nat) {l : List (Nat × Nat)} (h : EyesInOrder l) : EyesInOrder (insertEye e l) := by
  induction l with
  | nil => exact List.pairwise_singleton ..
  | cons a l ih =>
    obtain ⟨hfirst, hrest⟩ := List.pairwise_cons.mp h
    unfold insertEye
    split
    next hlt =>
      exact List.pairwise_cons.mpr ⟨fun f hf => (List.mem_cons.mp hf).elim (fun hf => hf ▸ Nat.le_of_lt hlt)
        fun hf => Nat.le_trans (Nat.le_of_lt hlt) (hfirst f hf), h⟩
    next hge =>
      refine List.pairwise_cons.mpr ⟨fun f hf => ?_, ih hrest⟩
      obtain rfl | hf := (mem_insertEye e f l).mp hf
      · exact Nat.le_of_not_lt hge
      · exact hfirst f hf

theorem foldl_insertEye (es : List (Nat × Nat)) : ∀ l, EyesInOrder l →
    EyesInOrder (es.foldl (fun l e => insertEye e l) l) ∧
    ∀ f, f ∈ es.foldl (fun l e => insertEye e l) l ↔ f ∈ es ∨ f ∈ l := by
  induction es with
  | nil => exact fun l h => ⟨h, fun f => by simp⟩
  | cons e es ih =>
    intro l h
    obtain ⟨hsorted, hmem⟩ := ih _ (insertEye_inOrder e h)
    refine ⟨hsorted, fun f => ?_⟩
    rw [List.foldl_cons, hmem, mem_insertEye, List.mem_cons, or_assoc]
    exact or_left_comm

theorem mem_addrsWhere {s : State} {t : NodeRecord → Bool} {a : Nat} :
    a ∈ s.addrsWhere t ↔ a < 64 ∧ t (s.node a) = true := by
  unfold State.addrsWhere
  rw [List.mem_filter, List.mem_range]

theorem checkEyes_inOrder (s : State) : EyesInOrder s.checkEyes := (foldl_insertEye _ [] .nil).1

theorem mem_checkEyes (s : State) (a pos : Nat) :
    (a, pos) ∈ s.checkEyes ↔ a < 64 ∧ (s.node a).role = .checkEye ∧ (s.node a).position = pos := by
  refine ((foldl_insertEye _ [] .nil).2 (a, pos)).trans ?_
  rw [or_iff_left List.not_mem_nil, List.mem_map]
  constructor
  · rintro ⟨b, hb, heq⟩
    obtain ⟨rfl, rfl⟩ := Prod.mk.inj heq
    obtain ⟨hlt, hrole⟩ := mem_addrsWhere.mp hb
    exact ⟨hlt, eq_of_beq hrole, rfl⟩
  · rintro ⟨hlt, hrole, rfl⟩
    exact ⟨a, mem_addrsWhere.mpr ⟨hlt, beq_iff_eq.mpr hrole⟩, rfl⟩

/-! ## Lanes opened (R50) -/

theorem present_of_nodes {s t : State} (h : t.nodes = s.nodes) (l : Nat) : t.present l = s.present l := by
  simp only [State.present, State.laneAddr, findNode_of_nodes h]

theorem openPresent_frame_nodes (s : State) (l : Nat) : (s.openPresent l).nodes = s.nodes := by
  unfold State.openPresent
  split <;> rfl

theorem openPresent_length (s : State) (l : Nat) : (s.openPresent l).sales.lanes.length = s.sales.lanes.length := by
  unfold State.openPresent
  split
  · exact List.length_set
  · rfl

theorem openPresent_lane (s : State) (l : Nat) {k : Nat} (hk : k < s.sales.lanes.length) : (s.openPresent l).lane k =
    if k = l then { s.lane k with isOpen := s.present k || (s.lane k).isOpen } else s.lane k := by
  unfold State.openPresent
  by_cases hl : k = l
  · subst hl
    rw [if_pos rfl]
    cases s.present k with
    | true => exact lane_setLane _ hk
    | false => rfl
  · rw [if_neg hl]
    split
    · exact lane_setLane_ne s _ hl
    · rfl

theorem foldl_openPresent_lane (ls : List Nat) : ∀ {s : State} {k : Nat}, k < s.sales.lanes.length →
    (ls.foldl State.openPresent s).lane k =
      if k ∈ ls then { s.lane k with isOpen := s.present k || (s.lane k).isOpen } else s.lane k := by
  induction ls with
  | nil => exact fun _ => (if_neg List.not_mem_nil).symm
  | cons l ls ih =>
    intro s k hk
    rw [List.foldl_cons, ih (by rw [openPresent_length]; exact hk), openPresent_lane s l hk,
      present_of_nodes (openPresent_frame_nodes s l)]
    by_cases hl : k = l
    · rw [if_pos hl, if_pos (List.mem_cons.mpr (.inl hl))]
      dsimp only
      rw [← Bool.or_assoc, Bool.or_self]
      exact ite_self _
    · rw [if_neg hl]
      exact ite_cond_congr (propext (by rw [List.mem_cons, or_iff_right hl]))

/-! ## ARM (R175) -/

theorem exec_arm {seq : Byte} {args : List Byte} {s : State} (h : Taken (.arm seq args) s) :
    exec (.arm seq args) s = .next (
      let u := s.without (.arm seq args)
      if s.halt.mode ≠ .offline then u.reply seq 3 .wrongMode []
      else if s.halt.causes ≠ [] then u.reply seq 3 .causeLatched []
      else match s.armRefusal with
        | some d => u.reply seq 3 .badValue d
        | none => u.arm.reply seq 3 .ok []) := (taking_eq _ h rfl).trans rfl

/-- The state in which ARM has built the check-eye list and opened the lanes. -/
def State.lanesOpened (s : State) : State :=
  [0, 1, 2].foldl State.openPresent (s.setTrack { s.track with eyes := s.checkEyes })

theorem lanesOpened_frame (s : State) : SameExcept [.track, .sales] s s.lanesOpened :=
  ((setTrack_frame ..).within (by decide)).trans (SameExcept.foldl (fun t l => by
    unfold State.openPresent
    exact .ite ((setSales_frame ..).within (by decide)) .refl) _ _)

theorem lanesOpened_orderly (s : State) : Orderly s s.lanesOpened := by
  unfold State.lanesOpened
  exact (setTrack_orderly ..).trans (Orderly.foldl openPresent_orderly _ _)

theorem lanesOpened_track (s : State) : s.lanesOpened.track = { s.track with eyes := s.checkEyes } := by
  have opens (t : State) (l : Nat) : SameExcept [.sales] t (t.openPresent l) := by
    unfold State.openPresent
    exact .ite (setSales_frame ..) .refl
  exact (SameExcept.foldl (g := State.openPresent) opens [0, 1, 2] _).same .track (by decide)

theorem lanesOpened_lane {s : State} (h : s.sales.lanes.length = 3) {l : Nat} (hl : l < 3) :
    s.lanesOpened.lane l = { s.lane l with isOpen := s.present l || (s.lane l).isOpen } := by
  refine (foldl_openPresent_lane [0, 1, 2] (s := s.setTrack _) (by rw [State.setTrack_sales, h]; exact hl)).trans
    (if_pos ?_)
  simp only [List.mem_cons, List.not_mem_nil, or_false]
  omega

/-- The state in which ARM is reviewed. -/
def State.arming (s : State) : State := (s.lanesOpened.enterMode .armed).notifyHalt (some .armed) none

theorem arm_eq (s : State) : s.arm = s.arming.review := rfl

theorem arming_after (s : State) : SameExcept [.mgmt] (s.lanesOpened.enterMode .armed) s.arming := by
  unfold State.arming
  exact notifyHalt_frame ..

theorem arming_halt (s : State) : s.arming.halt = { s.halt with mode := .armed, permit := true } := by
  rw [(arming_after s).same .halt (by decide)]
  refine (enterMode_halt ..).trans ?_
  rw [(lanesOpened_frame _).same .halt (by decide)]
  rfl

theorem arming_track (s : State) : s.arming.track = { s.track with eyes := s.checkEyes, drift := 0 } := by
  rw [(arming_after s).same .track (by decide)]
  refine (enterMode_track ..).trans ((if_pos rfl).trans ?_)
  rw [lanesOpened_track]

theorem arming_lane {s : State} (h : s.sales.lanes.length = 3) {l : Nat} (hl : l < 3) :
    s.arming.lane l = { s.lane l with isOpen := s.present l || (s.lane l).isOpen } := by
  have sales : s.arming.sales = s.lanesOpened.sales :=
    ((arming_after s).same .sales (by decide)).trans ((enterMode_frame ..).same .sales (by decide))
  rw [lane_of_sales sales, lanesOpened_lane h hl]

theorem arming_merge (s : State) : s.arming.merge = s.merge :=
  ((arming_after s).same .merge (by decide)).trans
    (((enterMode_frame ..).same .merge (by decide)).trans ((lanesOpened_frame s).same .merge (by decide)))

theorem arming_noticed {s : State} (hs : Shape s) : Noticed .halt (reason 2) s.arming := by
  unfold State.arming
  exact notify_noticed _ _ _ (((lanesOpened_orderly s).trans (enterMode_orderly _ .armed)).shape hs).notices

/-! ## Lanes closed with TUNNEL_OFFLINE (R50, R176) -/

theorem exec_disarm {seq : Byte} {args : List Byte} {s : State} (h : Taken (.disarm seq args) s) :
    exec (.disarm seq args) s = .next (
      let u := s.without (.disarm seq args)
      if s.halt.mode ≠ .armed ∧ s.halt.mode ≠ .halted then u.reply seq 4 .wrongMode []
      else if s.disarmBarred then u.reply seq 4 .conditionPresent []
      else u.disarm.reply seq 4 .ok []) := (taking_eq _ h rfl).trans rfl

theorem disarmBarred_iff (s : State) : s.disarmBarred = true ↔
    s.track.cars ≠ [] ∨ s.halt.mode = .armed ∧ s.track.conveyor ≠ .stopped := by
  unfold State.disarmBarred
  rw [Bool.or_eq_true, Bool.and_eq_true, Bool.not_eq_true', beq_iff_eq, bne_iff_ne]
  exact or_congr_left (by rw [← Bool.not_eq_true, List.isEmpty_iff])

/-- A lane as its closing leaves it. -/
def LaneSales.closed (v : LaneSales) : LaneSales :=
  if v.isOpen then { v with isOpen := false, slot := v.slot.voided } else v

theorem LaneSales.closed_isOpen (v : LaneSales) : v.closed.isOpen = false := by
  unfold LaneSales.closed
  split
  · rfl
  next h => exact Bool.eq_false_iff.mpr h

theorem LaneSales.closed_queue (v : LaneSales) : v.closed.queue = v.queue := by
  unfold LaneSales.closed
  split <;> rfl

theorem LaneSales.closed_slot {v : LaneSales} (h : v.isOpen = true) : v.closed.slot = v.slot.voided := by
  rw [LaneSales.closed, if_pos h]

theorem LaneSales.closed_closed (v : LaneSales) : v.closed.closed = v.closed := by
  rw [closed, if_neg (by rw [closed_isOpen]; decide)]

theorem closeLane_length (s : State) (l : Nat) (r : Option Reply) :
    (s.closeLane l r).sales.lanes.length = s.sales.lanes.length := by
  cases h : (s.lane l).isOpen with
  | true =>
    rw [closeLane_open r h]
    exact List.length_set.trans (voidQuote_lanes_length s l r)
  | false => rw [closeLane_closed r h]

theorem foldl_closeLane_lane (r : Option Reply) (ls : List Nat) : ∀ {s : State} {k : Nat}, k < s.sales.lanes.length →
    (ls.foldl (fun t l => t.closeLane l r) s).lane k = if k ∈ ls then (s.lane k).closed else s.lane k := by
  induction ls with
  | nil => exact fun _ => (if_neg List.not_mem_nil).symm
  | cons l ls ih =>
    intro s k hk
    rw [List.foldl_cons, ih (by rw [closeLane_length]; exact hk)]
    by_cases hl : k = l
    · subst hl
      have one : (s.closeLane k r).lane k = (s.lane k).closed := closeLane_lane hk r
      rw [one, if_pos (List.mem_cons_self), LaneSales.closed_closed]
      exact ite_self _
    · rw [closeLane_lane_ne s hl]
      exact ite_cond_congr (propext (by rw [List.mem_cons, or_iff_right hl]))

/-- The reply of one close. -/
theorem closeLane_replies (s : State) (l : Nat) (r : Reply) : (s.closeLane l (some r)).portF =
    if (s.lane l).isOpen = true ∧ (s.slot l).state ≠ .empty then
      (s.quoteReply l r (some (s.slot l).token) 0).portF
    else s.portF := by
  cases h : (s.lane l).isOpen with
  | true =>
    rw [closeLane_open _ h]
    refine (voidQuote_portF s l r).trans ?_
    by_cases he : (s.slot l).state = .empty
    · rw [if_pos he, if_neg fun k => k.2 he]
    · rw [if_neg he, if_pos ⟨rfl, he⟩]
  | false =>
    rw [closeLane_closed _ h, if_neg fun k => Bool.false_ne_true k.1]

/-- The reply that the closing of a lane of `s` sends, from a state with its nodes. -/
def State.replyClosed (s : State) (r : Reply) (u : State) (l : Nat) : State :=
  if (s.lane l).isOpen = true ∧ (s.slot l).state ≠ .empty then u.quoteReply l r (some (s.slot l).token) 0 else u

theorem replyClosed_nodes (s : State) (r : Reply) (u : State) (l : Nat) : (s.replyClosed r u l).nodes = u.nodes := by
  unfold State.replyClosed
  split
  · exact (quoteReply_frame ..).same .nodes (by decide)
  · rfl

/-- The answers to all lanes, said as the replies of their closing. -/
theorem answerLanes_replyClosed {s u : State} (slots : ∀ l, u.slot l = s.slot l) (r : Reply) :
    u.answerLanes (fun l => if (s.lane l).isOpen = true ∧ (s.slot l).state ≠ .empty then some (r, 0) else none) =
      [0, 1, 2].foldl (s.replyClosed r) u := by
  unfold State.answerLanes
  refine congrArg (fun g => List.foldl g u [0, 1, 2]) (funext fun v => funext fun l => ?_)
  unfold State.replyClosed
  rw [slots]
  by_cases h : (s.lane l).isOpen = true ∧ (s.slot l).state ≠ .empty
  · simp only [if_pos h]
  · simp only [if_neg h]

/-- The answers of lanes closed one after another are those of a state whose lanes stand. -/
theorem foldl_closeLane_portF {s : State} (r : Reply) {ls : List Nat} (hnodup : ls.Nodup) : ∀ t u : State,
    t.nodes = u.nodes → t.portF = u.portF → (∀ k ∈ ls, t.lane k = s.lane k) →
    (ls.foldl (fun t l => t.closeLane l (some r)) t).portF = (ls.foldl (s.replyClosed r) u).portF := by
  induction ls with
  | nil => exact fun t u _ hport _ => hport
  | cons l ls ih =>
    intro t u hnodes hport hlanes
    obtain ⟨hl, hrest⟩ := List.nodup_cons.mp hnodup
    have hlane := hlanes l List.mem_cons_self
    have hslot := slot_of_lane hlane
    refine ih hrest _ _ (((closeLane_frame ..).same .nodes (by decide)).trans
      (hnodes.trans (replyClosed_nodes s r u l).symm)) ?_ fun k hk => ?_
    · rw [closeLane_replies, hlane, hslot]
      unfold State.replyClosed
      split
      · exact quoteReply_portF_of (kioskAddr_of_nodes hnodes l) hport ..
      · exact hport
    · rw [closeLane_lane_ne t (ne_of_mem_of_not_mem hk hl)]
      exact hlanes k (List.mem_cons_of_mem _ hk)

/-! ## The gates' commands of a disarming (R109, R176) -/

/-- CLOSE sent to a lane's gate. -/
def State.sendClose (s : State) (l : Nat) : State := s.toField (s.gateAddr l) 0x32 [2]

theorem sendClose_nodes (s : State) (l : Nat) : (s.sendClose l).nodes = s.nodes :=
  (toField_frame ..).same .nodes (by decide)

theorem sendClose_portF {s t : State} (nodes : t.nodes = s.nodes) (port : t.portF = s.portF) (l : Nat) :
    (t.sendClose l).portF = (s.sendClose l).portF := by
  unfold State.sendClose
  rw [gateAddr_of_nodes nodes]
  exact toField_portF s t _ _ _ port

theorem withdraw_portF {s : State} {g : Grant} (grant : s.merge.grant = some g) :
    s.withdraw.portF = (s.sendClose g.lane).portF := by
  cases head : s.headOrder g.lane with
  | none =>
    rw [withdraw_empty grant head]
    exact toField_portF s _ (s.gateAddr g.lane) 0x32 [2] rfl
  | some r => exact (withdraw_parts grant head).2.2

theorem closeIfOpen_mergeLane_ne (s : State) {l k : Nat} (h : k ≠ l) : (s.closeIfOpen l).mergeLane k = s.mergeLane k := by
  by_cases hg : (s.mergeLane l).gate = .opening ∨ (s.mergeLane l).gate = .isOpen
  · rw [closeIfOpen_open hg, State.mergeLane, closeGate_merge, withGate_lane_ne _ _ h]
    rfl
  · rw [closeIfOpen_closed hg]

/-- Gates closed one after another send one command to each open one. -/
theorem foldl_closeIfOpen_portF (p : Nat → Bool) {ls : List Nat} (hnodup : ls.Nodup) : ∀ t u : State,
    t.nodes = u.nodes → t.portF = u.portF →
    (∀ k ∈ ls, ((t.mergeLane k).gate = .opening ∨ (t.mergeLane k).gate = .isOpen) ↔ p k = true) →
    (ls.foldl State.closeIfOpen t).portF = ((ls.filter p).foldl State.sendClose u).portF := by
  induction ls with
  | nil => exact fun t u _ hport _ => hport
  | cons l ls ih =>
    intro t u hnodes hport hgates
    obtain ⟨hl, hrest⟩ := List.nodup_cons.mp hnodup
    have others : ∀ k ∈ ls, (((t.closeIfOpen l).mergeLane k).gate = .opening ∨
        ((t.closeIfOpen l).mergeLane k).gate = .isOpen) ↔ p k = true := fun k hk => by
      rw [closeIfOpen_mergeLane_ne t (ne_of_mem_of_not_mem hk hl)]
      exact hgates k (List.mem_cons_of_mem _ hk)
    by_cases hopen : (t.mergeLane l).gate = .opening ∨ (t.mergeLane l).gate = .isOpen
    · rw [List.filter_cons_of_pos ((hgates l List.mem_cons_self).mp hopen)]
      refine ih hrest _ _ (((closeIfOpen_frame t l).same .nodes (by decide)).trans
        (hnodes.trans (sendClose_nodes u l).symm)) ?_ others
      rw [closeIfOpen_open hopen]
      exact sendClose_portF hnodes hport l
    · rw [List.filter_cons_of_neg (mt (hgates l List.mem_cons_self).mpr hopen), List.foldl_cons,
        closeIfOpen_closed hopen]
      rw [closeIfOpen_closed hopen] at others
      exact ih hrest t u hnodes hport others

/-- The commands of a withdrawal and of the gates closed after it: the granted lane's first. -/
theorem withdraw_closeOpenGates_portF {s t : State} (hlen : t.merge.lanes.length = 3) (merge : t.merge = s.merge) {u : State}
    (nodes : t.nodes = u.nodes) (port : t.portF = u.portF) : t.withdraw.closeOpenGates.portF =
      (((s.merge.grant.map (·.lane)).toList ++ [0, 1, 2].filter fun l => l ∉ (s.merge.grant.map (·.lane)).toList ∧
        ((s.mergeLane l).gate = .opening ∨ (s.mergeLane l).gate = .isOpen)).foldl State.sendClose u).portF := by
  have first : t.withdraw.portF = ((s.merge.grant.map (·.lane)).toList.foldl State.sendClose u).portF ∧
      t.withdraw.nodes = ((s.merge.grant.map (·.lane)).toList.foldl State.sendClose u).nodes := by
    have wnodes : t.withdraw.nodes = t.nodes := (withdraw_frame t).same .nodes (by decide)
    cases grant : s.merge.grant with
    | none =>
      rw [withdraw_none (by rw [merge, grant])]
      exact ⟨port, nodes⟩
    | some g =>
      refine ⟨?_, wnodes.trans (nodes.trans (sendClose_nodes u g.lane).symm)⟩
      rw [withdraw_portF (by rw [merge, grant])]
      exact sendClose_portF nodes port g.lane
  rw [List.foldl_append]
  refine foldl_closeIfOpen_portF _ (by decide) _ _ first.2 first.1 fun k hk => ?_
  have hlt : k < 3 := by
    simp only [List.mem_cons, List.not_mem_nil, or_false] at hk
    omega
  rw [withdraw_mergeLane (hlen.symm ▸ hlt), mergeLane_of_merge merge, merge, decide_eq_true_iff]
  cases grant : s.merge.grant with
  | none => simp
  | some g =>
    by_cases hg : g.lane = k
    · simp [hg]
    · simp [hg, Ne.symm hg]

/-! ## DISARM (R176) -/

/-- The state in which DISARM has closed the lanes. -/
def State.lanesClosed (s : State) : State :=
  [0, 1, 2].foldl (fun t l => t.closeLane l (some .tunnelOffline)) (s.enterMode .offline)

theorem disarm_eq (s : State) : s.disarm =
    s.lanesClosed.withdraw.closeOpenGates.notifyHalt (some .offline) none := rfl

theorem foldl_closeLane_frame (ls : List Nat) (s : State) : SameExcept [.sales, .members, .portF, .mgmt] s
    (ls.foldl (fun t l => t.closeLane l (some .tunnelOffline)) s) :=
  SameExcept.foldl (fun t l => (closeLane_frame t l _).within (by decide)) ls s

theorem disarm_after (s : State) : SameExcept [.sales, .start, .portF, .mgmt, .merge] s.lanesClosed s.disarm := by
  rw [disarm_eq]
  exact ((withdraw_frame _).trans ((closeOpenGates_frame _).within (by decide))).trans
    ((notifyHalt_frame ..).within (by decide))

/-- Port F at a change of mode: the frames the new mode blocks leave the normal queue. -/
theorem enterMode_portF (s : State) (m : Mode) : (s.enterMode m).portF =
    { s.portF with normal := s.portF.normal.filter fun f => !blockedIn m f } := by
  obtain ⟨t, ht, hmode, -, hport⟩ := enterMode_eq s m
  have swept : t.sweep.portF = { t.portF with normal := t.portF.normal.filter fun f => !blockedIn t.halt.mode f } := by
    unfold State.sweep
    exact (SameExcept.foldl (g := fun u (_ : OutFrame) => u.countBlocked) (fun u _ => countBlocked_frame u) _ _).same .portF
      (by decide)
  rw [ht, swept, hmode, hport]

theorem lanesClosed_frame (s : State) :
    SameExcept [.sales, .members, .portF, .mgmt] (s.enterMode .offline) s.lanesClosed := foldl_closeLane_frame ..

theorem lanesClosed_lane {s : State} (h : s.sales.lanes.length = 3) {l : Nat} (hl : l < 3) :
    s.lanesClosed.lane l = (s.lane l).closed := by
  have sales : (s.enterMode .offline).sales = s.sales := (enterMode_frame ..).same .sales (by decide)
  refine (foldl_closeLane_lane _ [0, 1, 2] (s := s.enterMode .offline) (by rw [sales, h]; exact hl)).trans ?_
  rw [lane_of_sales sales]
  refine if_pos ?_
  simp only [List.mem_cons, List.not_mem_nil, or_false]
  omega

theorem disarm_halt (s : State) : s.disarm.halt = { s.halt with mode := .offline, permit := false } :=
  ((disarm_after s).same .halt (by decide)).trans
    (((lanesClosed_frame s).same .halt (by decide)).trans (enterMode_halt s .offline))

theorem disarm_track (s : State) : s.disarm.track = s.track :=
  ((disarm_after s).same .track (by decide)).trans
    (((lanesClosed_frame s).same .track (by decide)).trans (enterMode_track s .offline))

theorem disarm_merge (s : State) : s.disarm.merge = s.lanesClosed.withdraw.closeOpenGates.merge := by
  rw [disarm_eq]
  exact (notifyHalt_frame ..).same .merge (by decide)

theorem lanesClosed_merge (s : State) : s.lanesClosed.merge = s.merge :=
  ((lanesClosed_frame s).same .merge (by decide)).trans ((enterMode_frame ..).same .merge (by decide))

/-- The lanes' records are those of their closing: neither the grant nor the gates touch them. -/
theorem disarm_lane {s : State} (h : s.sales.lanes.length = 3) {l : Nat} (hl : l < 3) :
    s.disarm.lane l = (s.lane l).closed := by
  have sales : s.disarm.sales = s.lanesClosed.withdraw.sales := by
    rw [disarm_eq]
    exact ((notifyHalt_frame ..).same .sales (by decide)).trans ((closeOpenGates_frame _).same .sales (by decide))
  have lanes : s.disarm.lane l = s.lanesClosed.lane l := by
    rw [State.lane, State.lane, sales, (withdraw_lanes _).1]
  rw [lanes, lanesClosed_lane h hl]

/-- The frames a disarming sends, from any state with the nodes, the port and the slots of the change of mode. -/
theorem disarm_portF {s e : State} (hs : Shape s) (nodes : e.nodes = s.nodes) (port : e.portF = (s.enterMode .offline).portF)
    (slots : ∀ l, e.slot l = s.slot l) : s.disarm.portF =
      (((s.merge.grant.map (·.lane)).toList ++ [0, 1, 2].filter fun l => l ∉ (s.merge.grant.map (·.lane)).toList ∧
        ((s.mergeLane l).gate = .opening ∨ (s.mergeLane l).gate = .isOpen)).foldl State.sendClose (e.answerLanes fun l =>
          if (s.lane l).isOpen = true ∧ (s.slot l).state ≠ .empty then some (.tunnelOffline, 0) else none)).portF := by
  have entered : (s.enterMode .offline).nodes = s.nodes := (enterMode_frame ..).same .nodes (by decide)
  have sales : (s.enterMode .offline).sales = s.sales := (enterMode_frame ..).same .sales (by decide)
  have told : s.lanesClosed.portF = (e.answerLanes fun l =>
      if (s.lane l).isOpen = true ∧ (s.slot l).state ≠ .empty then some (.tunnelOffline, 0) else none).portF := by
    rw [answerLanes_replyClosed slots]
    exact foldl_closeLane_portF .tunnelOffline (by decide) _ _ (entered.trans nodes.symm) port.symm
      fun k _ => lane_of_sales sales k
  have answered : s.lanesClosed.nodes = (e.answerLanes fun l =>
      if (s.lane l).isOpen = true ∧ (s.slot l).state ≠ .empty then some (Reply.tunnelOffline, 0) else none).nodes := by
    rw [(answerLanes_frame ..).same .nodes (by decide), nodes, (lanesClosed_frame s).same .nodes (by decide), entered]
  have noticed : s.disarm.portF = s.lanesClosed.withdraw.closeOpenGates.portF := by
    rw [disarm_eq]
    exact (notifyHalt_frame ..).same .portF (by decide)
  rw [noticed]
  exact withdraw_closeOpenGates_portF (by rw [lanesClosed_merge, hs.merge]) (lanesClosed_merge s) answered told

theorem lanesClosed_orderly (s : State) : Orderly s s.lanesClosed := by
  unfold State.lanesClosed
  exact (enterMode_orderly ..).trans (Orderly.foldl (fun t l => closeLane_orderly t l _) _ _)

theorem disarm_noticed {s : State} (hs : Shape s) : Noticed .halt (reason 1) s.disarm := by
  rw [disarm_eq]
  exact notify_noticed _ _ _
    ((((lanesClosed_orderly s).trans (withdraw_orderly _)).trans (closeOpenGates_orderly _)).shape hs).notices

theorem disarm_grant (s : State) : s.disarm.merge.grant = none := by
  rw [disarm_merge, (closeOpenGates_grantSame _).grant, withdraw_grant]

theorem disarm_admitTimer {s : State} (h : s.merge.grant ≠ none) : s.disarm.merge.admitTimer = none := by
  rw [disarm_merge, (closeOpenGates_grantSame _).admitTimer]
  exact withdraw_admitTimer (by rw [lanesClosed_merge]; exact h)

theorem disarm_gate {s : State} (hs : Shape s) {l : Nat} (hl : l < 3)
    (gate : (s.mergeLane l).gate = .opening ∨ (s.mergeLane l).gate = .isOpen) :
    (s.disarm.mergeLane l).gate = .closing := by
  rw [← mergeLane_of_merge (lanesClosed_merge s)] at gate
  rw [mergeLane_of_merge (disarm_merge s)]
  exact withdraw_closeOpenGates_gate (by rw [lanesClosed_merge]; exact hs.merge) hl gate

theorem disarm_closed {s : State} (hs : Shape s) {l : Nat} (hl : l < 3) :
    (s.disarm.lane l).isOpen = false ∧ (s.disarm.lane l).queue = (s.lane l).queue ∧
      ((s.lane l).isOpen = true → (s.disarm.slot l).state = .empty ∧
        ((s.slot l).state ≠ .empty → (s.disarm.slot l).life = none)) := by
  rw [State.slot, disarm_lane hs.lanes hl]
  refine ⟨LaneSales.closed_isOpen _, LaneSales.closed_queue _, fun hopen => ?_⟩
  rw [LaneSales.closed_slot hopen]
  exact ⟨Slot.voided_state _, Slot.voided_life⟩

/-- Settles O48: arming opens the lanes and lists the eyes, disarming closes lanes, grant and gates in turn. -/
theorem armAndDisarmChangeTheMode : Obligations.ArmAndDisarmChangeTheMode := by
  refine ⟨fun seq args s hs htaken => ?arm, fun seq args s hs htaken => ?disarm⟩
  case arm =>
    dsimp only
    rw [exec_arm htaken]
    dsimp only
    refine ⟨fun hmode => congrArg _ (if_pos hmode), fun hmode hcauses => ?_, fun hmode hcauses d hd => ?_,
      fun hmode hcauses hfine => ?_⟩
    · exact congrArg _ ((if_neg (not_not_intro hmode)).trans (if_pos hcauses))
    · rw [if_neg (not_not_intro hmode), if_neg (not_not_intro hcauses), hd]
    · have hu := hs.without (.arm seq args)
      have track := arming_track (s.without (.arm seq args))
      refine ⟨(s.without (.arm seq args)).arming, ?_, arming_halt _, ?_, ?_, ?_, ?_, fun l hl => arming_lane hu.lanes hl,
        arming_merge _, arming_noticed hu⟩
      · rw [if_neg (not_not_intro hmode), if_neg (not_not_intro hcauses), hfine]
        exact congrArg (fun t => Host.Outcome.next (State.reply t seq 3 .ok [])) (arm_eq _)
      · rw [track]
      · rw [track]
        rfl
      · rw [track]
        exact checkEyes_inOrder s
      · rw [track]
        exact mem_checkEyes s
  case disarm =>
    dsimp only
    rw [exec_disarm htaken]
    dsimp only
    refine ⟨fun h1 h2 => congrArg _ (if_pos ⟨h1, h2⟩), fun hmode => ⟨fun hbarred => ?_, fun hfree => ?_⟩⟩
    · rw [if_neg fun h => hmode.elim h.1 h.2, if_pos ((disarmBarred_iff s).mpr hbarred)]
    · have hu := hs.without (.disarm seq args)
      have hno : s.disarmBarred = false := Bool.eq_false_iff.mpr fun h => hfree ((disarmBarred_iff s).mp h)
      refine ⟨(s.without (.disarm seq args)).disarm, ?_, disarm_halt _, disarm_track _, fun l hl => disarm_closed hu hl,
        disarm_grant _, disarm_admitTimer (s := s.without _), fun l hl => disarm_gate hu hl, ?_, disarm_noticed hu⟩
      · rw [if_neg fun h => hmode.elim h.1 h.2]
        exact congrArg _ (if_neg (Bool.eq_false_iff.mp hno))
      · refine disarm_portF (e := s.enterMode .offline) hu ((enterMode_frame ..).same .nodes (by decide)) ?_ fun l => ?_
        · rw [enterMode_portF, enterMode_portF]
          rfl
        · exact slot_of_lane (lane_of_sales ((enterMode_frame ..).same .sales (by decide)) l)

end Sys2Proof.Machine
end

section
/-!
The checks of ARM (R144, R175, Table 8-5): what each of them asks of the configuration, and the obligation O49.
-/
namespace Sys2Proof.Machine

-- Proofs in order: a thread that waits for another proof counts against the check's memory limit.
set_option Elab.async false

/-! ## Searches over addresses and entries -/

theorem findNode_none {s : State} {t : NodeRecord → Bool} :
    s.findNode t = none ↔ ∀ a, a < 64 → ¬t (s.node a) = true := by
  unfold State.findNode
  rw [List.find?_eq_none]
  exact forall_congr' fun a => by rw [List.mem_range]

theorem find_range_none {n : Nat} {t : Nat → Bool} :
    (List.range n).find? t = none ↔ ∀ i, i < n → ¬t i = true := by
  rw [List.find?_eq_none]
  exact forall_congr' fun a => by rw [List.mem_range]

theorem addrsWhere_nodup (s : State) (t : NodeRecord → Bool) : (s.addrsWhere t).Nodup := List.nodup_range.filter _

/-- A list without repetition whose every element is one value is that value alone. -/
theorem eq_singleton_of_nodup {l : List Nat} {a : Nat} (nodup : l.Nodup) (mem : a ∈ l) (only : ∀ b ∈ l, b = a) :
    l = [a] := by
  cases l with
  | nil => cases mem
  | cons x l =>
    obtain ⟨hx, -⟩ := List.nodup_cons.mp nodup
    obtain rfl := only x List.mem_cons_self
    cases l with
    | nil => rfl
    | cons y l =>
      obtain rfl := only y (List.mem_cons_of_mem _ List.mem_cons_self)
      exact absurd List.mem_cons_self hx

/-! ## The table's first checks -/

theorem checkSlip_none (s : State) : s.checkSlip = none ↔ s.param .trackTol < s.param .slipLimit := by
  unfold State.checkSlip
  split <;> simp [*]

theorem checkQueue_none (s : State) : s.checkQueue = none ↔ s.param .resumeAt < s.param .pauseAt := by
  unfold State.checkQueue
  split <;> simp [*]

/-- One record alone stands in a role. -/
def State.lone (s : State) (r : Role) : Prop :=
  ∃ a, a < 64 ∧ (s.node a).role = r ∧ ∀ b, b < 64 → (s.node b).role = r → b = a

theorem addrsWhere_lone (s : State) (r : Role) : s.lone r ↔ ∃ a, s.addrsWhere (fun n => n.role == r) = [a] := by
  constructor
  · rintro ⟨a, ha, hr, honly⟩
    refine ⟨a, eq_singleton_of_nodup (addrsWhere_nodup ..) (mem_addrsWhere.mpr ⟨ha, beq_iff_eq.mpr hr⟩) fun b hb => ?_⟩
    obtain ⟨hlt, hrole⟩ := mem_addrsWhere.mp hb
    exact honly b hlt (eq_of_beq hrole)
  · rintro ⟨a, hl⟩
    have mem (b : Nat) : b ∈ s.addrsWhere (fun n => n.role == r) ↔ b = a := by rw [hl, List.mem_singleton]
    obtain ⟨ha, hr⟩ := mem_addrsWhere.mp ((mem a).mpr rfl)
    exact ⟨a, ha, eq_of_beq hr, fun b hb hrole => (mem b).mp (mem_addrsWhere.mpr ⟨hb, beq_iff_eq.mpr hrole⟩)⟩

theorem checkRole_none (s : State) (r : Role) : s.checkRole r = none ↔ s.lone r := by
  rw [addrsWhere_lone]
  unfold State.checkRole
  split
  next a h => exact ⟨fun _ => ⟨a, h⟩, fun _ => rfl⟩
  next h => exact ⟨fun h => (nomatch h), fun ⟨a, ha⟩ => absurd ha (h a)⟩

theorem checkWheel_none (s : State) : s.checkWheel = none ↔
    ∀ a, a < 64 → (s.node a).role = .wheelSwitch → (s.node a).position < s.param .rollerLimit := by
  unfold State.checkWheel
  rw [Option.map_eq_none_iff, findNode_none]
  refine forall_congr' fun a => forall_congr' fun _ => ?_
  simp

/-! ## The check eyes -/

theorem insertEye_perm (e : Nat × Nat) (l : List (Nat × Nat)) : (insertEye e l).Perm (e :: l) := by
  induction l with
  | nil => exact .refl _
  | cons a l ih =>
    unfold insertEye
    split
    · exact .refl _
    · exact (ih.cons a).trans (List.Perm.swap ..)

theorem foldl_insertEye_perm (es : List (Nat × Nat)) : ∀ l,
    (es.foldl (fun l e => insertEye e l) l).Perm (es ++ l) := by
  induction es with
  | nil => exact fun l => .refl l
  | cons e es ih => exact fun l => (ih _).trans (((insertEye_perm e l).append_left es).trans List.perm_middle)

/-- The check eyes before they are put in order. -/
def State.eyeRecords (s : State) : List (Nat × Nat) :=
  (s.addrsWhere fun r => r.role == .checkEye).map fun a => (a, (s.node a).position)

theorem checkEyes_perm (s : State) : s.checkEyes.Perm s.eyeRecords := by
  have := foldl_insertEye_perm s.eyeRecords []
  rw [List.append_nil] at this
  exact this

theorem nodes_eq_map {s : State} (h : s.nodes.length = 64) : s.nodes = (List.range 64).map s.node := by
  refine List.ext_getElem (by rw [List.length_map, List.length_range, h]) fun i hi _ => ?_
  rw [List.getElem_map, List.getElem_range, State.node, getD_of_lt _ _ hi]

theorem checkEyes_length {s : State} (h : s.nodes.length = 64) :
    s.checkEyes.length = s.nodes.countP fun n => n.role == .checkEye := by
  rw [(checkEyes_perm s).length_eq, State.eyeRecords, List.length_map, State.addrsWhere, ← List.countP_eq_length_filter,
    nodes_eq_map h, List.countP_map]
  rfl

theorem checkEyeCount_none {s : State} (h : s.nodes.length = 64) :
    s.checkEyeCount = none ↔ (s.nodes.countP fun n => n.role == .checkEye) ≤ 8 := by
  unfold State.checkEyeCount
  rw [Option.map_eq_none_iff, List.getElem?_eq_none_iff, checkEyes_length h]

/-- In a list in order of position, no neighbours share one exactly where no two elements do. -/
theorem sharedPosition_none {l : List (Nat × Nat)} (h : EyesInOrder l) :
    sharedPosition l = none ↔ l.Pairwise fun e f => e.2 < f.2 := by
  induction l with
  | nil => exact ⟨fun _ => .nil, fun _ => rfl⟩
  | cons a l ih =>
    obtain ⟨hfirst, hrest⟩ := List.pairwise_cons.mp h
    cases l with
    | nil => exact ⟨fun _ => List.pairwise_singleton .., fun _ => rfl⟩
    | cons b l =>
      have hab := hfirst b List.mem_cons_self
      obtain ⟨hnext, -⟩ := List.pairwise_cons.mp hrest
      rw [List.pairwise_cons, ← ih hrest, sharedPosition]
      by_cases heq : a.2 = b.2
      · rw [if_pos heq]
        exact ⟨fun h => (nomatch h), fun ⟨h, _⟩ => absurd heq (Nat.ne_of_lt (h b List.mem_cons_self))⟩
      · have hlt : a.2 < b.2 := Nat.lt_of_le_of_ne hab heq
        rw [if_neg heq]
        refine ⟨fun h => ⟨fun f hf => ?_, h⟩, And.right⟩
        obtain rfl | hf := List.mem_cons.mp hf
        · exact hlt
        · exact Nat.lt_of_lt_of_le hlt (hnext f hf)

theorem checkEyes_nodup (s : State) : s.checkEyes.Nodup :=
  (checkEyes_perm s).nodup_iff.mpr
    (nodup_map_of_inj (addrsWhere_nodup ..) fun _ _ _ _ h => congrArg (fun e : Nat × Nat => e.1) h)

theorem checkEyeOrder_none (s : State) : s.checkEyeOrder = none ↔
    ∀ a b, a < 64 → b < 64 → (s.node a).role = .checkEye → (s.node b).role = .checkEye →
      (s.node a).position = (s.node b).position → a = b := by
  unfold State.checkEyeOrder
  rw [Option.map_eq_none_iff, sharedPosition_none (checkEyes_inOrder s)]
  constructor
  · intro h a b ha hb hra hrb hpos
    have apart := h.imp (S := fun e f : Nat × Nat => e.2 ≠ f.2) fun hlt => Nat.ne_of_lt hlt
    exact congrArg Prod.fst (inj_of_nodup_map (f := Prod.snd) (List.pairwise_map.mpr apart) ((mem_checkEyes s a _).mpr ⟨ha, hra, rfl⟩)
      ((mem_checkEyes s b _).mpr ⟨hb, hrb, rfl⟩) hpos)
  · intro h
    refine (List.Pairwise.and (checkEyes_inOrder s) (checkEyes_nodup s)).imp_of_mem fun {e f} he hf ⟨hle, hne⟩ => ?_
    obtain ⟨ha, hra, hpa⟩ := (mem_checkEyes s e.1 e.2).mp he
    obtain ⟨hb, hrb, hpb⟩ := (mem_checkEyes s f.1 f.2).mp hf
    refine Nat.lt_of_le_of_ne hle fun heq => hne (Prod.ext ?_ heq)
    exact h e.1 f.1 ha hb hra hrb (hpa.trans (heq.trans hpb.symm))

theorem checkEyePosition_none (s : State) : s.checkEyePosition = none ↔
    ∀ a, a < 64 → (s.node a).role = .checkEye → (s.node a).position < s.param .exitPos := by
  unfold State.checkEyePosition
  rw [Option.map_eq_none_iff, findNode_none]
  refine forall_congr' fun a => forall_congr' fun _ => ?_
  simp

/-! ## The stations -/

theorem geometryOk_iff (s : State) (st : Station) : s.geometryOk st = true ↔
    1 ≤ (st.position : Int) + st.startOff ∧ 1 ≤ (st.position : Int) + st.endOff ∧ st.position < s.param .exitPos := by
  unfold State.geometryOk
  rw [Bool.and_eq_true, Bool.and_eq_true, decide_eq_true_iff, decide_eq_true_iff, decide_eq_true_iff, and_assoc]
  exact Iff.rfl

theorem checkGeometry_none (s : State) : s.checkGeometry = none ↔
    ∀ i, i < 24 → (s.station i).actuator ≠ none → 1 ≤ ((s.station i).position : Int) + (s.station i).startOff ∧
      1 ≤ ((s.station i).position : Int) + (s.station i).endOff ∧ (s.station i).position < s.param .exitPos := by
  unfold State.checkGeometry
  rw [Option.map_eq_none_iff, find_range_none]
  refine forall_congr' fun i => forall_congr' fun _ => ?_
  rw [Bool.and_eq_true, used_iff, Bool.not_eq_true', ← Bool.not_eq_true, geometryOk_iff, not_and, Classical.not_not]

theorem actuatorOk_iff (s : State) (i : Nat) : s.actuatorOk i = true ↔
    ∀ a, (s.station i).actuator = some a → (s.node a).role = .station ∧ (s.node a).station = i := by
  unfold State.actuatorOk
  cases (s.station i).actuator with
  | none => simp
  | some a => simp

theorem checkStationNode_none (s : State) : s.checkStationNode = none ↔
    (∀ i a, i < 24 → (s.station i).actuator = some a → (s.node a).role = .station ∧ (s.node a).station = i) ∧
    ∀ a, a < 64 → (s.node a).role = .station → (s.station (s.node a).station).actuator = some a := by
  have entries : (List.range 24).find? (fun i => !s.actuatorOk i) = none ↔
      ∀ i a, i < 24 → (s.station i).actuator = some a → (s.node a).role = .station ∧ (s.node a).station = i := by
    rw [find_range_none]
    refine forall_congr' fun i => ?_
    rw [Bool.not_eq_true', Bool.not_eq_false, actuatorOk_iff]
    exact ⟨fun h a hi => h hi a, fun h hi a => h a hi⟩
  have records : (List.range 64).find? (fun a => (s.node a).role == .station && !s.namedBack a) = none ↔
      ∀ a, a < 64 → (s.node a).role = .station → (s.station (s.node a).station).actuator = some a := by
    rw [find_range_none]
    refine forall_congr' fun a => forall_congr' fun _ => ?_
    simp [State.namedBack]
  unfold State.checkStationNode
  rw [← entries, ← records]
  split
  next i h =>
    rw [h]
    exact ⟨fun h => (nomatch h), fun h => (nomatch h.1)⟩
  next h =>
    rw [Option.map_eq_none_iff, h]
    exact (and_iff_right rfl).symm

theorem checkSilent_none (s : State) : s.checkSilent = none ↔
    ∀ a, a < 64 → (s.node a).role ∈ [.encoder, .drive, .estop, .entryEye, .exitEye, .checkEye, .wheelSwitch] →
      (s.node a).silent = false := by
  unfold State.checkSilent
  rw [Option.map_eq_none_iff, findNode_none]
  refine forall_congr' fun a => forall_congr' fun _ => ?_
  rw [Bool.and_eq_true, Bool.or_eq_true, beq_iff_eq, watchedRole_iff, List.mem_cons (a := (s.node a).role) (b := .encoder),
    or_comm, not_and, Bool.not_eq_true]

/-! ## The checks together -/

theorem armRefusal_none (s : State) : s.armRefusal = none ↔
    s.checkSlip = none ∧ s.checkQueue = none ∧ s.checkRole .encoder = none ∧ s.checkRole .drive = none ∧
    s.checkRole .entryEye = none ∧ s.checkRole .exitEye = none ∧ s.checkRole .wheelSwitch = none ∧
    s.checkWheel = none ∧ s.checkEyeCount = none ∧ s.checkEyeOrder = none ∧ s.checkEyePosition = none ∧
    s.checkGeometry = none ∧ s.checkStationNode = none ∧ s.checkSilent = none := by
  unfold State.armRefusal
  simp only [Option.or_eq_none_iff]

theorem armRefusal_slip {s : State} (h : ¬s.param .trackTol < s.param .slipLimit) : s.armRefusal = some [1, 3, 6, 0] := by
  unfold State.armRefusal State.checkSlip
  rw [if_neg h]
  rfl

theorem armRefusal_queue {s : State} (slip : s.param .trackTol < s.param .slipLimit)
    (h : ¬s.param .resumeAt < s.param .pauseAt) : s.armRefusal = some [2, 3, 18, 0] := by
  unfold State.armRefusal State.checkQueue
  rw [(checkSlip_none s).mpr slip, if_neg h]
  rfl

/-- Without exactly one encoder the second one is named, or address 64. -/
theorem armRefusal_encoder {s : State} (slip : s.param .trackTol < s.param .slipLimit)
    (queue : s.param .resumeAt < s.param .pauseAt) {l : List Nat} (hl : s.addrsWhere (fun n => n.role == .encoder) = l)
    (h : ∀ a, l ≠ [a]) : s.armRefusal = some [3, 1, byte (l.getD 1 64), 5] := by
  have role : s.checkRole .encoder = some [3, 1, byte (l.getD 1 64), 5] := by
    unfold State.checkRole
    rw [hl]
    split
    next a => exact absurd rfl (h a)
    next => rfl
  unfold State.armRefusal
  rw [(checkSlip_none s).mpr slip, (checkQueue_none s).mpr queue, role]
  rfl

/-- The first two addresses of a role head the list of them. -/
theorem addrsWhere_two {s : State} {t : NodeRecord → Bool} {a b : Nat} (hab : a < b) (hb : b < 64)
    (ha : t (s.node a) = true) (hbt : t (s.node b) = true)
    (others : ∀ n, n < b → n ≠ a → ¬t (s.node n) = true) : ∃ rest, s.addrsWhere t = a :: b :: rest := by
  have below : (List.range b).filter (fun n => t (s.node n)) = [a] := by
    refine eq_singleton_of_nodup (List.nodup_range.filter _) (List.mem_filter.mpr ⟨List.mem_range.mpr hab, ha⟩)
      fun n hn => ?_
    obtain ⟨hlt, hn⟩ := List.mem_filter.mp hn
    refine Classical.byContradiction fun hne => ?_
    exact others n (List.mem_range.mp hlt) hne hn
  have split64 : 64 = b + (63 - b + 1) := by omega
  unfold State.addrsWhere
  rw [split64, List.range_add, List.range_succ_eq_map, List.map_cons, List.filter_append, below,
    List.filter_cons_of_pos (by exact hbt)]
  exact ⟨_, rfl⟩

/-- Settles O49: each check as a proposition, and the first three named where they fail. -/
theorem armChecksTheConfiguration : Obligations.ArmChecksTheConfiguration := by
  intro s hs
  dsimp only
  refine ⟨?whole, fun h => armRefusal_slip h, fun hslip hqueue => armRefusal_queue hslip hqueue,
    fun hslip hqueue hnone => ?missing, fun hslip hqueue a b hab hb hra hrb hothers => ?double⟩
  case whole =>
    rw [armRefusal_none, checkSlip_none, checkQueue_none, checkRole_none, checkRole_none, checkRole_none, checkRole_none,
      checkRole_none, checkWheel_none, checkEyeCount_none hs.nodes, checkEyeOrder_none, checkEyePosition_none,
      checkGeometry_none, checkStationNode_none, checkSilent_none]
    simp only [List.forall_mem_cons, List.not_mem_nil, false_implies, implies_true, and_true, and_assoc]
    exact Iff.rfl
  case missing =>
    have hempty : s.addrsWhere (fun n => n.role == .encoder) = [] :=
      List.filter_eq_nil_iff.mpr fun a ha => by
        rw [beq_iff_eq]
        exact hnone a (List.mem_range.mp ha)
    exact armRefusal_encoder hslip hqueue hempty fun a h => nomatch h
  case double =>
    obtain ⟨rest, hl⟩ := addrsWhere_two (t := fun n => n.role == .encoder) hab hb (beq_iff_eq.mpr hra) (beq_iff_eq.mpr hrb)
      fun n hn hne => by rw [beq_iff_eq]; exact hothers n hn hne
    exact armRefusal_encoder hslip hqueue hl fun a h => nomatch h

end Sys2Proof.Machine
end

section
/-!
Management's entries (R47, R48, R180 to R183, R194): the images' lengths, a judged write, the bytes of an image, with the
obligations O50 and O52.
-/
namespace Sys2Proof.Machine

-- Proofs in order: a thread that waits for another proof counts against the check's memory limit.
set_option Elab.async false

/-! ## READ_ENTRY (R181) -/

theorem tableSize_named {t n : Nat} (h : [64, 24, 19, 12, 16, 3, 40, 32, 4, 16, 1, 23, 2, 9][t - 1]? = some n)
    (ht : t ≠ 0) : tableSize t = some n := by
  unfold tableSize
  rw [h]
  exact if_pos (bne_iff_ne.mpr ht)

theorem tableSize_unknown {t : Nat} (h : t = 0 ∨ 14 < t) : tableSize t = none := by
  unfold tableSize
  obtain rfl | h := h
  · rfl
  · rw [List.getElem?_eq_none (Nat.le_sub_one_of_lt h)]
    rfl

theorem exec_readEntry {seq t i : Byte} {rest : List Byte} {s : State} (h : Taken (.readEntry seq (t :: i :: rest)) s) :
    exec (.readEntry seq (t :: i :: rest)) s = .next (
      let u := s.without (.readEntry seq (t :: i :: rest))
      match tableSize t.toNat with
      | none => u.reply seq 1 .badTable []
      | some n =>
        if n ≤ i.toNat then u.reply seq 1 .badIndex [i] else u.reply seq 1 .ok (u.image t.toNat i.toNat)) :=
  (taking_eq _ h rfl).trans rfl

/-! ## Lengths of images (Tables 10-6, 10-9) -/

theorem causeImage_length (d : CauseDetail) : (causeImage d).length = 6 := rfl

/-- Every number from 1 to 22 is a cause's. -/
theorem causeOfNumber_some {i : Nat} (h1 : 1 ≤ i) (h2 : i ≤ 22) : ∃ k, causeOfNumber i = some k := by
  unfold causeOfNumber
  rw [if_neg (by omega)]
  exact Option.isSome_iff_exists.mp (by
    rw [List.getElem?_eq_getElem (show i - 1 < causeKinds.length from by
      have : causeKinds.length = 22 := rfl
      omega)]
    rfl)

theorem image_kind_length (s : State) {i : Nat} (h1 : 1 ≤ i) (h2 : i ≤ 22) : (s.image 12 i).length = 8 := by
  obtain ⟨k, hk⟩ := causeOfNumber_some h1 h2
  have : s.image 12 i = s.kindImage k := by
    change s.causeEntry i = _
    unfold State.causeEntry
    rw [hk]
  rw [this]
  rfl

theorem image_halt_length (s : State) : (s.image 12 0).length = 25 := by
  have : s.image 12 0 = s.haltImage := rfl
  simp [this, State.haltImage, causeImage_length, be64Set, be24Set, be24]

theorem byte_of_toNat (b : Byte) : byte b.toNat = b :=
  BitVec.eq_of_toNat_eq (by rw [byte_toNat]; exact Nat.mod_eq_of_lt b.isLt)

/-- Settles O50: the table's size decides a read, and every image is written out field by field. -/
theorem readEntryReturnsTheImage : Obligations.ReadEntryReturnsTheImage := by
  refine ⟨fun seq t i rest s htaken => ?read, fun seq args s hshort => ⟨fun htaken => ?readShort, fun htaken => ?writeShort⟩,
    fun seq t i rest s htaken => (taking_eq _ htaken rfl).trans rfl, fun seq code s htaken => ?unknown,
    fun s i => ⟨rfl, rfl, rfl, rfl, rfl, image_halt_length s, image_kind_length s⟩⟩
  case read =>
    dsimp only
    rw [exec_readEntry htaken]
    refine ⟨fun h => ?_, fun n hn ht => ?_⟩
    · rw [tableSize_unknown (h.imp_left (congrArg BitVec.toNat))]
    · have hzero : t.toNat ≠ 0 := fun h => ht (BitVec.eq_of_toNat_eq h)
      rw [tableSize_named hn hzero]
      exact ⟨fun h => congrArg _ (if_pos h), fun h => congrArg _ (if_neg (Nat.not_le.mpr h))⟩
  case readShort =>
    refine (taking_eq _ htaken rfl).trans ?_
    match args, hshort with
    | [], _ => rfl
    | [_], _ => rfl
  case writeShort =>
    refine (taking_eq _ htaken rfl).trans ?_
    match args, hshort with
    | [], _ => rfl
    | [_], _ => rfl
  case unknown =>
    refine (taking_eq _ htaken rfl).trans ?_
    unfold State.reply
    rw [byte_of_toNat]
    rfl

/-! ## A judged write (R180, R182, R194) -/

theorem writing_fits {s : State} {seq t i : Byte} {image : List Byte} {len size : Nat} (g : Nat → (Nat → Byte) → State)
    (long : len ≤ image.length) (index : i.toNat < size) :
    s.writing seq (t :: i :: image) len size g = g i.toNat fun k => image.getD k 0 :=
  (if_neg (Nat.not_lt.mpr long)).trans (if_neg (Nat.not_le.mpr index))

theorem finishWrite_good {s w : State} {v : Verdict} (seq : Byte) (table i : Nat) (h : v = .good) :
    s.finishWrite seq table i v w = w.reply seq 2 .ok (w.image table i) := by rw [h]; rfl

theorem finishWrite_wrongMode {s w : State} {v : Verdict} (seq : Byte) (table i : Nat) (h : v = .wrongMode) :
    s.finishWrite seq table i v w = s.reply seq 2 .wrongMode [] := by rw [h]; rfl

theorem finishWrite_badField {s w : State} {v : Verdict} {n : Nat} (seq : Byte) (table i : Nat) (h : v = .badField n) :
    s.finishWrite seq table i v w = s.reply seq 2 .badValue [byte n] := by rw [h]; rfl

theorem firstBad_ok {n : Nat} {b : Bool} {rest : List (Nat × Bool)} (h : b = true) :
    firstBad ((n, b) :: rest) = firstBad rest := if_pos h

theorem firstBad_bad {n : Nat} {b : Bool} {rest : List (Nat × Bool)} (h : b = false) :
    firstBad ((n, b) :: rest) = .badField n := if_neg (Bool.eq_false_iff.mp h)

/-! ## Numbers of two bytes (R192) -/

theorem be16_pair (a b : Byte) : be16 (a.toNat * 256 + b.toNat) = [a, b] := by
  have ha := a.isLt
  have hb := b.isLt
  have high : byte ((a.toNat * 256 + b.toNat) / 256) = a := by
    refine BitVec.eq_of_toNat_eq ?_
    rw [byte_toNat]
    omega
  have low : byte (a.toNat * 256 + b.toNat) = b := by
    refine BitVec.eq_of_toNat_eq ?_
    rw [byte_toNat]
    omega
  rw [be16, high, low]

/-- A set of services reads back as the two bytes it is made of. -/
theorem setField_append (a b : Byte) : setField (a ++ b) = [a, b] := by
  have value : (a ++ b : ServiceSet).toNat = a.toNat * 256 + b.toNat := by
    rw [BitVec.toNat_append, ← Nat.shiftLeft_add_eq_or_of_lt b.isLt, Nat.shiftLeft_eq]
  rw [setField, value, be16_pair]

/-! ## PARAM (R183) -/

theorem exec_writeParamEntry {seq t i hi lo : Byte} {rest : List Byte} {s : State} (index : i.toNat < 19)
    (h : Taken (.writeParamEntry seq (t :: i :: hi :: lo :: rest)) s) :
    exec (.writeParamEntry seq (t :: i :: hi :: lo :: rest)) s = .next (
      let u := s.without (.writeParamEntry seq (t :: i :: hi :: lo :: rest))
      let v := hi.toNat * 256 + lo.toNat
      u.finishWrite seq 3 i.toNat (u.judgeParam i.toNat v) (u.setParam i.toNat v)) :=
  (taking_eq _ h rfl).trans (congrArg _ ((writing_fits _ (Nat.le_add_left 2 _) index).trans rfl))

theorem judgeParam_row {s : State} {i v : Nat} {row : Config.ParamRow} (offline : s.halt.mode = .offline)
    (h : Config.paramTable[i]? = some row) :
    s.judgeParam i v = if row.low ≤ v ∧ v ≤ row.high then .good else .badField 1 := by
  have range : paramInRange i v = decide (row.low ≤ v ∧ v ≤ row.high) := by
    rw [paramInRange, h, Option.any_some, Bool.decide_and]
  unfold State.judgeParam
  rw [if_neg (not_not_intro offline), range]
  split
  next h => exact firstBad_ok (decide_eq_true h)
  next h => exact firstBad_bad (decide_eq_false h)

/-! ## PLAN (R48) -/

theorem exec_writePlanEntry {seq t i : Byte} {image : List Byte} {s : State} (long : 10 ≤ image.length)
    (index : i.toNat < 12) (h : Taken (.writePlanEntry seq (t :: i :: image)) s) :
    exec (.writePlanEntry seq (t :: i :: image)) s = .next (
      let u := s.without (.writePlanEntry seq (t :: i :: image))
      let b := fun k => image.getD k 0
      u.finishWrite seq 4 i.toNat (u.judgePlan b) (u.setPlan i.toNat (planOfImage b))) :=
  (taking_eq _ h rfl).trans (congrArg _ (writing_fits _ long index))

theorem writePlanEntry_refused {seq t i : Byte} {image : List Byte} {s : State} {n : Nat} (long : 10 ≤ image.length)
    (index : i.toNat < 12) (h : Taken (.writePlanEntry seq (t :: i :: image)) s)
    (bad : s.judgePlan (fun k => image.getD k 0) = .badField n) : exec (.writePlanEntry seq (t :: i :: image)) s =
      .next ((s.without (.writePlanEntry seq (t :: i :: image))).reply seq 2 .badValue [byte n]) :=
  (exec_writePlanEntry long index h).trans (congrArg _ (finishWrite_badField _ _ _ bad))

theorem planStateOf_code {b : Byte} {st : PlanState} (h : b.toNat = planStateCode st) : planStateOf b = some st := by
  have : b = byte (planStateCode st) := by rw [← h, byte_of_toNat]
  rw [this]
  cases st <;> rfl

theorem planStateOf_none {b : Byte} (h : b = 0 ∨ 3 < b.toNat) : planStateOf b = none := by
  have h1 : b ≠ 1 := by rintro rfl; revert h; decide
  have h2 : b ≠ 2 := by rintro rfl; revert h; decide
  have h3 : b ≠ 3 := by rintro rfl; revert h; decide
  unfold planStateOf
  rw [if_neg h1, if_neg h2, if_neg h3]

/-- Every code from 1 to 3 is a plan state's. -/
theorem planStateOf_some {b : Byte} (h1 : 1 ≤ b.toNat) (h3 : b.toNat ≤ 3) :
    ∃ st, planStateOf b = some st ∧ (b = 2 ∨ b = 3 → st ≠ .absent) := by
  have cases3 : b = 1 ∨ b = 2 ∨ b = 3 := by
    rcases (by omega : b.toNat = 1 ∨ b.toNat = 2 ∨ b.toNat = 3) with h | h | h
    · exact .inl (BitVec.eq_of_toNat_eq h)
    · exact .inr (.inl (BitVec.eq_of_toNat_eq h))
    · exact .inr (.inr (BitVec.eq_of_toNat_eq h))
  obtain rfl | rfl | rfl := cases3
  · exact ⟨.absent, rfl, fun h => absurd h (by decide)⟩
  · exact ⟨.isOpen, rfl, fun _ => by decide⟩
  · exact ⟨.closed, rfl, fun _ => by decide⟩

theorem serviceList_all {set : ServiceSet} {t : Nat → Bool} :
    (serviceList set).all t = true ↔ ∀ n, n < 16 → hasService set n = true → t n = true := by
  unfold serviceList
  rw [List.all_eq_true]
  exact forall_congr' fun n => by rw [List.mem_filter, List.mem_range, and_imp]

theorem planSets_sold {s : State} {p : PlanEntry} (h : p.state ≠ .absent) : s.planSets p =
    [(2, p.base != 0), (3, p.addons &&& p.base == 0), (3, (serviceList p.addons).all fun n => (s.service n).addable)] :=
  if_neg h

/-- The ranges of a PLAN image's fields, its sets not yet judged. -/
theorem judgePlan_ranged {s : State} {b : Nat → Byte} {st : PlanState} (state : planStateOf (b 0) = some st)
    (tier : (b 7).toNat ≤ 7) (low : 1 ≤ (b 8).toNat) (high : (b 8).toNat ≤ 4) :
    s.judgePlan b = firstBad (s.planSets (planOfImage b)) := by
  unfold State.judgePlan
  exact (firstBad_ok (by rw [state]; rfl)).trans ((firstBad_ok (decide_eq_true tier)).trans
    (firstBad_ok (by rw [Bool.and_eq_true]; exact ⟨decide_eq_true low, decide_eq_true high⟩)))

theorem judgePlan_good {s : State} {b : Nat → Byte} {st : PlanState} (state : planStateOf (b 0) = some st)
    (tier : (b 7).toNat ≤ 7) (low : 1 ≤ (b 8).toNat) (high : (b 8).toNat ≤ 4)
    (sets : st ≠ .absent → (planOfImage b).base ≠ 0 ∧ (planOfImage b).addons &&& (planOfImage b).base = 0 ∧
      ∀ n, n < 16 → hasService (planOfImage b).addons n = true → (s.service n).addable = true) :
    s.judgePlan b = .good := by
  have planState : (planOfImage b).state = st := by simp only [planOfImage, state, Option.getD_some]
  rw [judgePlan_ranged state tier low high]
  by_cases h : st = .absent
  · exact congrArg firstBad (if_pos (planState.trans h))
  · obtain ⟨base, disjoint, addable⟩ := sets h
    rw [planSets_sold (by rw [planState]; exact h)]
    exact (firstBad_ok (bne_iff_ne.mpr base)).trans ((firstBad_ok (beq_iff_eq.mpr disjoint)).trans
      (firstBad_ok (serviceList_all.mpr addable)))

theorem plan_setPlan {s : State} {n : Nat} (p : PlanEntry) (h : n < s.sales.plans.length) : (s.setPlan n p).plan n = p :=
  getD_set_eq _ _ _ _ h

/-- The first nine bytes of a PLAN image are those it was written from. -/
theorem planImage_written {s : State} {n : Nat} {b0 b1 b2 b3 b4 b5 b6 b7 b8 : Byte} {st : PlanState}
    (code : b0.toNat = planStateCode st) (plan : s.plan n = {
      state := st, base := b1 ++ b2, addons := b3 ++ b4, price := b5.toNat * 256 + b6.toNat, tier := b7.toNat,
      cap := b8.toNat }) :
    (s.image 4 n).take 9 = [b0, b1, b2, b3, b4, b5, b6, b7, b8] := by
  change (s.planImage n).take 9 = _
  unfold State.planImage
  rw [plan]
  dsimp only
  rw [← code, byte_of_toNat, byte_of_toNat, byte_of_toNat, setField_append, setField_append, be16_pair]
  rfl

/-! ## SERVICE (R47) -/

theorem exec_writeServiceEntry {seq t i b hi lo : Byte} {rest : List Byte} {s : State} (index : i.toNat < 16)
    (h : Taken (.writeServiceEntry seq (t :: i :: b :: hi :: lo :: rest)) s) :
    exec (.writeServiceEntry seq (t :: i :: b :: hi :: lo :: rest)) s = .next (
      let u := s.without (.writeServiceEntry seq (t :: i :: b :: hi :: lo :: rest))
      let image := fun k => (b :: hi :: lo :: rest).getD k 0
      u.finishWrite seq 5 i.toNat (u.judgeService i.toNat image) (u.setService i.toNat (serviceOfImage image))) :=
  (taking_eq _ h rfl).trans (congrArg _ (writing_fits _ (Nat.le_add_left 3 _) index))

theorem allowedAddon_iff (s : State) (n : Nat) : s.allowedAddon n = true ↔
    ∃ p ∈ s.sales.plans, p.state ≠ .absent ∧ hasService p.addons n = true := by
  unfold State.allowedAddon
  rw [List.any_eq_true]
  simp only [Bool.and_eq_true, bne_iff_ne]

theorem service_setService {s : State} {n : Nat} (e : ServiceEntry) (h : n < s.sales.services.length) :
    (s.setService n e).service n = e := getD_set_eq _ _ _ _ h

/-- A SERVICE image written: the flag may be taken off where no plan sold allows the service. -/
theorem writeServiceEntry_written {seq t i hi lo : Byte} {addable : Bool} {rest : List Byte} {s : State} (hs : Shape s)
    (hindex : i.toNat < 16) (htaken : Taken (.writeServiceEntry seq (t :: i :: flag addable :: hi :: lo :: rest)) s)
    (hfree : addable = false → ∀ p ∈ s.sales.plans, p.state ≠ .absent → hasService p.addons i.toNat = false) :
    exec (.writeServiceEntry seq (t :: i :: flag addable :: hi :: lo :: rest)) s =
      .next (((s.without (.writeServiceEntry seq (t :: i :: flag addable :: hi :: lo :: rest))).setService i.toNat
        { addable := addable, price := hi.toNat * 256 + lo.toNat }).reply seq 2 .ok [flag addable, hi, lo]) := by
  have hcode : (flag addable == 0 || flag addable == 1) = true := by cases addable <;> rfl
  have hflag : (flag addable == 1) = addable := by cases addable <;> rfl
  have hallowed : (flag addable == 1 || !s.allowedAddon i.toNat) = true := by
    rw [hflag, Bool.or_eq_true, Bool.not_eq_true', ← Bool.not_eq_true, allowedAddon_iff]
    cases addable with
    | true => exact .inl rfl
    | false =>
      refine .inr fun ⟨p, hp, hsold, hadd⟩ => ?_
      rw [hfree rfl p hp hsold] at hadd
      cases hadd
  have hentry : serviceOfImage (fun k => (flag addable :: hi :: lo :: rest).getD k 0) =
      { addable := addable, price := hi.toNat * 256 + lo.toNat } :=
    congrArg (fun a => ServiceEntry.mk a _) hflag
  have hgood : s.judgeService i.toNat (fun k => (flag addable :: hi :: lo :: rest).getD k 0) = .good :=
    (firstBad_ok hcode).trans (firstBad_ok hallowed)
  have himage : ((s.without (.writeServiceEntry seq (t :: i :: flag addable :: hi :: lo :: rest))).setService i.toNat
      { addable := addable, price := hi.toNat * 256 + lo.toNat }).image 5 i.toNat = [flag addable, hi, lo] := by
    refine (congrArg serviceImage (service_setService _ (hs.services.symm ▸ hindex))).trans ?_
    rw [serviceImage, be16_pair]
  refine (exec_writeServiceEntry hindex htaken).trans (congrArg _ ((finishWrite_good _ _ _ hgood).trans ?_))
  rw [hentry, himage]

/-- Settles O52: each image is judged check by check, and what is written reads back as its bytes. -/
theorem paramPlanAndServiceWritesAreTaken : Obligations.ParamPlanAndServiceWritesAreTaken := by
  refine ⟨fun seq t i hi lo rest row s hs htaken hrow => ?param,
    fun seq t i b0 b1 b2 b3 b4 b5 b6 b7 b8 rest st s hs htaken hrest hi hcode htier hlow hhigh hsets => ?plan,
    fun seq t i b0 b1 b2 b3 b4 b5 b6 b7 b8 rest s hs htaken hrest hi => ?planBad,
    fun seq t i b hi lo rest s hs htaken hindex => ?serviceBad,
    fun seq t i hi lo addable rest s hs htaken hindex hfree => ?service⟩
  case param =>
    have hindex : i.toNat < 19 := (List.getElem?_eq_some_iff.mp hrow).1
    rw [exec_writeParamEntry hindex htaken]
    refine ⟨fun hmode => ?_, fun hoffline hout => ?_, fun hoffline hlow hhigh => ?_⟩
    · exact congrArg _ (finishWrite_wrongMode _ _ _ (if_pos hmode))
    · have hbad : ¬(row.low ≤ hi.toNat * 256 + lo.toNat ∧ hi.toNat * 256 + lo.toNat ≤ row.high) := by omega
      exact congrArg _ (finishWrite_badField _ _ _
        ((judgeParam_row (s := s.without _) hoffline hrow).trans (if_neg hbad)))
    · refine congrArg _ ((finishWrite_good _ _ _
        ((judgeParam_row (s := s.without _) hoffline hrow).trans (if_pos ⟨hlow, hhigh⟩))).trans ?_)
      have himage : ((s.without (.writeParamEntry seq (t :: i :: hi :: lo :: rest))).setParam i.toNat
          (hi.toNat * 256 + lo.toNat)).image 3 i.toNat = [hi, lo] := by
        rw [← be16_pair]
        exact congrArg be16 (getD_set_eq _ _ _ _ (hs.params.symm ▸ hindex))
      rw [himage]
      rfl
  case plan =>
    have hlong : 10 ≤ ([b0, b1, b2, b3, b4, b5, b6, b7, b8] ++ rest).length := by
      have := List.length_pos_iff.mpr hrest
      rw [List.length_append]
      exact Nat.add_le_add_left this 9
    have hplan : planOfImage (fun k => ([b0, b1, b2, b3, b4, b5, b6, b7, b8] ++ rest).getD k 0) =
        { state := st, base := b1 ++ b2, addons := b3 ++ b4, price := b5.toNat * 256 + b6.toNat, tier := b7.toNat,
          cap := b8.toNat } := by
      have : (planStateOf b0).getD .absent = st := by rw [planStateOf_code hcode]; rfl
      unfold planOfImage
      exact congrArg (fun st => PlanEntry.mk st _ _ _ _ _) this
    have hgood := judgePlan_good (s := s.without (.writePlanEntry seq (t :: i :: ([b0, b1, b2, b3, b4, b5, b6, b7, b8] ++
      rest)))) (b := fun k => ([b0, b1, b2, b3, b4, b5, b6, b7, b8] ++ rest).getD k 0) (planStateOf_code hcode) htier hlow
      hhigh (by rw [hplan]; exact hsets)
    dsimp only
    rw [exec_writePlanEntry hlong hi htaken]
    dsimp only
    rw [finishWrite_good _ _ _ hgood, hplan]
    exact ⟨rfl, planImage_written hcode (plan_setPlan (s := s.without _) _ (hs.plans.symm ▸ hi))⟩
  case planBad =>
    have hlong : 10 ≤ ([b0, b1, b2, b3, b4, b5, b6, b7, b8] ++ rest).length := by
      have := List.length_pos_iff.mpr hrest
      rw [List.length_append]
      exact Nat.add_le_add_left this 9
    have refused {n : Nat} (h : s.judgePlan (fun k => ([b0, b1, b2, b3, b4, b5, b6, b7, b8] ++ rest).getD k 0) =
        .badField n) := writePlanEntry_refused hlong hi htaken h
    have state (h1 : 1 ≤ b0.toNat) (h3 : b0.toNat ≤ 3) : (planStateOf b0).isSome = true := by
      obtain ⟨st, hst, -⟩ := planStateOf_some h1 h3
      rw [hst]
      rfl
    have sets (hranged : 1 ≤ b0.toNat ∧ b0.toNat ≤ 3 ∧ b7.toNat ≤ 7 ∧ 1 ≤ b8.toNat ∧ b8.toNat ≤ 4)
        (hsold : b0 = 2 ∨ b0 = 3) : s.judgePlan (fun k => ([b0, b1, b2, b3, b4, b5, b6, b7, b8] ++ rest).getD k 0) =
        firstBad [(2, (b1 ++ b2 : ServiceSet) != 0), (3, (b3 ++ b4 : ServiceSet) &&& (b1 ++ b2) == 0),
          (3, (serviceList (b3 ++ b4)).all fun n => (s.service n).addable)] := by
      obtain ⟨h1, h3, htier, hlow, hhigh⟩ := hranged
      obtain ⟨st, hst, hsome⟩ := planStateOf_some h1 h3
      refine (judgePlan_ranged (b := fun k => ([b0, b1, b2, b3, b4, b5, b6, b7, b8] ++ rest).getD k 0) hst htier hlow
        hhigh).trans (congrArg firstBad (planSets_sold ?_))
      have : (planStateOf b0).getD .absent = st := by rw [hst]; rfl
      exact fun h => hsome hsold (this.symm.trans h)
    refine ⟨fun h => refused (firstBad_bad ?_), fun h1 h3 h => refused ((firstBad_ok (state h1 h3)).trans (firstBad_bad ?_)),
      fun h1 h3 htier h => refused ((firstBad_ok (state h1 h3)).trans ((firstBad_ok (decide_eq_true htier)).trans
        (firstBad_bad ?_))),
      fun hranged hsold h => refused ((sets hranged hsold).trans (firstBad_bad ?_)),
      fun hranged hsold hbase h => refused ((sets hranged hsold).trans ((firstBad_ok (bne_iff_ne.mpr hbase)).trans
        (firstBad_bad ?_))), fun hranged hsold hbase n hn hadd hnot => ?_⟩
    · exact congrArg Option.isSome (planStateOf_none h)
    · exact decide_eq_false (Nat.not_le.mpr h)
    · rw [Bool.and_eq_false_iff]
      obtain rfl | h := h
      · exact .inl rfl
      · exact .inr (decide_eq_false (Nat.not_le.mpr h))
    · rw [h]
      rfl
    · exact beq_eq_false_iff_ne.mpr h
    · have hlist : (serviceList (b3 ++ b4)).all (fun n => (s.service n).addable) = false :=
        Bool.eq_false_iff.mpr fun h => Bool.false_ne_true (hnot.symm.trans (serviceList_all.mp h n hn hadd))
      refine refused ((sets hranged hsold).trans ((firstBad_ok (bne_iff_ne.mpr hbase)).trans ?_))
      by_cases hshared : ((b3 ++ b4 : ServiceSet) &&& (b1 ++ b2) == 0) = true
      · exact (firstBad_ok hshared).trans (firstBad_bad hlist)
      · exact firstBad_bad (Bool.eq_false_iff.mpr hshared)
  case serviceBad =>
    rw [exec_writeServiceEntry hindex htaken]
    refine ⟨fun hb => ?_, fun hb p hp hsold hadd => ?_⟩
    · have hcode : (b == 0 || b == 1) = false := by
        rw [Bool.or_eq_false_iff, beq_eq_false_iff_ne, beq_eq_false_iff_ne]
        constructor <;> rintro rfl <;> revert hb <;> decide
      exact congrArg _ (finishWrite_badField _ _ _ (firstBad_bad hcode))
    · subst hb
      have hallowed : (s.without (.writeServiceEntry seq (t :: i :: 0 :: hi :: lo :: rest))).allowedAddon i.toNat = true :=
        (allowedAddon_iff _ _).mpr ⟨p, hp, hsold, hadd⟩
      refine congrArg _ (finishWrite_badField _ _ _ ((firstBad_ok rfl).trans (firstBad_bad ?_)))
      rw [hallowed]
      rfl
  case service => exact writeServiceEntry_written hs hindex htaken hfree

end Sys2Proof.Machine
end

section
/-!
NODE and STATION writes (R30, R32, R69, R143, R182, R194): which images are taken, and what they leave, with the obligation
O51.
-/
namespace Sys2Proof.Machine

-- Proofs in order: a thread that waits for another proof counts against the check's memory limit.
set_option Elab.async false

/-! ## Roles by number and by address (R30, R32) -/

theorem roleOfNumber_roleNumber (r : Role) : roleOfNumber (roleNumber r) = some r := by cases r <;> rfl

theorem roleNumber_of_roleOfNumber {n : Nat} {r : Role} (h : roleOfNumber n = some r) : n = roleNumber r := by
  unfold roleOfNumber at h
  split at h
  · cases h
  next hn =>
    obtain ⟨hlt, hget⟩ := List.getElem?_eq_some_iff.mp h
    have hlen : roles.length = 15 := rfl
    have numbered : ∀ i (hi : i < roles.length), roleNumber roles[i] = i + 1 := by decide
    rw [← hget, numbered]
    omega

/-- A role may stand at an address, in plain words. -/
def MayHold (a : Nat) (r : Role) : Prop :=
  (a = 0 → r = .site) ∧ (a = 1 → r = .self) ∧ (a = 62 → r = .hub) ∧ (a = 63 → r = .none) ∧
    (a ≠ 0 → a ≠ 1 → a ≠ 62 → r ≠ .site ∧ r ≠ .self ∧ r ≠ .hub)

theorem roleAllowed_iff (a : Nat) (r : Role) : roleAllowed a r = true ↔ MayHold a r := by
  unfold roleAllowed fixedRole MayHold
  by_cases h0 : a = 0
  · subst h0; simp
  by_cases h1 : a = 1
  · subst h1; simp
  by_cases h62 : a = 62
  · subst h62; simp
  by_cases h63 : a = 63
  · subst h63
    simp only [Nat.reduceEqDiff, if_false, if_true, beq_iff_eq, false_implies, true_and, ne_eq, not_false_eq_true,
      forall_const]
    exact ⟨fun h => by subst h; decide, And.left⟩
  · simp [h0, h1, h62, h63, and_assoc]

theorem roleImage_iff (a : Nat) (b : Byte) : (roleOfNumber b.toNat).any (roleAllowed a) = true ↔
    ∃ r, b.toNat = roleNumber r ∧ MayHold a r := by
  rw [Option.any_eq_true]
  refine exists_congr fun r => and_congr ⟨roleNumber_of_roleOfNumber, fun h => ?_⟩ (roleAllowed_iff a r)
  rw [h, roleOfNumber_roleNumber]

theorem quietRecord_iff (a : Nat) : quietRecord a = true ↔ a = 1 ∨ a = 63 := by
  unfold quietRecord
  rw [Bool.or_eq_true, beq_iff_eq, beq_iff_eq]

/-- The forward byte's check: 0 or 1, and 0 at the quiet records. -/
theorem forwardImage_iff (a : Nat) (b : Byte) : (b == 0 || (b == 1 && !quietRecord a)) = true ↔
    b.toNat ≤ 1 ∧ (a = 1 ∨ a = 63 → b = 0) := by
  have small : b.toNat ≤ 1 ↔ b = 0 ∨ b = 1 := by
    refine ⟨fun h => ?_, fun h => by obtain rfl | rfl := h <;> decide⟩
    rcases (by omega : b.toNat = 0 ∨ b.toNat = 1) with h | h
    · exact .inl (BitVec.eq_of_toNat_eq h)
    · exact .inr (BitVec.eq_of_toNat_eq h)
  rw [small, ← quietRecord_iff, Bool.or_eq_true, Bool.and_eq_true, beq_iff_eq, beq_iff_eq, Bool.not_eq_true']
  constructor
  · rintro (rfl | ⟨rfl, hquiet⟩)
    · exact ⟨.inl rfl, fun _ => rfl⟩
    · exact ⟨.inr rfl, fun h => by rw [hquiet] at h; cases h⟩
  · rintro ⟨rfl | rfl, h⟩
    · exact .inl rfl
    · exact .inr ⟨rfl, Bool.eq_false_iff.mpr fun hq => absurd (h hq) (by decide)⟩

theorem watchImage_iff (a : Nat) (b : Byte) : (b == 0 || !quietRecord a) = true ↔ (a = 1 ∨ a = 63 → b = 0) := by
  rw [← quietRecord_iff, Bool.or_eq_true, beq_iff_eq, Bool.not_eq_true', ← Bool.not_eq_true, or_comm, ← Decidable.imp_iff_not_or]

/-- Another record of the role holds the lane or the station. -/
theorem duplicate_iff (s : State) (a : Nat) (r : NodeRecord) : s.duplicate a r = true ↔
    ∃ n, n < 64 ∧ n ≠ a ∧ (s.node n).role = r.role ∧
      ((s.node n).role ∈ [.mergeEye, .gate, .kiosk] ∧ (s.node n).lane = r.lane ∨
        (s.node n).role = .station ∧ (s.node n).station = r.station) := by
  unfold State.duplicate
  rw [List.any_eq_true]
  refine exists_congr fun n => ?_
  rw [List.mem_range, Bool.and_eq_true, Bool.and_eq_true, bne_iff_ne, beq_iff_eq, and_assoc]
  refine and_congr_right fun _ => and_congr_right fun _ => and_congr_right fun hrole => ?_
  rw [hrole]
  cases r.role <;> simp

/-! ## NODE writes (R32) -/

theorem exec_writeNodeEntry {seq t i : Byte} {image : List Byte} {s : State} (long : 14 ≤ image.length)
    (index : i.toNat < 64) (h : Taken (.writeNodeEntry seq (t :: i :: image)) s) :
    exec (.writeNodeEntry seq (t :: i :: image)) s = .next (
      let u := s.without (.writeNodeEntry seq (t :: i :: image))
      let b := fun k => image.getD k 0
      u.finishWrite seq 1 i.toNat (u.judgeNode i.toNat b) (u.setNode i.toNat (nodeOfImage b))) :=
  (taking_eq _ h rfl).trans (congrArg _ (writing_fits _ long index))

theorem judgeNode_offline {s : State} {a : Nat} {b : Nat → Byte} (h : s.halt.mode = .offline) : s.judgeNode a b = firstBad
    [(1, (roleOfNumber (b 0).toNat).any (roleAllowed a)), (2, decide ((b 1).toNat ≤ 2)), (3, decide ((b 2).toNat ≤ 23)),
     (4, decide (ofBe16 (b 3) (b 4) ≤ 4095)), (5, b 5 == 0 || (b 5 == 1 && !quietRecord a)),
     (6, b 6 == 0 || !quietRecord a), (1, !s.duplicate a (nodeOfImage b))] := if_neg (not_not_intro h)

theorem writeNodeEntry_refused {seq t i : Byte} {image : List Byte} {s : State} {n : Nat} (long : 14 ≤ image.length)
    (index : i.toNat < 64) (h : Taken (.writeNodeEntry seq (t :: i :: image)) s)
    (bad : s.judgeNode i.toNat (fun k => image.getD k 0) = .badField n) : exec (.writeNodeEntry seq (t :: i :: image)) s =
      .next ((s.without (.writeNodeEntry seq (t :: i :: image))).reply seq 2 .badValue [byte n]) :=
  (exec_writeNodeEntry long index h).trans (congrArg _ (finishWrite_badField _ _ _ bad))

/-- The record that a NODE image of a role writes. -/
theorem nodeOfImage_eq {b : Nat → Byte} {r : Role} (role : (b 0).toNat = roleNumber r) (forward : (b 5).toNat ≤ 1) :
    nodeOfImage b = { NodeRecord.blank r with
      lane := (b 1).toNat, station := (b 2).toNat, position := ofBe16 (b 3) (b 4), forward := b 5 == 1,
      watch := (b 6).toNat } := by
  have hrole : (roleOfNumber (b 0).toNat).getD .none = r := by rw [role, roleOfNumber_roleNumber]; rfl
  have hforward : (b 5 != 0) = (b 5 == 1) := by
    rcases (by omega : (b 5).toNat = 0 ∨ (b 5).toNat = 1) with h | h
    · rw [show b 5 = 0 from BitVec.eq_of_toNat_eq h]; rfl
    · rw [show b 5 = 1 from BitVec.eq_of_toNat_eq h]; rfl
  unfold nodeOfImage
  rw [hrole, hforward]

theorem flag_beq_one {b : Byte} (h : b.toNat ≤ 1) : flag (b == 1) = b := by
  rcases (by omega : b.toNat = 0 ∨ b.toNat = 1) with h | h
  · rw [show b = 0 from BitVec.eq_of_toNat_eq h]; rfl
  · rw [show b = 1 from BitVec.eq_of_toNat_eq h]; rfl

/-! ## STATION writes (R143, R69) -/

theorem exec_writeStationEntry {seq t i : Byte} {image : List Byte} {s : State} (long : 22 ≤ image.length)
    (index : i.toNat < 24) (h : Taken (.writeStationEntry seq (t :: i :: image)) s) :
    exec (.writeStationEntry seq (t :: i :: image)) s = .next (
      let u := s.without (.writeStationEntry seq (t :: i :: image))
      let b := fun k => image.getD k 0
      u.finishWrite seq 2 i.toNat (u.judgeStationWrite i.toNat b) (u.writeStation i.toNat b)) :=
  (taking_eq _ h rfl).trans (congrArg _ (writing_fits _ long index))

/-- The ranges a STATION image is judged by, before its geometry. -/
def stationChecks (b : Nat → Byte) : List (Nat × Bool) :=
  [(1, (stationKindOf (b 0)).isSome), (2, decide ((b 1).toNat ≤ 15)), (3, decide (ofBe16 (b 2) (b 3) ≤ 4095)),
   (4, offsetOk (b 4).toInt), (5, offsetOk (b 5).toInt),
   (6, (if b 6 = 0xFF then none else some (b 6).toNat).all fun a => decide (2 ≤ a) && decide (a ≤ 61)),
   (8, decide (ofBe16 (b 8) (b 9) ≤ 2000)), (9, decide (1 ≤ (b 10).toNat) && decide ((b 10).toNat ≤ 7)),
   (10, decide (1 ≤ (b 11).toNat) && decide ((b 11).toNat ≤ 63))]

theorem judgeStationWrite_eq (s : State) (i : Nat) (b : Nat → Byte) : s.judgeStationWrite i b =
    (firstBad (stationChecks b)).andThen
      (if s.halt.mode ≠ .offline ∧ sameGeometry (Station.written (s.station i) b) (s.station i) = false then .wrongMode
       else .good) := rfl

/-- A list's first failing field, named by a chain of conditions. -/
theorem firstBad_field {n f : Nat} {c : Prop} [Decidable c] {ok : Bool} {rest : List (Nat × Bool)} (h : ok = true ↔ ¬c)
    (next : f ≠ 0 → firstBad rest = .badField f) :
    (if c then n else f) ≠ 0 → firstBad ((n, ok) :: rest) = .badField (if c then n else f) := by
  by_cases hc : c
  · rw [if_pos hc]
    exact fun _ => firstBad_bad (Bool.eq_false_iff.mpr fun hok => h.mp hok hc)
  · rw [if_neg hc, firstBad_ok (h.mpr hc)]
    exact next

theorem stationKindOf_isSome (b : Byte) : (stationKindOf b).isSome = true ↔ ¬(b = 0 ∨ 3 < b.toNat) := by
  unfold stationKindOf
  have zero : b = 0 ↔ b.toNat = 0 := BitVec.toNat_inj.symm
  have one : b = 1 ↔ b.toNat = 1 := BitVec.toNat_inj.symm
  have two : b = 2 ↔ b.toNat = 2 := BitVec.toNat_inj.symm
  have three : b = 3 ↔ b.toNat = 3 := BitVec.toNat_inj.symm
  rw [zero]
  simp only [one, two, three]
  by_cases h1 : b.toNat = 1
  · simp [h1]
  by_cases h2 : b.toNat = 2
  · simp [h2]
  by_cases h3 : b.toNat = 3
  · simp [h3]
  · simp only [h1, h2, h3, if_false, Option.isSome_none, Bool.false_eq_true, false_iff, Classical.not_not]
    omega

theorem stationKindOf_code {b : Byte} {k : StationKind} (h : b.toNat = stationKindCode k) : stationKindOf b = some k := by
  have : b = byte (stationKindCode k) := by rw [← h, byte_of_toNat]
  rw [this]
  cases k <;> rfl

theorem offsetOk_iff (i : Int) : offsetOk i = true ↔ ¬(i < -64 ∨ 63 < i) := by
  unfold offsetOk
  rw [Bool.and_eq_true, decide_eq_true_iff, decide_eq_true_iff]
  omega

/-- The actuator byte's check: an address from 2 to 61, or 0xFF for none. -/
theorem actuatorImage_iff (b : Byte) :
    ((if b = 0xFF then none else some b.toNat).all fun a => decide (2 ≤ a) && decide (a ≤ 61)) = true ↔
      ¬(b.toNat < 2 ∨ 61 < b.toNat ∧ b ≠ 0xFF) := by
  by_cases h : b = 0xFF
  · subst h
    decide
  · rw [if_neg h, Option.all_some, Bool.and_eq_true, decide_eq_true_iff, decide_eq_true_iff]
    simp only [ne_eq, h, not_false_eq_true, and_true]
    omega

/-- A byte's check from 1 to a bound. -/
theorem rangeImage_iff (b : Byte) (n : Nat) : (decide (1 ≤ b.toNat) && decide (b.toNat ≤ n)) = true ↔
    ¬(b = 0 ∨ n < b.toNat) := by
  have zero : b = 0 ↔ b.toNat = 0 := BitVec.toNat_inj.symm
  rw [Bool.and_eq_true, decide_eq_true_iff, decide_eq_true_iff, zero]
  omega

theorem boundImage_iff (m n : Nat) : decide (m ≤ n) = true ↔ ¬n < m := by rw [decide_eq_true_iff, Nat.not_lt]

theorem sameGeometry_iff (a b : Station) : sameGeometry a b = true ↔ a.kind = b.kind ∧ a.service = b.service ∧
    a.position = b.position ∧ a.startOff = b.startOff ∧ a.endOff = b.endOff ∧ a.actuator = b.actuator := by
  unfold sameGeometry
  simp only [Bool.and_eq_true, beq_iff_eq, and_assoc]

/-- A station gives a service. -/
def Gives (svc : Nat) (st : Station) : Prop := st.actuator ≠ none ∧ st.inService = true ∧ st.service = svc

theorem covered_iff {s : State} (h : s.stations.length = 24) (svc : Nat) :
    s.covered svc = true ↔ ∃ i, i < 24 ∧ Gives svc (s.station i) := by
  have gives (st : Station) : (Station.used st && st.inService && st.service == svc) = true ↔ Gives svc st := by
    rw [Bool.and_eq_true, Bool.and_eq_true, used_iff, beq_iff_eq, and_assoc]
    exact Iff.rfl
  unfold State.covered
  rw [List.any_eq_true]
  constructor
  · rintro ⟨st, hst, hgives⟩
    obtain ⟨i, hi, rfl⟩ := exists_station hst
    exact ⟨i, h ▸ hi, (gives _).mp hgives⟩
  · rintro ⟨i, hi, hgives⟩
    exact ⟨s.station i, station_mem s (h.symm ▸ hi), (gives _).mpr hgives⟩

/-- The write takes the service's last station from it. -/
def Lost (s : State) (n : Nat) (st : Station) : Prop :=
  Gives (s.station n).service (s.station n) ∧ ¬Gives (s.station n).service st ∧
    ∀ k, k < 24 → k ≠ n → ¬Gives (s.station n).service (s.station k)

/-- The service is covered after the write where some station still gives it. -/
theorem covered_setStation {s : State} (h : s.stations.length = 24) {n : Nat} (hn : n < 24) (st : Station) (svc : Nat) :
    (s.setStation n st).covered svc = true ↔
      Gives svc st ∨ ∃ k, k < 24 ∧ k ≠ n ∧ Gives svc (s.station k) := by
  rw [covered_iff (List.length_set.trans h)]
  constructor
  · rintro ⟨k, hk, hgives⟩
    by_cases hkn : k = n
    · subst hkn
      rw [station_setStation _ (h.symm ▸ hn)] at hgives
      exact .inl hgives
    · rw [station_setStation_ne s _ hkn] at hgives
      exact .inr ⟨k, hk, hkn, hgives⟩
  · rintro (hgives | ⟨k, hk, hkn, hgives⟩)
    · exact ⟨n, hn, by rw [station_setStation _ (h.symm ▸ hn)]; exact hgives⟩
    · exact ⟨k, hk, by rw [station_setStation_ne s _ hkn]; exact hgives⟩

theorem writeStation_lost {s : State} (h : s.stations.length = 24) {n : Nat} (hn : n < 24) {b : Nat → Byte}
    (lost : Lost s n (Station.written (s.station n) b)) : s.writeStation n b =
      ((s.setStation n (Station.written (s.station n) b)).setSales { s.sales with
        orders := s.sales.orders.map fun o =>
          if newlyDegraded (s.station n).service o then { o with degraded := true } else o }).notify .sales
        { reason 4 with
          place := some (s.station n).service,
          arg := some (s.sales.orders.countP (newlyDegraded (s.station n).service)) } := by
  obtain ⟨hold, hnew, hothers⟩ := lost
  have ⟨hused, _⟩ := hold
  have gone : (s.setStation n (Station.written (s.station n) b)).covered (s.station n).service = false := by
    rw [← Bool.not_eq_true, covered_setStation h hn]
    rintro (hg | ⟨k, hk, hkn, hg⟩)
    · exact hnew hg
    · exact hothers k hk hkn hg
  unfold State.writeStation
  exact (if_pos ⟨(used_iff _).mpr hused, (covered_iff h _).mpr ⟨n, hn, hold⟩⟩).trans (cascade_lost gone)

theorem writeStation_kept {s : State} (h : s.stations.length = 24) {n : Nat} (hn : n < 24) {b : Nat → Byte}
    (kept : ¬Lost s n (Station.written (s.station n) b)) :
    s.writeStation n b = s.setStation n (Station.written (s.station n) b) := by
  unfold State.writeStation
  dsimp only
  split
  next covered =>
    refine cascade_covered ((covered_setStation h hn _ _).mpr ?_)
    obtain ⟨k, hk, hgives⟩ := (covered_iff h _).mp covered.2
    by_cases hkn : k = n
    · subst hkn
      refine Classical.byContradiction fun hnone => ?_
      rw [not_or] at hnone
      exact kept ⟨hgives, hnone.1, fun j hj hjn hg => hnone.2 ⟨j, hj, hjn, hg⟩⟩
    · exact .inr ⟨k, hk, hkn, hgives⟩
  · rfl

/-! ## Images written -/

/-- The first bytes of a written record's image. -/
theorem nodeImage_take {b0 b1 b2 b3 b4 b5 b6 : Byte} {r : NodeRecord} (role : b0.toNat = roleNumber r.role)
    (lane : r.lane = b1.toNat) (station : r.station = b2.toNat) (position : r.position = b3.toNat * 256 + b4.toNat)
    (forward : flag r.forward = b5) (watch : r.watch = b6.toNat) :
    (nodeImage r).take 7 = [b0, b1, b2, b3, b4, b5, b6] := by
  unfold nodeImage
  rw [← role, lane, station, position, forward, watch, be16_pair]
  simp only [byte_of_toNat]
  rfl

theorem orNone_actuator (b : Byte) : orNone (if b = 0xFF then none else some b.toNat) = b := by
  by_cases h : b = 0xFF
  · subst h
    rfl
  · rw [if_neg h]
    exact byte_of_toNat b

/-- The first bytes of a written station's image. -/
theorem stationImage_take {b0 b1 b2 b3 b4 b5 b6 b7 b8 b9 b10 b11 : Byte} {s : State} {st : Station}
    (kind : b0.toNat = stationKindCode st.kind) (service : st.service = b1.toNat)
    (position : st.position = b2.toNat * 256 + b3.toNat) (startOff : st.startOff = b4.toInt)
    (endOff : st.endOff = b5.toInt) (actuator : st.actuator = if b6 = 0xFF then none else some b6.toNat)
    (preload : st.preload = b7.toNat) (limit : st.limit = b8.toNat * 256 + b9.toNat) (bind : st.bind = b10.toNat)
    (backLen : st.backLen = b11.toNat) :
    (s.stationImage st).take 12 = [b0, b1, b2, b3, b4, b5, b6, b7, b8, b9, b10, b11] := by
  have offset (b : Byte) : twos b.toInt = b := BitVec.ofInt_toInt
  unfold State.stationImage
  rw [← kind, service, position, startOff, endOff, actuator, preload, limit, bind, backLen, be16_pair, be16_pair,
    orNone_actuator, offset, offset]
  simp only [byte_of_toNat]
  rfl

/-- Settles O51: each image is judged check by check, and what is written reads back as its bytes. -/
theorem nodeAndStationWritesAreTaken : Obligations.NodeAndStationWritesAreTaken := by
  refine ⟨fun seq t i b0 b1 b2 b3 b4 b5 b6 rest s hs => ?nodeBad,
    fun seq t i b0 b1 b2 b3 b4 b5 b6 b7 b8 b9 b10 b11 rest s => ?stationBad,
    fun seq t i b0 b1 b2 b3 b4 b5 b6 rest role s hs => ?node,
    fun seq t i b0 b1 b2 b3 b4 b5 b6 b7 b8 b9 b10 b11 rest kind s hs => ?station⟩
  case nodeBad =>
    intro c a refused position quiet may role place forward watch htaken long index offline
    have refuse {n : Nat} (bad : _ = Verdict.badField n) : exec c s = .next ((s.without c).reply seq 2 .badValue [byte n]) :=
      writeNodeEntry_refused (Nat.add_le_add_right long 7) index htaken ((judgeNode_offline offline).trans bad)
    have bad {ok : Bool} {p : Prop} (h : ok = true ↔ p) (hp : ¬p) : ok = false :=
      Bool.eq_false_iff.mpr fun hok => hp (h.mp hok)
    have roleOk := roleImage_iff a b0
    have laneOk := @decide_eq_true_iff (b1.toNat ≤ 2) _
    have stationOk := @decide_eq_true_iff (b2.toNat ≤ 23) _
    have positionOk := @decide_eq_true_iff (position ≤ 4095) _
    have forwardOk := forwardImage_iff a b5
    have watchOk := watchImage_iff a b6
    refine ⟨fun hrole => refuse (firstBad_bad (bad roleOk hrole)), fun hrole hlane => ?lane,
      fun hrole hlane hstation => ?place,
      fun hrole hlane hstation hpos => ?position, fun hrole hplace hforward => ?forward,
      fun hrole hplace hforward hwatch => ?watch, fun hrole hplace hforward hwatch n hn hna hsame hheld => ?held⟩
    case lane =>
      exact refuse ((firstBad_ok (roleOk.mpr hrole)).trans (firstBad_bad (bad laneOk (Nat.not_le.mpr hlane))))
    case place =>
      exact refuse ((firstBad_ok (roleOk.mpr hrole)).trans <| (firstBad_ok (laneOk.mpr hlane)).trans
        (firstBad_bad (bad stationOk (Nat.not_le.mpr hstation))))
    case position =>
      exact refuse ((firstBad_ok (roleOk.mpr hrole)).trans <| (firstBad_ok (laneOk.mpr hlane)).trans <|
        (firstBad_ok (stationOk.mpr hstation)).trans (firstBad_bad (bad positionOk (Nat.not_le.mpr hpos))))
    all_goals
      obtain ⟨hlane, hstation, hpos⟩ := hplace
      have placed {f : Nat} {ok : Bool} {rest : List (Nat × Bool)} :=
        (firstBad_ok (n := 1) (rest := (2, _) :: (3, _) :: (4, _) :: (f, ok) :: rest) (roleOk.mpr hrole)).trans <| (firstBad_ok (laneOk.mpr hlane)).trans <|
        (firstBad_ok (stationOk.mpr hstation)).trans (firstBad_ok (positionOk.mpr hpos))
    case forward => exact refuse (placed.trans (firstBad_bad (bad forwardOk hforward)))
    case watch =>
      exact refuse (placed.trans <| (firstBad_ok (forwardOk.mpr hforward)).trans (firstBad_bad (bad watchOk hwatch)))
    case held =>
      have written : nodeOfImage (fun k => (b0 :: b1 :: b2 :: b3 :: b4 :: b5 :: b6 :: rest).getD k 0) = _ :=
        nodeOfImage_eq (r := (s.node n).role) hsame (And.left hforward)
      have held : s.duplicate a (nodeOfImage fun k => (b0 :: b1 :: b2 :: b3 :: b4 :: b5 :: b6 :: rest).getD k 0) = true := by
        rw [written]
        exact (duplicate_iff s a _).mpr ⟨n, hn, hna, rfl, hheld⟩
      exact refuse (placed.trans <| (firstBad_ok (forwardOk.mpr hforward)).trans <| (firstBad_ok (watchOk.mpr hwatch)).trans
        (firstBad_bad (congrArg Bool.not held)))
  case stationBad =>
    intro c beyond field htaken long index hfield
    have chain : field ≠ 0 →
        firstBad (stationChecks fun k => ([b0, b1, b2, b3, b4, b5, b6, b7, b8, b9, b10, b11] ++ rest).getD k 0) =
        .badField field :=
      firstBad_field (stationKindOf_isSome b0) <| firstBad_field (boundImage_iff _ _) <|
      firstBad_field (boundImage_iff _ _) <| firstBad_field (offsetOk_iff _) <| firstBad_field (offsetOk_iff _) <|
      firstBad_field (actuatorImage_iff b6) <| firstBad_field (boundImage_iff _ _) <|
      firstBad_field (rangeImage_iff b10 7) <| firstBad_field (rangeImage_iff b11 63) fun h => absurd rfl h
    refine (exec_writeStationEntry (image := [b0, b1, b2, b3, b4, b5, b6, b7, b8, b9, b10, b11] ++ rest)
      (Nat.add_le_add_right long 12) index htaken).trans (congrArg _ (finishWrite_badField _ _ _ ?_))
    rw [judgeStationWrite_eq, chain hfield]
    rfl
  case node =>
    intro args c u a pos fixed rec_ htaken long index
    have taken := exec_writeNodeEntry (image := b0 :: b1 :: b2 :: b3 :: b4 :: b5 :: b6 :: rest)
      (Nat.add_le_add_right long 7) index htaken
    refine ⟨fun hmode => taken.trans (congrArg _ (finishWrite_wrongMode _ _ _ (if_pos hmode))),
      fun offline hrole hlane hstation hpos hforward
      hquiet hsite hself hhub hnone hother hfree => ?_⟩
    intro w
    have written : nodeOfImage (fun k => (b0 :: b1 :: b2 :: b3 :: b4 :: b5 :: b6 :: rest).getD k 0) = rec_ :=
      nodeOfImage_eq hrole hforward
    have free : ¬u.duplicate a rec_ = true := by
      rw [duplicate_iff]
      rintro ⟨n, hn, hna, hsame, hheld⟩
      obtain ⟨hlanes, hstations⟩ := hfree n hn hna hsame
      rcases hheld with ⟨hmem, hat⟩ | ⟨hst, hat⟩
      · refine hlanes ?_ hat
        have hmem : role ∈ [Role.mergeEye, .gate, .kiosk] := by rw [← show (s.node n).role = role from hsame]; exact hmem
        simpa using hmem
      · exact hstations (hsame.symm.trans hst) hat
    have good : u.judgeNode a (fun k => (b0 :: b1 :: b2 :: b3 :: b4 :: b5 :: b6 :: rest).getD k 0) = .good := by
      refine (judgeNode_offline (s := u) offline).trans ?_
      rw [written]
      exact (firstBad_ok ((roleImage_iff a b0).mpr ⟨role, hrole, hsite, hself, hhub, hnone, hother⟩)).trans <|
        (firstBad_ok (decide_eq_true hlane)).trans <| (firstBad_ok (decide_eq_true hstation)).trans <|
        (firstBad_ok (decide_eq_true hpos)).trans <|
        (firstBad_ok ((forwardImage_iff a b5).mpr ⟨hforward, fun h => (hquiet h).1⟩)).trans <|
        (firstBad_ok ((watchImage_iff a b6).mpr fun h => (hquiet h).2)).trans
        (firstBad_ok (congrArg Bool.not (Bool.eq_false_iff.mpr free)))
    have read : w.node a = rec_ := node_setNode _ (by rw [show u.nodes.length = 64 from hs.nodes]; exact index)
    refine ⟨taken.trans (congrArg _ ((finishWrite_good seq 1 a good).trans ?_)), read, ?_⟩
    · rw [written]
    · rw [show w.image 1 a = nodeImage (w.node a) from rfl, read]
      exact nodeImage_take hrole rfl rfl rfl (flag_beq_one hforward) rfl
  case station =>
    intro image args c u n old pos st geometry htaken long index hkind hservice hpos hstart hstart' hend hend' hactuator
      hlimit hbind hbind' hback hback'
    have taken := exec_writeStationEntry (image := image ++ rest) (Nat.add_le_add_right long 12) index htaken
    have written : Station.written (u.station n) (fun k => (image ++ rest).getD k 0) = st := by
      have : (stationKindOf b0).getD .touch = kind := by rw [stationKindOf_code hkind]; rfl
      rw [show st = { st with kind := kind } from rfl, ← this]
      rfl
    have inRange : firstBad (stationChecks fun k => (image ++ rest).getD k 0) = .good :=
      (firstBad_ok ((congrArg Option.isSome (stationKindOf_code hkind)).trans rfl)).trans <|
      (firstBad_ok (decide_eq_true hservice)).trans <| (firstBad_ok (decide_eq_true hpos)).trans <|
      (firstBad_ok ((offsetOk_iff _).mpr (not_or.mpr ⟨Int.not_lt.mpr hstart, Int.not_lt.mpr hstart'⟩))).trans <|
      (firstBad_ok ((offsetOk_iff _).mpr (not_or.mpr ⟨Int.not_lt.mpr hend, Int.not_lt.mpr hend'⟩))).trans <|
      (firstBad_ok ((actuatorImage_iff b6).mpr (by
        rintro (h | ⟨h, hne⟩)
        · rcases hactuator with rfl | ⟨h2, -⟩
          · exact absurd h (by decide)
          · exact absurd h (Nat.not_lt.mpr h2)
        · rcases hactuator with h' | ⟨-, h61⟩
          · exact hne h'
          · exact absurd h (Nat.not_lt.mpr h61)))).trans <|
      (firstBad_ok (decide_eq_true hlimit)).trans <|
      (firstBad_ok (Bool.and_eq_true_iff.mpr ⟨decide_eq_true hbind, decide_eq_true hbind'⟩)).trans
      (firstBad_ok (Bool.and_eq_true_iff.mpr ⟨decide_eq_true hback, decide_eq_true hback'⟩))
    have judged : u.judgeStationWrite n (fun k => (image ++ rest).getD k 0) =
        if s.halt.mode ≠ .offline ∧ sameGeometry st old = false then .wrongMode else .good := by
      rw [judgeStationWrite_eq, inRange, written]
      rfl
    have same : sameGeometry st old = true ↔ geometry := sameGeometry_iff st old
    refine ⟨fun hmode hgeometry => taken.trans (congrArg _ (finishWrite_wrongMode _ _ _ (judged.trans (if_pos ⟨hmode,
      Bool.eq_false_iff.mpr fun h => hgeometry (same.mp h)⟩)))), fun hmay => ?_⟩
    have good : u.judgeStationWrite n (fun k => (image ++ rest).getD k 0) = .good := by
      refine judged.trans (if_neg ?_)
      rintro ⟨hmode, hgeometry⟩
      rcases hmay with h | h
      · exact hmode h
      · exact absurd (same.mpr h) (Bool.eq_false_iff.mp hgeometry)
    have length : u.stations.length = 24 := hs.stations
    have place : n < u.stations.length := length.symm ▸ index
    refine ⟨u.writeStation n fun k => (image ++ rest).getD k 0,
      taken.trans (congrArg _ (finishWrite_good seq 2 n good)), ?_⟩
    have taking (w : State) (h : w.stations = (u.setStation n st).stations) : w.station n = st ∧
        (∀ k, k ≠ n → w.station k = s.station k) ∧ (w.image 2 n).take 12 = image := by
      have at_ (k : Nat) : w.station k = (u.setStation n st).station k := by unfold State.station; rw [h]
      have read : w.station n = st := (at_ n).trans (station_setStation st place)
      refine ⟨read, fun k hk => (at_ k).trans (station_setStation_ne u st hk), ?_⟩
      rw [show w.image 2 n = w.stationImage (w.station n) from rfl, read]
      exact stationImage_take hkind rfl rfl rfl rfl rfl rfl rfl rfl rfl
    by_cases lost : Lost u n (Station.written (u.station n) fun k => (image ++ rest).getD k 0)
    · have left := writeStation_lost length index lost
      rw [written] at lost left
      obtain ⟨hstation, hothers, himage⟩ := taking _ ((congrArg State.stations left).trans rfl)
      refine ⟨hstation, hothers, himage, fun _ => ⟨(congrArg State.sales left).trans rfl, ?_⟩,
        fun hkept => absurd lost hkept⟩
      rw [left]
      exact notify_noticed _ _ _ hs.notices
    · have left := writeStation_kept length index lost
      rw [written] at lost left
      obtain ⟨hstation, hothers, himage⟩ := taking _ ((congrArg State.stations left).trans rfl)
      exact ⟨hstation, hothers, himage, fun h => absurd h lost, fun _ => left⟩

end Sys2Proof.Machine
end

section
/-!
What the laws of the order pool read (R61 to R64, R96), and the changes of one order that keep them.
-/
namespace Sys2Proof.Machine

-- Proofs in order: a thread that waits for another proof counts against the check's memory limit.
set_option Elab.async false

/-! ## What the laws read -/

/-- What the pool's laws read of an order. -/
def Order.standing (o : Order) : OrderState × Nat × Nat × Option Nat := (o.state, o.lane, o.tag, o.car)

/-- What the pool's laws read of a car. -/
def Car.ticket (c : Car) : Nat × Option Nat := (c.tag, c.order)

/-- The next state holds the pool, the lane queues, the grant and the cars as the pool's laws read them. -/
structure PoolSame (s t : State) : Prop where
  queues : t.sales.lanes.map LaneSales.queue = s.sales.lanes.map LaneSales.queue
  orders : t.sales.orders.map Order.standing = s.sales.orders.map Order.standing
  free : t.sales.free = s.sales.free
  grant : t.merge.grant = s.merge.grant
  timer : t.merge.admitTimer.isSome = s.merge.admitTimer.isSome
  tickets : t.track.cars.map Car.ticket = s.track.cars.map Car.ticket

theorem PoolSame.refl {s : State} : PoolSame s s := ⟨rfl, rfl, rfl, rfl, rfl, rfl⟩

theorem PoolSame.trans {s t u : State} (h : PoolSame s t) (k : PoolSame t u) : PoolSame s u :=
  ⟨k.queues.trans h.queues, k.orders.trans h.orders, k.free.trans h.free, k.grant.trans h.grant, k.timer.trans h.timer,
    k.tickets.trans h.tickets⟩

theorem PoolSame.ite {s t u : State} {c : Prop} [Decidable c] (h : PoolSame s t) (k : PoolSame s u) :
    PoolSame s (if c then t else u) := by
  split
  · exact h
  · exact k

theorem PoolSame.foldl {α : Type} {g : State → α → State} (h : ∀ t x, PoolSame t (g t x)) (xs : List α) :
    ∀ s, PoolSame s (xs.foldl g s) := by
  induction xs with
  | nil => intro s; exact .refl
  | cons x xs ih => intro s; exact (h s x).trans (ih _)

/-- A change of other parts. -/
theorem SameExcept.poolSame {l : List Part} {s t : State} (h : SameExcept l s t)
    (hl : Part.sales ∉ l ∧ Part.merge ∉ l ∧ Part.track ∉ l := by decide) : PoolSame s t := by
  have hs : t.sales = s.sales := h.same _ hl.1
  have hm : t.merge = s.merge := h.same _ hl.2.1
  have ht : t.track = s.track := h.same _ hl.2.2
  exact ⟨by rw [hs], by rw [hs], by rw [hs], by rw [hm], by rw [hm], by rw [ht]⟩

theorem setSales_poolSame (s : State) {v : Sales} (queues : v.lanes.map LaneSales.queue = s.sales.lanes.map LaneSales.queue)
    (orders : v.orders.map Order.standing = s.sales.orders.map Order.standing) (free : v.free = s.sales.free) :
    PoolSame s (s.setSales v) := ⟨queues, orders, free, rfl, rfl, rfl⟩

theorem setMerge_poolSame (s : State) {v : Merge} (grant : v.grant = s.merge.grant)
    (timer : v.admitTimer.isSome = s.merge.admitTimer.isSome) : PoolSame s (s.setMerge v) :=
  ⟨rfl, rfl, rfl, grant, timer, rfl⟩

theorem setTrack_poolSame (s : State) {v : Track} (cars : v.cars.map Car.ticket = s.track.cars.map Car.ticket) :
    PoolSame s (s.setTrack v) := ⟨rfl, rfl, rfl, rfl, rfl, cars⟩

/-- A record of a list written with what the reading takes for the same. -/
theorem map_set_same {α β : Type} {g : α → β} {l : List α} {i : Nat} {v d : α} (h : g v = g (l.getD i d)) :
    (l.set i v).map g = l.map g := by
  rw [List.map_set, h]
  by_cases hi : i < l.length
  · rw [getD_of_lt _ _ hi, ← List.getElem_map (f := g) (h := by rwa [List.length_map]), List.set_getElem_self]
  · exact List.set_eq_of_length_le (by rw [List.length_map]; exact Nat.le_of_not_lt hi)

/-- A lane written with its queue as it was. -/
theorem setLane_poolSame (s : State) (l : Nat) {v : LaneSales} (queue : v.queue = (s.lane l).queue) :
    PoolSame s (s.setLane l v) := setSales_poolSame s (map_set_same (g := LaneSales.queue) queue) rfl rfl

theorem PoolSame.queue {s t : State} (h : PoolSame s t) (l : Nat) : (t.lane l).queue = (s.lane l).queue := by
  have read (u : State) : (u.lane l).queue = (u.sales.lanes.map LaneSales.queue).getD l [] := by
    rw [show ([] : List Nat) = LaneSales.blank.queue from rfl, getD_map]
    rfl
  rw [read, read, h.queues]

theorem PoolSame.standing {s t : State} (h : PoolSame s t) (r : Nat) : (t.order r).standing = (s.order r).standing := by
  have read (u : State) : (u.order r).standing = (u.sales.orders.map Order.standing).getD r Order.blank.standing := by
    rw [getD_map]
    rfl
  rw [read, read, h.orders]

theorem PoolSame.queued {s t : State} (h : PoolSame s t) : t.queued = s.queued := by
  unfold State.queued
  rw [h.queue, h.queue, h.queue]

theorem PoolSame.head {s t : State} (h : PoolSame s t) (l : Nat) : t.headOrder l = s.headOrder l := congrArg List.head? (h.queue l)

theorem PoolSame.grantedOrder {s t : State} (h : PoolSame s t) : t.grantedOrder = s.grantedOrder := by
  unfold State.grantedOrder
  rw [h.grant, funext fun g : Grant => h.head g.lane]

theorem standing_eq_iff {o p : Order} : o.standing = p.standing ↔
    o.state = p.state ∧ o.lane = p.lane ∧ o.tag = p.tag ∧ o.car = p.car := by
  simp only [Order.standing, Prod.mk.injEq]

theorem waits_congr {o p : Order} (h : o.state = p.state) : Order.waits o = Order.waits p := by
  unfold Order.waits
  rw [h]

theorem PoolSame.poolLaw {s t : State} (h : PoolSame s t) (k : PoolLaw s) : PoolLaw t := by
  have read (r : Nat) := standing_eq_iff.mp (h.standing r)
  have state (r : Nat) : (t.order r).state = (s.order r).state := (read r).1
  have length {α β : Type} {l m : List α} {g : α → β} (e : l.map g = m.map g) : l.length = m.length := by
    simpa using congrArg List.length e
  refine { lanes := (length h.queues).trans k.lanes, orders := (length h.orders).trans k.orders, once := ?_, small := ?_,
           free := fun r hr => ?_, waiting := fun r hr => ?_, home := fun l hl r hr => ?_, granted := fun r hr => ?_,
           named := fun g hg => ?_ }
  · rw [h.free, h.queued]
    exact k.once
  · rw [h.free, h.queued]
    exact k.small
  · rw [state, h.free]
    exact k.free r hr
  · rw [waits_congr (state r), h.queued]
    exact k.waiting r hr
  · rw [h.queue] at hr
    obtain ⟨-, lane, -⟩ := read r
    rw [lane]
    exact k.home l hl r hr
  · rw [state, h.grantedOrder]
    exact k.granted r hr
  · rw [h.grant] at hg
    obtain ⟨hl, r, hr, htag⟩ := k.named g hg
    obtain ⟨-, -, tag, -⟩ := read r
    exact ⟨hl, r, (h.head _).trans hr, tag.trans htag⟩

/-- A car of an order and a tag, said of the tickets. -/
theorem exists_ticket {l : List Car} {a : Nat} {x : Option Nat} : (∃ c ∈ l, c.order = some a ∧ x = some c.tag) ↔
    ∃ p ∈ l.map Car.ticket, p.2 = some a ∧ x = some p.1 :=
  ⟨fun ⟨c, hc, h⟩ => ⟨c.ticket, List.mem_map_of_mem hc, h⟩, fun ⟨_, hp, h⟩ => by
    obtain ⟨c, hc, rfl⟩ := List.mem_map.mp hp
    exact ⟨c, hc, h⟩⟩

theorem PoolSame.boundLaw {s t : State} (h : PoolSame s t) (k : BoundLaw s) : BoundLaw t := by
  have read (r : Nat) := standing_eq_iff.mp (h.standing r)
  refine ⟨fun r hr hb => ?_, fun c hc tag htag => ?_, fun q r hq hr fq fr htag => ?_⟩
  · obtain ⟨state, -, tag, car⟩ := read r
    rw [state] at hb
    rw [tag, car, exists_ticket, h.tickets, ← exists_ticket]
    exact k.rides r hr hb
  · have hmem : c.ticket ∈ s.track.cars.map Car.ticket := h.tickets ▸ List.mem_map_of_mem hc
    obtain ⟨d, hd, heq⟩ := List.mem_map.mp hmem
    obtain ⟨hdtag, hdorder⟩ := Prod.mk.inj heq
    obtain ⟨r, hr, hb, hrtag, hcar⟩ := k.bound d hd tag (hdorder.trans htag)
    obtain ⟨state, -, rtag, car⟩ := read r
    exact ⟨r, hr, state.trans hb, rtag.trans hrtag, (car.trans hcar).trans (congrArg some hdtag)⟩
  · obtain ⟨sq, -, tq, -⟩ := read q
    obtain ⟨sr, -, tr, -⟩ := read r
    exact k.tags q r hq hr (sq ▸ fq) (sr ▸ fr) (tq.symm.trans (htag.trans tr))

theorem PoolSame.carTags {s t : State} (h : PoolSame s t) : t.carTags = s.carTags := by
  have read (u : State) : u.carTags = (u.track.cars.map Car.ticket).map Prod.fst := by
    rw [List.map_map]
    rfl
  rw [read, read, h.tickets]

/-! ## What a change of the pool keeps -/

/-- The laws of the pool after a change, each from what it was before. -/
structure PoolHeld (s t : State) : Prop where
  pool : PoolLaw t
  tags : s.carTags.Nodup → t.carTags.Nodup
  bound : s.carTags.Nodup → BoundLaw s → BoundLaw t
  grant : GrantLaw s → GrantLaw t

/-- A change that keeps the laws of the pool. -/
structure PoolKept (s t : State) : Prop where
  held : PoolLaw s → PoolHeld s t

theorem PoolKept.refl {s : State} : PoolKept s s := ⟨fun h => ⟨h, id, fun _ => id, id⟩⟩

theorem PoolKept.trans {s t u : State} (h : PoolKept s t) (k : PoolKept t u) : PoolKept s u := by
  refine ⟨fun hs => ?_⟩
  have ht := h.held hs
  have hu := k.held ht.pool
  exact ⟨hu.pool, hu.tags ∘ ht.tags, fun tags => hu.bound (ht.tags tags) ∘ ht.bound tags, hu.grant ∘ ht.grant⟩

theorem PoolKept.ite {s t u : State} {c : Prop} [Decidable c] (h : PoolKept s t) (k : PoolKept s u) :
    PoolKept s (if c then t else u) := by
  split
  · exact h
  · exact k

theorem PoolKept.foldl {α : Type} {g : State → α → State} (h : ∀ t x, PoolKept t (g t x)) (xs : List α) :
    ∀ s, PoolKept s (xs.foldl g s) := by
  induction xs with
  | nil => intro s; exact .refl
  | cons x xs ih => intro s; exact (h s x).trans (ih _)

/-- A grant stands in ARMED alone (R96): so a mode left for another is not ARMED, or the next one is. -/
theorem PoolSame.grantLaw {s t : State} (h : PoolSame s t) (mode : s.halt.mode = .armed → t.halt.mode = .armed) :
    GrantLaw s → GrantLaw t := by
  rintro ⟨paired, armed⟩
  refine ⟨by rw [h.grant, h.timer, paired], fun hg => mode (armed ?_)⟩
  rwa [h.grant] at hg

theorem PoolSame.kept_mode {s t : State} (h : PoolSame s t) (mode : s.halt.mode = .armed → t.halt.mode = .armed) :
    PoolKept s t :=
  ⟨fun hs => ⟨h.poolLaw hs, fun tags => h.carTags.symm ▸ tags, fun _ => h.boundLaw, h.grantLaw mode⟩⟩

theorem PoolSame.kept {s t : State} (h : PoolSame s t) (mode : t.halt.mode = s.halt.mode) : PoolKept s t :=
  h.kept_mode mode.trans

theorem SameExcept.poolKept {l : List Part} {s t : State} (h : SameExcept l s t)
    (hl : Part.sales ∉ l ∧ Part.merge ∉ l ∧ Part.track ∉ l ∧ Part.halt ∉ l := by decide) : PoolKept s t := by
  have halt : t.halt = s.halt := h.same _ hl.2.2.2
  exact (h.poolSame ⟨hl.1, hl.2.1, hl.2.2.1⟩).kept (by rw [halt])

/-- A change that leaves the pool's part and the halt alone. -/
theorem PoolSame.kept_frame {l : List Part} {s t : State} (h : PoolSame s t) (f : SameExcept l s t)
    (hl : Part.halt ∉ l := by decide) : PoolKept s t := by
  have halt : t.halt = s.halt := f.same _ hl
  exact h.kept (by rw [halt])

/-! ## Places of the order records -/

theorem mem_queued {s : State} {r : Nat} : r ∈ s.queued ↔ ∃ l, l < 3 ∧ r ∈ (s.lane l).queue := by
  unfold State.queued
  rw [List.mem_append, List.mem_append]
  constructor
  · rintro ((h | h) | h)
    · exact ⟨0, by decide, h⟩
    · exact ⟨1, by decide, h⟩
    · exact ⟨2, by decide, h⟩
  · rintro ⟨l, hl, h⟩
    match l, hl, h with
    | 0, _, h => exact .inl (.inl h)
    | 1, _, h => exact .inl (.inr h)
    | 2, _, h => exact .inr h

/-- The head of a lane's queue: the lane is one of the three. -/
theorem PoolLaw.head {s : State} (h : PoolLaw s) {l r : Nat} (hr : s.headOrder l = some r) :
    l < 3 ∧ r ∈ (s.lane l).queue ∧ r < 40 := by
  have hmem : r ∈ (s.lane l).queue := List.mem_of_mem_head? hr
  have hl : l < 3 := by
    refine Classical.byContradiction fun hnot => ?_
    have : s.lane l = .blank := getD_of_le _ _ (by rw [h.lanes]; omega)
    rw [this] at hmem
    cases hmem
  exact ⟨hl, hmem, h.small r (List.mem_append_right _ (mem_queued.mpr ⟨l, hl, hmem⟩))⟩

theorem PoolLaw.queued_lt {s : State} (h : PoolLaw s) {r : Nat} (hr : r ∈ s.queued) : r < 40 :=
  h.small r (List.mem_append_right _ hr)

/-- The lane that holds a waiting order is the one the order names. -/
theorem PoolLaw.mem_lane {s : State} (h : PoolLaw s) {r : Nat} (hr : r ∈ s.queued) :
    (s.order r).lane < 3 ∧ r ∈ (s.lane (s.order r).lane).queue := by
  obtain ⟨l, hl, hmem⟩ := mem_queued.mp hr
  rw [h.home l hl r hmem]
  exact ⟨hl, hmem⟩

theorem PoolLaw.queue_nodup {s : State} (h : PoolLaw s) {l : Nat} (hl : l < 3) : (s.lane l).queue.Nodup := by
  have queued : s.queued.Nodup := (List.nodup_append.mp h.once).2.1
  unfold State.queued at queued
  obtain ⟨h01, h2, -⟩ := List.nodup_append.mp queued
  obtain ⟨h0, h1, -⟩ := List.nodup_append.mp h01
  match l, hl with
  | 0, _ => exact h0
  | 1, _ => exact h1
  | 2, _ => exact h2

/-- No order is granted where no grant stands. -/
theorem grantedOrder_none {s : State} (h : s.merge.grant = none) : s.grantedOrder = none := by
  unfold State.grantedOrder
  rw [h]
  rfl

/-! ## One order changed -/

/-- One order record changed, every other as it was and in its place: the pool's law rests on the record changed, and on the
grant. -/
theorem PoolLaw.change {s t : State} {r : Nat} (h : PoolLaw s) (hr : r < 40) (lanes : t.sales.lanes.length = 3)
    (orders : t.sales.orders.length = 40) (others : ∀ q, q ≠ r → t.order q = s.order q)
    (freed : ∀ q, q ≠ r → (q ∈ t.sales.free ↔ q ∈ s.sales.free))
    (queues : ∀ l q, l < 3 → q ≠ r → (q ∈ (t.lane l).queue ↔ q ∈ (s.lane l).queue)) (once : (t.sales.free ++ t.queued).Nodup)
    (free : (t.order r).state = .free ↔ r ∈ t.sales.free) (waiting : Order.waits (t.order r) = true ↔ r ∈ t.queued)
    (home : ∀ l, l < 3 → r ∈ (t.lane l).queue → (t.order r).lane = l)
    (granted : ∀ q, q < 40 → ((t.order q).state = .granted ↔ t.grantedOrder = some q))
    (named : ∀ g, t.merge.grant = some g → g.lane < 3 ∧ ∃ q, t.headOrder g.lane = some q ∧ (t.order q).tag = g.tag) :
    PoolLaw t := by
  have queued (q : Nat) (hq : q ≠ r) : q ∈ t.queued ↔ q ∈ s.queued := by
    rw [mem_queued, mem_queued]
    exact exists_congr fun l => and_congr_right fun hl => queues l q hl hq
  refine { lanes, orders, once, granted, named, small := fun q hq => ?_, free := fun q hq => ?_, waiting := fun q hq => ?_,
           home := fun l hl q hq => ?_ }
  · by_cases hqr : q = r
    · exact hqr ▸ hr
    · refine h.small q ?_
      rw [List.mem_append] at hq ⊢
      rwa [← freed q hqr, ← queued q hqr]
  · by_cases hqr : q = r
    · exact hqr ▸ free
    · rw [others q hqr, freed q hqr]
      exact h.free q hq
  · by_cases hqr : q = r
    · exact hqr ▸ waiting
    · rw [others q hqr, queued q hqr]
      exact h.waiting q hq
  · by_cases hqr : q = r
    · subst hqr
      exact home l hl hq
    · rw [others q hqr]
      exact h.home l hl q ((queues l q hl hqr).mp hq)

/-- One order's state changed in its place, waiting before and after. -/
theorem PoolLaw.restate {s t : State} {r : Nat} (h : PoolLaw s) (hr : r ∈ s.queued) (waits : Order.waits (t.order r) = true)
    (lane : (t.order r).lane = (s.order r).lane) (lanes : t.sales.lanes = s.sales.lanes)
    (orders : t.sales.orders.length = s.sales.orders.length) (free : t.sales.free = s.sales.free)
    (others : ∀ q, q ≠ r → t.order q = s.order q)
    (granted : ∀ q, q < 40 → ((t.order q).state = .granted ↔ t.grantedOrder = some q))
    (named : ∀ g, t.merge.grant = some g → g.lane < 3 ∧ ∃ q, t.headOrder g.lane = some q ∧ (t.order q).tag = g.tag) :
    PoolLaw t := by
  have queue (l : Nat) : t.lane l = s.lane l := by unfold State.lane; rw [lanes]
  have queued : t.queued = s.queued := by unfold State.queued; rw [queue, queue, queue]
  have apart : r ∉ s.sales.free := fun hfree => (List.nodup_append.mp h.once).2.2 r hfree r hr rfl
  have notFree : (t.order r).state ≠ .free := fun hfree => by
    unfold Order.waits at waits
    rw [hfree] at waits
    cases waits
  refine h.change (r := r) (h.queued_lt hr) (by rw [lanes, h.lanes]) (by rw [orders, h.orders]) others (fun q _ => by rw [free])
    (fun l q _ _ => by rw [queue]) (by rw [free, queued]; exact h.once) (by rw [free]; exact iff_of_false notFree apart)
    (by rw [queued]; exact iff_of_true waits hr) (fun l hl hmem => ?_) granted named
  rw [queue] at hmem
  rw [lane]
  exact h.home l hl r hmem

/-- One order changed that is BOUND neither before nor after: what binds the others stands. -/
theorem BoundLaw.change {s t : State} {r : Nat} (h : BoundLaw s) (cars : t.track.cars = s.track.cars)
    (others : ∀ q, q ≠ r → t.order q = s.order q) (before : (s.order r).state ≠ .bound) (after : (t.order r).state ≠ .bound)
    (tags : (t.order r).state ≠ .free → ∀ q, q < 40 → q ≠ r → (s.order q).state ≠ .free → (s.order q).tag ≠ (t.order r).tag) :
    BoundLaw t := by
  refine ⟨fun q hq hb => ?_, fun c hc tag htag => ?_, fun p q hp hq fp fq htag => ?_⟩
  · have hqr : q ≠ r := fun heq => after (heq ▸ hb)
    rw [others q hqr] at hb ⊢
    rw [cars]
    exact h.rides q hq hb
  · obtain ⟨q, hq, hb, hqtag, hcar⟩ := h.bound c (cars ▸ hc) tag htag
    have hqr : q ≠ r := fun heq => before (heq ▸ hb)
    exact ⟨q, hq, by rw [others q hqr]; exact hb, by rw [others q hqr]; exact hqtag, by rw [others q hqr]; exact hcar⟩
  · by_cases hpr : p = r <;> by_cases hqr : q = r
    · exact hpr.trans hqr.symm
    · subst hpr
      rw [others q hqr] at fq htag
      exact absurd htag.symm (tags fp q hq hqr fq)
    · subst hqr
      rw [others p hpr] at fp htag
      exact absurd htag (tags fq p hp hpr fp)
    · rw [others p hpr] at fp htag
      rw [others q hqr] at fq htag
      exact h.tags p q hp hq fp fq htag

end Sys2Proof.Machine
end

section
/-!
The changes of the order pool (R59, R61 to R66, R96 to R108, R111, R137), each with what it keeps of the pool's laws.
-/
namespace Sys2Proof.Machine

-- Proofs in order: a thread that waits for another proof counts against the check's memory limit.
set_option Elab.async false

/-! ## Around the pool -/

theorem setMergeLane_poolSame (s : State) (l : Nat) (v : LaneMerge) : PoolSame s (s.setMergeLane l v) :=
  setMerge_poolSame _ (by exact rfl) (by exact rfl)

theorem setGate_poolSame (s : State) (l : Nat) (g : Gate) : PoolSame s (s.setGate l g) := setMergeLane_poolSame ..

theorem openGate_poolSame (s : State) (l : Nat) : PoolSame s (s.openGate l) :=
  (toField_frame ..).poolSame.trans (setGate_poolSame ..)

theorem closeGate_poolSame (s : State) (l : Nat) : PoolSame s (s.closeGate l) :=
  (toField_frame ..).poolSame.trans (setGate_poolSame ..)

theorem setMergeLane_kept (s : State) (l : Nat) (v : LaneMerge) : PoolKept s (s.setMergeLane l v) :=
  (setMergeLane_poolSame s l v).kept rfl

/-- The order at the head of a lane that holds the grant is the granted one (R96). -/
theorem PoolLaw.granted_head {s : State} (h : PoolLaw s) {g : Grant} {r : Nat} (grant : s.merge.grant = some g)
    (head : s.headOrder g.lane = some r) : s.grantedOrder = some r ∧ (s.order r).state = .granted := by
  have granted : s.grantedOrder = some r := by
    unfold State.grantedOrder
    rw [grant]
    exact head
  exact ⟨granted, (h.granted r (h.head head).2.2).mpr granted⟩

/-- Where no grant stands no order is GRANTED. -/
theorem PoolLaw.ungranted {s : State} (h : PoolLaw s) (grant : s.merge.grant = none) {q : Nat} (hq : q < 40) :
    (s.order q).state ≠ .granted := fun hg => by
  have := (h.granted q hq).mp hg
  rw [grantedOrder_none grant] at this
  cases this

/-- Only the granted order is GRANTED. -/
theorem PoolLaw.granted_only {s : State} (h : PoolLaw s) {r q : Nat} (granted : s.grantedOrder = some r) (hq : q < 40)
    (hne : q ≠ r) : (s.order q).state ≠ .granted := fun hg =>
  hne (Option.some.inj (((h.granted q hq).mp hg).symm.trans granted))

theorem PoolLaw.setOrder_same {s : State} (h : PoolLaw s) {r : Nat} (hr : r < 40) (o : Order) : (s.setOrder r o).order r = o :=
  order_setOrder o (by rw [h.orders]; exact hr)

/-- The orders are read from Sales alone. -/
theorem order_of_sales {s t : State} (h : t.sales = s.sales) (r : Nat) : t.order r = s.order r := by
  unfold State.order
  rw [h]

theorem headOrder_of_sales {s t : State} (h : t.sales = s.sales) (l : Nat) : t.headOrder l = s.headOrder l := by
  unfold State.headOrder State.lane
  rw [h]

theorem queued_of_sales {s t : State} (h : t.sales = s.sales) : t.queued = s.queued := by
  unfold State.queued State.lane
  rw [h]

theorem carTags_of_cars {s t : State} (h : t.track.cars = s.track.cars) : t.carTags = s.carTags := by
  unfold State.carTags
  rw [h]

/-! ## Staging (R97 to R101) -/

/-- A waiting order's state changed with its grant as it was. -/
theorem setOrderState_kept {s : State} {r : Nat} {st : OrderState} (head : ∃ l, s.headOrder l = some r)
    (before : (s.order r).state = .queued ∨ (s.order r).state = .staged) (after : st = .queued ∨ st = .staged) :
    PoolKept s (s.setOrderState r st) := by
  refine ⟨fun h => ?_⟩
  obtain ⟨l, head⟩ := head
  obtain ⟨hl, hmem, hr⟩ := h.head head
  have own : (s.setOrderState r st).order r = { s.order r with state := st } := h.setOrder_same hr _
  have others (q : Nat) (hq : q ≠ r) : (s.setOrderState r st).order q = s.order q := order_setOrder_ne s _ hq
  have notGranted : (s.order r).state ≠ .granted := by
    rcases before with hb | hb <;> rw [hb] <;> decide
  have after_not {x : OrderState} (h1 : x ≠ .queued) (h2 : x ≠ .staged) : st ≠ x := by
    rcases after with rfl | rfl
    · exact h1.symm
    · exact h2.symm
  have tag (q : Nat) : ((s.setOrderState r st).order q).tag = (s.order q).tag := by
    by_cases hq : q = r
    · rw [hq, own]
    · rw [others q hq]
  refine ⟨?_, id, fun _ hb => ?_, id⟩
  · refine h.restate (mem_queued.mpr ⟨l, hl, hmem⟩) ?_ (by rw [own]) rfl List.length_set rfl others (fun q hq => ?_)
      (fun g hg => ?_)
    · rw [own]
      rcases after with rfl | rfl <;> rfl
    · by_cases hqr : q = r
      · subst hqr
        rw [own]
        exact iff_of_false (after_not (by decide) (by decide)) fun hg => notGranted ((h.granted q hq).mpr hg)
      · rw [others q hqr]
        exact h.granted q hq
    · obtain ⟨hgl, q, hhead, htag⟩ := h.named g hg
      exact ⟨hgl, q, hhead, (tag q).trans htag⟩
  · refine hb.change (r := r) rfl others ?_ ?_ (fun _ q hq hqr hfree htag => hqr ?_)
    · rcases before with hb | hb <;> rw [hb] <;> decide
    · rw [own]
      exact after_not (by decide) (by decide)
    · refine hb.tags q r hq hr hfree ?_ (htag.trans (tag r))
      rcases before with hb | hb <;> rw [hb] <;> decide

theorem markUnpaid_kept (s : State) (l : Nat) : PoolKept s (s.markUnpaid l) :=
  (setMergeLane_kept ..).trans (notifySales_frame ..).poolKept

theorem stage_kept {s : State} {l r : Nat} (head : ∃ l, s.headOrder l = some r) (queued : (s.order r).state = .queued) :
    PoolKept s (s.stage l r) :=
  ((setOrderState_kept head (.inl queued) (.inr rfl)).trans (setMergeLane_kept ..)).trans (handStart_frame _).poolKept

/-! ## The grant and its end (R102 to R108) -/

theorem grantLane_kept {s : State} {l r : Nat} (armed : s.halt.mode = .armed) (grant : s.merge.grant = none)
    (head : s.headOrder l = some r) (staged : (s.order r).state = .staged) : PoolKept s (s.grantLane l) := by
  rw [grantLane_eq head]
  refine PoolKept.trans (t := s.granting l r) ?_ ((openGate_poolSame ..).kept_frame (openGate_frame ..))
  refine ⟨fun h => ?_⟩
  obtain ⟨hl, hmem, hr⟩ := h.head head
  have own : (s.granting l r).order r = { s.order r with state := .granted } := h.setOrder_same hr _
  have others (q : Nat) (hq : q ≠ r) : (s.granting l r).order q = s.order q := order_setOrder_ne s _ hq
  have granted : (s.granting l r).grantedOrder = some r := head
  refine ⟨?_, id, fun _ hb => ?_, fun _ => ⟨rfl, fun _ => armed⟩⟩
  · refine h.restate (mem_queued.mpr ⟨l, hl, hmem⟩) (by rw [own]; rfl) (by rw [own]) rfl List.length_set rfl others
      (fun q hq => ?_) (fun g hg => ?_)
    · rw [granted, Option.some_inj]
      by_cases hqr : q = r
      · subst hqr
        exact iff_of_true (by rw [own]) rfl
      · rw [others q hqr]
        exact iff_of_false (h.ungranted grant hq) (Ne.symm hqr)
    · obtain rfl := Option.some.inj hg
      exact ⟨hl, r, head, by rw [own]⟩
  · refine hb.change (r := r) rfl others (by rw [staged]; decide) (by rw [own]; exact of_decide_eq_true rfl)
      (fun _ q hq hqr hfree htag => hqr ?_)
    refine hb.tags q r hq hr hfree (by rw [staged]; decide) (htag.trans ?_)
    rw [own]

theorem arbitrate_kept (s : State) : PoolKept s s.arbitrate := by
  unfold State.arbitrate
  split
  next hfree =>
    obtain ⟨armed, grant, -, -, -⟩ := (entryFree_iff s).mp hfree
    split
    · exact .refl
    next l hw =>
      obtain ⟨-, -, r, head, staged⟩ := (candidate_iff s l).mp (List.find?_some hw)
      split
      · exact grantLane_kept armed grant head staged
      · exact .refl
      · exact (setStartRequested_frame ..).poolKept
      · exact (setStartRequested_frame ..).poolKept
  next => exact .refl

/-! ## The conveyor -/

theorem startConveyor_poolSame (s : State) : PoolSame s s.startConveyor :=
  (setTrack_poolSame _ (by exact rfl)).trans (driveCmd_frame ..).poolSame

theorem takeStart_poolSame (s : State) : PoolSame s s.takeStart := by
  unfold State.takeStart
  split
  · split
    · exact startConveyor_poolSame s
    · exact .refl
    · exact .refl
    · exact setTrack_poolSame _ rfl
  · exact .refl

theorem conveyorStopped_poolSame (s : State) : PoolSame s s.conveyorStopped := by
  have stopped : PoolSame s (s.setTrack { s.track with conveyor := .stopped, stopWait := none, pendingStart := false }) :=
    setTrack_poolSame _ rfl
  unfold State.conveyorStopped
  exact .ite (stopped.trans (startConveyor_poolSame _)) stopped

theorem judgeSpeed_poolSame (s : State) : PoolSame s s.judgeSpeed := by
  unfold State.judgeSpeed
  exact .ite ((setTrack_poolSame _ (by exact rfl)).trans (driveCmd_frame ..).poolSame) .refl

theorem judgeStandby_poolSame (s : State) : PoolSame s s.judgeStandby := by
  unfold State.judgeStandby
  split
  · split
    · exact setTrack_poolSame _ rfl
    · exact .refl
  · exact setTrack_poolSame _ rfl

theorem judgeConveyor_poolSame (s : State) : PoolSame s s.judgeConveyor :=
  (judgeSpeed_poolSame s).trans (judgeStandby_poolSame _)

theorem stopConveyor_poolSame (s : State) : PoolSame s s.stopConveyor :=
  (setTrack_poolSame _ (by exact rfl)).trans (driveStop_frame _).poolSame

theorem takeStart_kept (s : State) : PoolKept s s.takeStart := (takeStart_poolSame s).kept_frame (takeStart_frame s)

theorem judgeConveyor_kept (s : State) : PoolKept s s.judgeConveyor :=
  (judgeConveyor_poolSame s).kept_frame (judgeConveyor_frame s)

theorem review_kept (s : State) : PoolKept s s.review := (arbitrate_kept s).trans (judgeConveyor_kept _)

/-! ## Withdrawing a grant (R108) -/

/-- A grant withdrawn: its order waits again, and nothing is granted. -/
theorem withdraw_held {s : State} (h : PoolLaw s) {g : Grant} (grant : s.merge.grant = some g) : PoolHeld s s.withdraw := by
  obtain ⟨hgl, r, head, htag⟩ := h.named g grant
  obtain ⟨granted, state⟩ := h.granted_head grant head
  obtain ⟨-, hmem, hr⟩ := h.head head
  have none_ := withdraw_grant s
  obtain ⟨-, hsales, -⟩ := withdraw_parts grant head
  have track : s.withdraw.track = s.track := (withdraw_frame s).same .track (by decide)
  have own : s.withdraw.order r = { s.order r with state := if (s.mergeLane g.lane).eye then .staged else .queued } :=
    (order_of_sales hsales r).trans (h.setOrder_same hr _)
  have others (q : Nat) (hq : q ≠ r) : s.withdraw.order q = s.order q :=
    (order_of_sales hsales q).trans (order_setOrder_ne s _ hq)
  have lanes : s.withdraw.sales.lanes = s.sales.lanes := by rw [hsales]; rfl
  have length : s.withdraw.sales.orders.length = s.sales.orders.length := by
    rw [hsales]
    exact List.length_set
  have free : s.withdraw.sales.free = s.sales.free := by rw [hsales]; rfl
  have waits : Order.waits (s.withdraw.order r) = true ∧ (s.withdraw.order r).state ≠ .granted ∧
      (s.withdraw.order r).state ≠ .bound := by
    rw [own]
    cases (s.mergeLane g.lane).eye
    · exact ⟨rfl, of_decide_eq_true rfl, of_decide_eq_true rfl⟩
    · exact ⟨rfl, of_decide_eq_true rfl, of_decide_eq_true rfl⟩
  obtain ⟨waits, notGranted, notBound⟩ := waits
  refine ⟨?_, fun tags => (carTags_of_cars (congrArg Track.cars track)).symm ▸ tags, fun _ hb => ?_, fun _ => ?_⟩
  · refine h.restate (mem_queued.mpr ⟨_, hgl, hmem⟩) waits (by rw [own]) lanes length free others (fun q hq => ?_) fun g' hg' => ?_
    · rw [grantedOrder_none none_]
      refine iff_of_false ?_ (fun h => by cases h)
      by_cases hqr : q = r
      · exact hqr ▸ notGranted
      · rw [others q hqr]
        exact h.granted_only granted hq hqr
    · rw [none_] at hg'
      cases hg'
  · refine hb.change (r := r) (by rw [track]) others (by rw [state]; decide) notBound (fun _ q hq hqr hfree heq => hqr ?_)
    refine hb.tags q r hq hr hfree (by rw [state]; decide) (heq.trans ?_)
    rw [own]
  · refine ⟨?_, fun hg => absurd none_ hg⟩
    rw [none_, withdraw_admitTimer (by rw [grant]; exact fun h => by cases h)]
    rfl

theorem withdraw_kept (s : State) : PoolKept s s.withdraw := by
  cases grant : s.merge.grant with
  | none =>
    rw [withdraw_none grant]
    exact .refl
  | some g => exact ⟨fun h => withdraw_held h grant⟩

end Sys2Proof.Machine
end

section
/-!
Orders made, voided, bound and freed with their cars (R59, R65, R99, R111, R137): what each keeps of the pool's laws.
-/
namespace Sys2Proof.Machine

-- Proofs in order: a thread that waits for another proof counts against the check's memory limit.
set_option Elab.async false

/-! ## The queues as one list -/

/-- What one lane's queue gains, the three as one list gain. -/
theorem queued_setLane_perm {s : State} {l : Nat} {v : LaneSales} {x y : List Nat} (hl : l < 3) (lanes : s.sales.lanes.length = 3)
    (h : (v.queue ++ x).Perm ((s.lane l).queue ++ y)) : ((s.setLane l v).queued ++ x).Perm (s.queued ++ y) := by
  have own : (s.setLane l v).lane l = v := lane_setLane v (by rw [lanes]; exact hl)
  have others (k : Nat) (hk : k ≠ l) : (s.setLane l v).lane k = s.lane k := lane_setLane_ne s v hk
  rw [List.perm_iff_count] at h ⊢
  intro a
  have count := h a
  simp only [State.queued, List.count_append] at count ⊢
  match l, hl with
  | 0, _ =>
    rw [own, others 1 (by decide), others 2 (by decide)]
    omega
  | 1, _ =>
    rw [own, others 0 (by decide), others 2 (by decide)]
    omega
  | 2, _ =>
    rw [own, others 0 (by decide), others 1 (by decide)]
    omega

theorem dequeue_lane {s : State} {l : Nat} (hl : l < s.sales.lanes.length) (r : Nat) :
    ((s.dequeue l r).lane l).queue = (s.lane l).queue.erase r := by
  unfold State.dequeue
  rw [lane_setLane _ hl]

theorem dequeue_lane_ne (s : State) {l k : Nat} (r : Nat) (h : k ≠ l) : (s.dequeue l r).lane k = s.lane k :=
  lane_setLane_ne s _ h

/-- An order that leaves its queue leaves the queues. -/
theorem queued_dequeue_perm {s : State} {l r : Nat} (hl : l < 3) (lanes : s.sales.lanes.length = 3)
    (h : r ∈ (s.lane l).queue) : (r :: (s.dequeue l r).queued).Perm s.queued := by
  have moved := queued_setLane_perm (v := { s.lane l with queue := (s.lane l).queue.erase r }) (x := [r]) (y := []) hl lanes
    (by
      rw [List.append_nil]
      exact (List.perm_append_singleton ..).trans (List.perm_cons_erase h).symm)
  rw [List.append_nil] at moved
  exact (List.perm_append_singleton ..).symm.trans moved

/-- What an order that leaves the queues leaves of the places. -/
structure Dequeued (s t : State) (l r : Nat) : Prop where
  lane : l < 3
  mem : r ∈ (s.lane l).queue
  lanes : t.sales.lanes = (s.dequeue l r).sales.lanes
  orders : t.sales.orders.length = 40
  others : ∀ q, q ≠ r → t.order q = s.order q

theorem Dequeued.queue {s t : State} {l r : Nat} (d : Dequeued s t l r) (k : Nat) :
    (t.lane k).queue = ((s.dequeue l r).lane k).queue := by
  unfold State.lane
  rw [d.lanes]

theorem Dequeued.perm {s t : State} {l r : Nat} (d : Dequeued s t l r) (h : PoolLaw s) : (r :: t.queued).Perm s.queued := by
  have : t.queued = (s.dequeue l r).queued := by
    unfold State.queued
    rw [d.queue, d.queue, d.queue]
  rw [this]
  exact queued_dequeue_perm d.lane h.lanes d.mem

theorem Dequeued.mem_iff {s t : State} {l r : Nat} (d : Dequeued s t l r) (h : PoolLaw s) (k q : Nat) (hq : q ≠ r) :
    q ∈ (t.lane k).queue ↔ q ∈ (s.lane k).queue := by
  rw [d.queue]
  by_cases hk : k = l
  · subst hk
    rw [dequeue_lane (by rw [h.lanes]; exact d.lane), List.mem_erase_of_ne hq]
  · rw [dequeue_lane_ne s r hk]

/-- The order is in no queue any more. -/
theorem Dequeued.not_mem {s t : State} {l r : Nat} (d : Dequeued s t l r) (h : PoolLaw s) : r ∉ t.queued := by
  have nodup : (r :: t.queued).Nodup := (d.perm h).nodup_iff.mpr (List.nodup_append.mp h.once).2.1
  exact (List.nodup_cons.mp nodup).1

/-- The head of a lane is not moved by another order's leaving. -/
theorem Dequeued.head {s t : State} {l r : Nat} (d : Dequeued s t l r) (h : PoolLaw s) {k q : Nat} (hq : q ≠ r)
    (head : s.headOrder k = some q) : t.headOrder k = some q := by
  unfold State.headOrder at head ⊢
  rw [d.queue]
  by_cases hk : k = l
  · subst hk
    rw [dequeue_lane (by rw [h.lanes]; exact d.lane)]
    cases hqueue : (s.lane k).queue with
    | nil =>
      rw [hqueue] at head
      cases head
    | cons x rest =>
      rw [hqueue, List.head?_cons] at head
      obtain rfl := Option.some.inj head
      rw [List.erase_cons_tail (by rw [beq_iff_eq]; exact hq), List.head?_cons]
  · rw [dequeue_lane_ne s r hk]
    exact head

/-- An order leaves the queues, and with it the grant where it held it. -/
theorem Dequeued.poolLaw {s t : State} {l r : Nat} (d : Dequeued s t l r) (h : PoolLaw s)
    (free : t.sales.free = if (t.order r).state = .free then r :: s.sales.free else s.sales.free)
    (gone : (t.order r).state = .free ∨ (t.order r).state = .bound)
    (grant : t.merge.grant = if (s.order r).state = .granted then none else s.merge.grant) : PoolLaw t := by
  have queuedBefore : r ∈ s.queued := mem_queued.mpr ⟨l, d.lane, d.mem⟩
  have hr := h.queued_lt queuedBefore
  have out := d.not_mem h
  have onceQueued := (d.perm h)
  have notFree : r ∉ s.sales.free := fun hfree => (List.nodup_append.mp h.once).2.2 r hfree r queuedBefore rfl
  have freeMem (q : Nat) (hq : q ≠ r) : q ∈ t.sales.free ↔ q ∈ s.sales.free := by
    rw [free]
    split
    · rw [List.mem_cons, or_iff_right hq]
    · exact Iff.rfl
  have notGranted : (t.order r).state ≠ .granted := by
    rcases gone with hg | hg <;> rw [hg] <;> decide
  refine h.change hr (by rw [d.lanes]; exact List.length_set.trans h.lanes) d.orders d.others freeMem
    (fun k q _ hq => d.mem_iff h k q hq) ?once ?free ?waiting
    (fun k hk hmem => absurd (mem_queued.mpr ⟨k, hk, hmem⟩) out) (fun q hq => ?granted) (fun g hg => ?named)
  case once =>
    rw [free]
    split
    · have : (s.sales.free ++ (r :: t.queued)).Nodup := (onceQueued.append_left _).nodup_iff.mpr h.once
      exact (List.perm_middle.nodup_iff.mp this)
    · have : (s.sales.free ++ (r :: t.queued)).Nodup := (onceQueued.append_left _).nodup_iff.mpr h.once
      exact (List.nodup_cons.mp (List.perm_middle.nodup_iff.mp this)).2
  case free =>
    rw [free]
    split
    next hfree => exact iff_of_true hfree List.mem_cons_self
    next hfree => exact iff_of_false hfree notFree
  case waiting =>
    refine iff_of_false ?_ out
    unfold Order.waits
    rcases gone with hg | hg <;> rw [hg] <;> decide
  case granted =>
    by_cases hgr : (s.order r).state = .granted
    · rw [if_pos hgr] at grant
      rw [grantedOrder_none grant]
      refine iff_of_false ?_ (fun h => by cases h)
      by_cases hqr : q = r
      · exact hqr ▸ notGranted
      · rw [d.others q hqr]
        exact h.granted_only ((h.granted r hr).mp hgr) hq hqr
    · rw [if_neg hgr] at grant
      have same : t.grantedOrder = s.grantedOrder := by
        unfold State.grantedOrder
        rw [grant]
        cases hg : s.merge.grant with
        | none => rfl
        | some g =>
          obtain ⟨-, x, head, -⟩ := h.named g hg
          have hx : x ≠ r := fun heq => hgr (heq ▸ (h.granted_head hg head).2)
          exact (d.head h hx head).trans head.symm
      rw [same]
      by_cases hqr : q = r
      · subst hqr
        exact iff_of_false notGranted fun hg => hgr ((h.granted q hq).mpr hg)
      · rw [d.others q hqr]
        exact h.granted q hq
  case named =>
    by_cases hgr : (s.order r).state = .granted
    · rw [grant, if_pos hgr] at hg
      cases hg
    · rw [grant, if_neg hgr] at hg
      obtain ⟨hgl, x, head, htag⟩ := h.named g hg
      have hx : x ≠ r := fun heq => hgr (heq ▸ (h.granted_head hg head).2)
      exact ⟨hgl, x, d.head h hx head, by rw [d.others x hx]; exact htag⟩

theorem PoolHeld.trans {s t u : State} (h : PoolHeld s t) (k : PoolHeld t u) : PoolHeld s u :=
  ⟨k.pool, k.tags ∘ h.tags, fun tags => k.bound (h.tags tags) ∘ h.bound tags, k.grant ∘ h.grant⟩

theorem PoolKept.after {s t u : State} (k : PoolKept t u) (h : PoolHeld s t) : PoolHeld s u := h.trans (k.held h.pool)

/-! ## Voids (R65, R99) -/

theorem freeOrder_sales {s t : State} (h : t.sales = s.sales) (r : Nat) : (t.freeOrder r).sales = (s.freeOrder r).sales := by
  simp only [State.freeOrder, State.setOrder, State.setSales_sales, h]

theorem freeOrder_order {s : State} {r : Nat} (hr : r < s.sales.orders.length) : (s.freeOrder r).order r = .blank :=
  getD_set_eq _ _ _ _ hr

theorem freeOrder_order_ne (s : State) {r q : Nat} (h : q ≠ r) : (s.freeOrder r).order q = s.order q :=
  getD_set_ne _ _ _ _ _ h

theorem callOff_sales (s : State) (r reason : Nat) :
    (s.callOff r reason).sales = ((s.dequeue (s.order r).lane r).freeOrder r).sales := by
  have ended (t : State) (c : Prop) [Decidable c] (l : Nat) : (if c then t.endGrant l else t).sales = t.sales := by
    split
    · exact (endGrant_frame t l).same .sales (by decide)
    · rfl
  unfold State.callOff
  refine freeOrder_sales ?_ r
  exact ((voidReport_frame ..).same .sales (by decide)).trans
    (((returnUse_frame ..).same .sales (by decide)).trans (ended ..))

theorem callOff_merge (s : State) (r reason : Nat) : (s.callOff r reason).merge =
    (if (s.order r).state = .granted then (s.dequeue (s.order r).lane r).endGrant (s.order r).lane
      else s.dequeue (s.order r).lane r).merge := by
  unfold State.callOff
  exact ((freeOrder_frame ..).same .merge (by decide)).trans
    (((voidReport_frame ..).same .merge (by decide)).trans ((returnUse_frame ..).same .merge (by decide)))

theorem callOff_dequeued {s : State} (h : PoolLaw s) {r : Nat} (hr : r ∈ s.queued) (reason : Nat) :
    Dequeued s (s.callOff r reason) (s.order r).lane r := by
  obtain ⟨lane, mem⟩ := h.mem_lane hr
  have sales := callOff_sales s r reason
  refine ⟨lane, mem, by rw [sales]; rfl, ?_, fun q hq => ?_⟩
  · rw [sales]
    exact List.length_set.trans h.orders
  · exact (order_of_sales sales q).trans (freeOrder_order_ne _ hq)

/-- A waiting order's voiding frees its record, and ends its grant. -/
theorem callOff_held {s : State} (h : PoolLaw s) {r : Nat} (hr : r ∈ s.queued) (reason : Nat) :
    PoolHeld s (s.callOff r reason) := by
  have gone := callOff_dequeued h hr reason
  have sales := callOff_sales s r reason
  have merge := callOff_merge s r reason
  have track : (s.callOff r reason).track = s.track := (callOff_frame s r reason).same .track (by decide)
  have halt : (s.callOff r reason).halt = s.halt := (callOff_frame s r reason).same .halt (by decide)
  have own : (s.callOff r reason).order r = .blank :=
    (order_of_sales sales r).trans (freeOrder_order (s := s.dequeue (s.order r).lane r) (by
      rw [show (s.dequeue (s.order r).lane r).sales.orders = s.sales.orders from rfl, h.orders]
      exact h.queued_lt hr))
  have grant : (s.callOff r reason).merge.grant = if (s.order r).state = .granted then none else s.merge.grant := by
    rw [merge]
    split
    · rw [endGrant_merge]
      rfl
    · rfl
  have timer : (s.callOff r reason).merge.admitTimer = if (s.order r).state = .granted then none else s.merge.admitTimer := by
    rw [merge]
    split
    · rw [endGrant_merge]
      rfl
    · rfl
  have waits := (h.waiting r (h.queued_lt hr)).mpr hr
  refine ⟨gone.poolLaw h ?_ (.inl (by rw [own]; rfl)) grant,
    fun tags => (carTags_of_cars (congrArg Track.cars track)).symm ▸ tags, fun _ hb => ?_, ?_⟩
  · rw [own, if_pos (by exact rfl), sales]
    rfl
  · refine hb.change (r := r) (by rw [track]) gone.others (fun hbound => ?_) ?_ (fun hfree => ?_)
    · unfold Order.waits at waits
      rw [hbound] at waits
      cases waits
    · rw [own]
      exact of_decide_eq_true rfl
    · rw [own] at hfree
      exact absurd rfl hfree
  · rintro ⟨paired, armed⟩
    refine ⟨?_, fun hg => ?_⟩
    · rw [grant, timer]
      split
      · rfl
      · exact paired
    · rw [halt]
      refine armed fun hnone => hg ?_
      rw [grant, hnone, ite_self]

theorem markUnpaid_poolSame (s : State) (l : Nat) : PoolSame s (s.markUnpaid l) :=
  (setMergeLane_poolSame ..).trans (notifySales_frame ..).poolSame

theorem judgeVoid_poolSame (s : State) (l : Nat) : PoolSame s (s.judgeVoid l) := by
  unfold State.judgeVoid
  exact .ite (markUnpaid_poolSame ..) .refl

theorem judgeVoid_kept (s : State) (l : Nat) : PoolKept s (s.judgeVoid l) :=
  (judgeVoid_poolSame s l).kept_frame (judgeVoid_frame s l)

theorem voidOrder_held {s : State} (h : PoolLaw s) {r : Nat} (hr : r ∈ s.queued) (reason : Nat) :
    PoolHeld s (s.voidOrder r reason) := by
  have void : PoolHeld s ((s.callOff r reason).judgeVoid (s.order r).lane) :=
    (judgeVoid_kept ..).after (callOff_held h hr reason)
  unfold State.voidOrder
  dsimp only
  split
  · exact (review_kept _).after void
  · exact (judgeConveyor_kept _).after void

/-- The arbiter moves no order from a lane. -/
theorem arbitrate_lanes (s : State) : s.arbitrate.sales.lanes = s.sales.lanes := by
  unfold State.arbitrate
  split
  · split
    · rfl
    next l _ =>
      split
      · cases head : s.headOrder l with
        | none =>
          unfold State.grantLane
          rw [head]
        | some r =>
          rw [grantLane_eq head, (openGate_frame ..).same .sales (by decide)]
          rfl
      · rfl
      · rfl
      · rfl
  · rfl

theorem voidOrder_lanes (s : State) (r reason : Nat) :
    (s.voidOrder r reason).sales.lanes = (s.callOff r reason).sales.lanes := by
  have judged (t : State) : t.judgeConveyor.sales = t.sales := (judgeConveyor_frame t).same .sales (by decide)
  have void : ((s.callOff r reason).judgeVoid (s.order r).lane).sales = (s.callOff r reason).sales :=
    (judgeVoid_frame ..).same .sales (by decide)
  unfold State.voidOrder
  dsimp only
  split
  · rw [State.review, judged, arbitrate_lanes, void]
  · rw [judged, void]

theorem queued_voidOrder {s : State} (h : PoolLaw s) {r q : Nat} (hr : r ∈ s.queued) (hq : q ≠ r) (reason : Nat)
    (mem : q ∈ s.queued) : q ∈ (s.voidOrder r reason).queued := by
  have queue (k : Nat) : (s.voidOrder r reason).lane k = (s.callOff r reason).lane k := by
    unfold State.lane
    rw [voidOrder_lanes]
  obtain ⟨l, hl, mem⟩ := mem_queued.mp mem
  refine mem_queued.mpr ⟨l, hl, ?_⟩
  rw [queue]
  exact ((callOff_dequeued h hr reason).mem_iff h l q hq).mpr mem

/-- Waiting orders voided one after another. -/
theorem foldl_voidOrder_held {rs : List Nat} (reason : Nat) : ∀ {s : State}, PoolLaw s → rs.Nodup →
    (∀ r ∈ rs, r ∈ s.queued) → PoolHeld s (rs.foldl (fun t r => t.voidOrder r reason) s) := by
  induction rs with
  | nil => exact fun h _ _ => PoolKept.refl.held h
  | cons r rs ih =>
    intro s h nodup mem
    obtain ⟨hr, nodup⟩ := List.nodup_cons.mp nodup
    have hmem := mem r List.mem_cons_self
    have first := voidOrder_held h hmem reason
    refine first.trans (ih first.pool nodup fun q hq => ?_)
    exact queued_voidOrder h hmem (fun heq => hr (heq ▸ hq)) reason (mem q (List.mem_cons_of_mem _ hq))

theorem purge_kept (s : State) {l : Nat} (hl : l < 3) : PoolKept s (s.purge l) :=
  ⟨fun h => foldl_voidOrder_held 2 h (h.queue_nodup hl) fun _ hr => mem_queued.mpr ⟨l, hl, hr⟩⟩

/-! ## Payments (R59) -/

/-- The tag of an order off the free list is in use. -/
theorem mem_orderTags {s : State} (h : s.sales.orders.length = 40) {r : Nat} (hr : r < 40) (hfree : (s.order r).state ≠ .free) :
    (s.order r).tag ∈ s.orderTags := by
  have mem : s.order r ∈ s.sales.orders := by
    unfold State.order
    rw [getD_of_lt _ _ (by rw [h]; exact hr)]
    exact List.getElem_mem _
  exact List.mem_map_of_mem (List.mem_filter.mpr ⟨mem, by rw [bne_iff_ne]; exact hfree⟩)

theorem nextTag_not_used {s : State} (h : s.sales.orders.length = 40) (c : Nat) : nextTag s.orderTags c ∉ s.orderTags := by
  refine nextTag_fresh c ?_
  unfold State.orderTags
  rw [List.length_map]
  exact Nat.lt_of_le_of_lt (List.length_filter_le ..) (by rw [h]; decide)

/-- The order a payment makes, entered in the pool and at the tail of its lane (R59, steps 1 to 3). -/
def State.enlisted (s : State) (l r tag tender : Nat) : State :=
  let t := s.setSales { s.sales with free := s.sales.free.erase r, tag := tag }
  let t := t.setOrder r (s.orderOf l tag tender)
  t.setLane l { t.lane l with queue := (t.lane l).queue ++ [r] }

/-- The state in which a paid order's quote is settled and the kiosk told (R59). -/
def State.paidFor (s : State) (l r tag tender : Nat) : State :=
  let m := (s.orderOf l tag tender).member
  let t := (((s.enlisted l r tag tender).spendUse m).releaseRef m).emptySlot l
  t.toField (t.kioskAddr l) Config.kOrderReply [1, byte tag]

theorem makeOrder_eq (s : State) (l r tag tender : Nat) :
    s.makeOrder l r tag tender = (s.paidFor l r tag tender).judgePayment l r := rfl

theorem emptySlot_poolSame (s : State) (l : Nat) : PoolSame s (s.emptySlot l) := setLane_poolSame s l rfl

theorem paidFor_poolSame (s : State) (l r tag tender : Nat) : PoolSame (s.enlisted l r tag tender) (s.paidFor l r tag tender) := by
  unfold State.paidFor
  exact (((spendUse_frame ..).poolSame.trans (releaseRef_frame ..).poolSame).trans (emptySlot_poolSame ..)).trans
    (toField_frame ..).poolSame

section
variable {s : State} {l r : Nat} (tag tender : Nat)

theorem enlisted_order (hr : r < s.sales.orders.length) : (s.enlisted l r tag tender).order r = s.orderOf l tag tender :=
  getD_set_eq _ _ _ _ hr

theorem enlisted_order_ne {q : Nat} (h : q ≠ r) : (s.enlisted l r tag tender).order q = s.order q := getD_set_ne _ _ _ _ _ h

theorem enlisted_queue (hl : l < s.sales.lanes.length) :
    ((s.enlisted l r tag tender).lane l).queue = (s.lane l).queue ++ [r] :=
  congrArg LaneSales.queue (getD_set_eq _ _ _ _ hl)

theorem enlisted_lane_ne {k : Nat} (h : k ≠ l) : (s.enlisted l r tag tender).lane k = s.lane k := getD_set_ne _ _ _ _ _ h

theorem enlisted_perm (h : PoolLaw s) (hl : l < 3) : (s.enlisted l r tag tender).queued.Perm (s.queued ++ [r]) := by
  have := queued_setLane_perm (s := (s.setSales { s.sales with free := s.sales.free.erase r, tag := tag }).setOrder r
    (s.orderOf l tag tender)) (v := { s.lane l with queue := (s.lane l).queue ++ [r] }) (x := []) (y := [r]) hl h.lanes
    (by rw [List.append_nil]; exact .refl _)
  rw [List.append_nil] at this
  exact this

/-- A lane's head stays as orders join behind it. -/
theorem enlisted_head (h : PoolLaw s) (hl : l < 3) {k q : Nat} (head : s.headOrder k = some q) :
    (s.enlisted l r tag tender).headOrder k = some q := by
  unfold State.headOrder at head ⊢
  by_cases hk : k = l
  · subst hk
    rw [enlisted_queue tag tender (by rw [h.lanes]; exact hl), List.head?_append, head]
    rfl
  · rw [enlisted_lane_ne tag tender hk]
    exact head

/-- A payment takes the head of the free list into the lane. -/
theorem enlisted_held (h : PoolLaw s) (hl : l < 3) {rest : List Nat} (free : s.sales.free = r :: rest)
    (fresh : tag ∉ s.orderTags) : PoolHeld s (s.enlisted l r tag tender) := by
  have hfree : r ∈ s.sales.free := by rw [free]; exact List.mem_cons_self
  have hr : r < 40 := h.small r (List.mem_append_left _ hfree)
  have state : (s.order r).state = .free := (h.free r hr).mpr hfree
  have nodup : s.sales.free.Nodup := (List.nodup_append.mp h.once).1
  have notQueued : r ∉ s.queued := fun hq => (List.nodup_append.mp h.once).2.2 r hfree r hq rfl
  have own : (s.enlisted l r tag tender).order r = s.orderOf l tag tender := enlisted_order tag tender (by rw [h.orders]; exact hr)
  have others (q : Nat) (hq : q ≠ r) := enlisted_order_ne (s := s) (l := l) tag tender hq
  have perm := enlisted_perm (r := r) tag tender h hl
  have queue := enlisted_queue (s := s) (l := l) (r := r) tag tender (by rw [h.lanes]; exact hl)
  have freeNow : (s.enlisted l r tag tender).sales.free = rest := by
    rw [show (s.enlisted l r tag tender).sales.free = s.sales.free.erase r from rfl, free, List.erase_cons_head]
  have notRest : r ∉ rest := by
    rw [free] at nodup
    exact (List.nodup_cons.mp nodup).1
  have granted : (s.enlisted l r tag tender).grantedOrder = s.grantedOrder := by
    unfold State.grantedOrder
    rw [show (s.enlisted l r tag tender).merge = s.merge from rfl]
    cases hg : s.merge.grant with
    | none => rfl
    | some g =>
      obtain ⟨-, x, head, -⟩ := h.named g hg
      exact (enlisted_head tag tender h hl head).trans head.symm
  refine ⟨h.change hr ?lanes ?orders others ?freed ?queues ?once ?free ?waiting ?home ?granted ?named, id,
    fun _ hb => hb.change (r := r) rfl others (by rw [state]; decide) (by rw [own]; exact of_decide_eq_true rfl)
      fun _ q hq _ hq' htag => ?_, id⟩
  case lanes => exact List.length_set.trans h.lanes
  case orders => exact List.length_set.trans h.orders
  case freed => exact fun q hq => List.mem_erase_of_ne hq
  case queues =>
    intro k q _ hq
    by_cases hk : k = l
    · subst hk
      rw [queue, List.mem_append, List.mem_singleton, or_iff_left hq]
    · rw [enlisted_lane_ne tag tender hk]
  case once =>
    rw [freeNow]
    have before := h.once
    rw [free] at before
    refine ((perm.append_left rest).nodup_iff).mpr ?_
    rw [← List.append_assoc]
    exact (List.perm_append_singleton ..).nodup_iff.mpr before
  case free =>
    rw [own, freeNow]
    exact iff_of_false (of_decide_eq_true rfl) notRest
  case waiting =>
    rw [own]
    exact iff_of_true rfl (perm.mem_iff.mpr (List.mem_append_right _ (List.mem_singleton_self r)))
  case home =>
    intro k hk hmem
    rw [own]
    by_cases hkl : k = l
    · exact hkl.symm
    · rw [enlisted_lane_ne tag tender hkl] at hmem
      exact absurd (mem_queued.mpr ⟨k, hk, hmem⟩) notQueued
  case granted =>
    intro q hq
    rw [granted]
    by_cases hqr : q = r
    · subst hqr
      rw [own]
      exact iff_of_false (of_decide_eq_true rfl) fun hg => absurd ((h.granted q hq).mpr hg) (by rw [state]; decide)
    · rw [others q hqr]
      exact h.granted q hq
  case named =>
    intro g hg
    obtain ⟨hgl, x, head, htag⟩ := h.named g hg
    have hx : x ≠ r := fun heq => notQueued (mem_queued.mpr ⟨_, (h.head head).1, heq ▸ (h.head head).2.1⟩)
    exact ⟨hgl, x, enlisted_head tag tender h hl head, by rw [others x hx]; exact htag⟩
  rw [own] at htag
  have htag : (s.order q).tag = tag := htag
  exact fresh (htag ▸ mem_orderTags h.orders hq hq')

end

theorem judgePayment_kept {s : State} {l r : Nat} (queued : (s.order r).state = .queued) : PoolKept s (s.judgePayment l r) := by
  unfold State.judgePayment
  split
  next hstages =>
    unfold State.stagesPayment at hstages
    rw [Bool.and_eq_true, Bool.and_eq_true, beq_iff_eq] at hstages
    obtain ⟨⟨queue, -⟩, -⟩ := hstages
    exact (stage_kept ⟨l, by unfold State.headOrder; rw [queue]; rfl⟩ queued).trans (review_kept _)
  next => exact judgeConveyor_kept s

theorem pay_kept {s : State} {l : Nat} (offered : (s.slot l).state = .offered) (tender : Nat) : PoolKept s (s.pay l tender) := by
  refine ⟨fun h => ?_⟩
  have hl : l < 3 := by
    refine Classical.byContradiction fun hnot => ?_
    have : s.lane l = .blank := getD_of_le _ _ (by rw [h.lanes]; omega)
    rw [State.slot, this] at offered
    cases offered
  unfold State.pay
  split
  · exact PoolKept.refl.held h
  next r rest free =>
    have hr : r < 40 := h.small r (List.mem_append_left _ (by rw [free]; exact List.mem_cons_self))
    have same := paidFor_poolSame s l r (nextTag s.orderTags s.sales.tag) tender
    have entered := enlisted_held (nextTag s.orderTags s.sales.tag) tender h hl free (nextTag_not_used h.orders _)
    have halt : (s.paidFor l r (nextTag s.orderTags s.sales.tag) tender).halt = s.halt := by
      unfold State.paidFor
      exact ((toField_frame ..).same .halt (by decide)).trans (((emptySlot_frame ..).same .halt (by decide)).trans
        (((releaseRef_frame ..).same .halt (by decide)).trans ((spendUse_frame ..).same .halt (by decide))))
    rw [makeOrder_eq]
    refine (judgePayment_kept ?_).after ((same.kept (by rw [halt]; rfl)).after entered)
    rw [(standing_eq_iff.mp (same.standing r)).1, enlisted_order _ _ (by rw [h.orders]; exact hr)]
    rfl

end Sys2Proof.Machine
end

section
/-!
Cars bound and cars gone, and the halts, with what they keep of the pool's laws (R111, R137, R166, R172 to R176).
-/
namespace Sys2Proof.Machine

-- Proofs in order: a thread that waits for another proof counts against the check's memory limit.
set_option Elab.async false

/-! ## A car is created (R111, R112) -/

theorem insertCar_tags {s : State} {c : Car} (room : s.track.cars.length < 256) (tag : c.tag = s.nextCarTag)
    (h : s.carTags.Nodup) : (s.insertCar c).carTags.Nodup := by
  have fresh : s.nextCarTag ∉ s.carTags := nextTag_fresh _ (by unfold State.carTags; rw [List.length_map]; exact room)
  have tags : (s.insertCar c).carTags = s.carTags ++ [s.nextCarTag] := by
    rw [← tag]
    exact List.map_append
  rw [tags]
  exact (List.perm_append_singleton ..).nodup_iff.mpr (List.nodup_cons.mpr ⟨fresh, h⟩)

/-- The order record of a bound car (R111, step 3). -/
def State.boundRecord (s : State) (r : Nat) : Order := { s.order r with state := .bound, car := some s.nextCarTag }

/-- The car created for an order (R111, step 2). -/
def State.newCar (s : State) (r : Nat) : Car := Car.boundNew s.nextCarTag (haltedMode s.halt.mode) (s.order r)

/-- A granted order bound to a new car, out of its lane and its grant ended (R111). -/
def State.bound (s : State) (l r : Nat) : State :=
  (((s.insertCar (s.newCar r)).setOrder r (s.boundRecord r)).dequeue l r).endGrant l

theorem bindCar_eq (s : State) (l r : Nat) : s.bindCar l r = ((s.bound l r).stageOnBinding l).review := rfl

theorem bound_sales (s : State) (l r : Nat) : (s.bound l r).sales = ((s.setOrder r (s.boundRecord r)).dequeue l r).sales :=
  (endGrant_frame ..).same .sales (by decide)

theorem bound_cars (s : State) (l r : Nat) : (s.bound l r).track.cars = s.track.cars ++ [s.newCar r] :=
  congrArg Track.cars ((endGrant_frame ..).same .track (by decide))

theorem bound_held {s : State} (h : PoolLaw s) {g : Grant} {r : Nat} (grant : s.merge.grant = some g)
    (head : s.headOrder g.lane = some r) (room : s.track.cars.length < 256) : PoolHeld s (s.bound g.lane r) := by
  obtain ⟨hl, mem, hr⟩ := h.head head
  obtain ⟨-, state⟩ := h.granted_head grant head
  have sales := bound_sales s g.lane r
  have cars := bound_cars s g.lane r
  have merge : (s.bound g.lane r).merge = Merge.withGate { s.merge with grant := none, admitTimer := none } g.lane .closing :=
    endGrant_merge ..
  have own : (s.bound g.lane r).order r = s.boundRecord r := (order_of_sales sales r).trans (h.setOrder_same hr _)
  have others (q : Nat) (hq : q ≠ r) : (s.bound g.lane r).order q = s.order q :=
    (order_of_sales sales q).trans (order_setOrder_ne s _ hq)
  have gone : Dequeued s (s.bound g.lane r) g.lane r :=
    ⟨hl, mem, by rw [sales]; rfl, by rw [sales]; exact List.length_set.trans h.orders, others⟩
  have tag : (s.newCar r).tag = s.nextCarTag := rfl
  have order : (s.newCar r).order = some (s.order r).tag := rfl
  refine ⟨gone.poolLaw h ?_ (.inr (by rw [own]; rfl)) ?_, fun tags => ?_, fun _ hb => ⟨fun q hq hq' => ?rides,
    fun c hc n hn => ?bound, fun p q hp hq hp' hq' htag => ?tags⟩, fun _ => ⟨?_, fun hg => ?_⟩⟩
  case rides =>
    rw [cars]
    by_cases hqr : q = r
    · subst hqr
      rw [own]
      exact ⟨_, List.mem_append_right _ (List.mem_singleton_self _), rfl, rfl⟩
    · rw [others q hqr] at hq' ⊢
      obtain ⟨c, hc, hcar⟩ := hb.rides q hq hq'
      exact ⟨c, List.mem_append_left _ hc, hcar⟩
  case bound =>
    rw [cars] at hc
    obtain hc | hc := List.mem_append.mp hc
    · obtain ⟨q, hq, hq', htag, hcar⟩ := hb.bound c hc n hn
      have hqr : q ≠ r := fun heq => by
        rw [heq, state] at hq'
        cases hq'
      refine ⟨q, hq, ?_⟩
      rw [others q hqr]
      exact ⟨hq', htag, hcar⟩
    · obtain rfl := List.mem_singleton.mp hc
      refine ⟨r, hr, ?_⟩
      rw [own]
      exact ⟨rfl, Option.some.inj (order.symm.trans hn), by rw [tag]; rfl⟩
  case tags =>
    have read (x : Nat) : ((s.bound g.lane r).order x).tag = (s.order x).tag ∧
        (((s.bound g.lane r).order x).state ≠ .free → (s.order x).state ≠ .free) := by
      by_cases hx : x = r
      · subst hx
        rw [own]
        exact ⟨rfl, fun _ => by rw [state]; decide⟩
      · rw [others x hx]
        exact ⟨rfl, id⟩
    exact hb.tags p q hp hq ((read p).2 hp') ((read q).2 hq') ((read p).1.symm.trans (htag.trans (read q).1))
  · rw [own, if_neg (by exact of_decide_eq_true rfl), sales]
    rfl
  · rw [merge, if_pos state]
    rfl
  · have inserted := insertCar_tags (c := s.newCar r) room rfl tags
    rwa [carTags_of_cars (t := s.bound g.lane r) (s := s.insertCar (s.newCar r)) cars]
  · rw [merge]
    rfl
  · rw [merge] at hg
    exact absurd rfl hg

theorem stageOnBinding_kept (s : State) (l : Nat) : PoolKept s (s.stageOnBinding l) := by
  unfold State.stageOnBinding
  split
  · split
    · exact markUnpaid_kept s l
    next r head =>
      split
      next queued => exact stage_kept ⟨l, head⟩ queued
      next => exact .refl
  · exact .refl

/-- The Car List is none of the pool's places. -/
theorem PoolLaw.setTrack {s : State} (h : PoolLaw s) (v : Track) : PoolLaw (s.setTrack v) :=
  ⟨h.lanes, h.orders, h.once, h.small, h.free, h.waiting, h.home, h.granted, h.named⟩

theorem insertCar_unbound_held {s : State} {c : Car} (h : PoolLaw s) (room : s.track.cars.length < 256)
    (tag : c.tag = s.nextCarTag) (order : c.order = none) : PoolHeld s (s.insertCar c) := by
  refine ⟨h.setTrack _, insertCar_tags room tag, fun _ hb => ⟨fun q hq hq' => ?_, fun d hd n hn => ?_, hb.tags⟩, id⟩
  · obtain ⟨d, hd, hcar⟩ := hb.rides q hq hq'
    exact ⟨d, List.mem_append_left _ hd, hcar⟩
  · obtain hd | hd := List.mem_append.mp hd
    · exact hb.bound d hd n hn
    · obtain rfl := List.mem_singleton.mp hd
      rw [order] at hn
      cases hn

theorem createCar_kept {s : State} (room : s.track.cars.length < 256) : PoolKept s s.createCar := by
  unfold State.createCar
  split
  next g r grant granted =>
    have head : s.headOrder g.lane = some r := by
      unfold State.grantedOrder at granted
      rw [grant] at granted
      exact granted
    rw [bindCar_eq]
    exact PoolKept.trans (PoolKept.trans ⟨fun h => bound_held h grant head room⟩ (stageOnBinding_kept _ _)) (review_kept _)
  next =>
    unfold State.unannouncedCar
    exact PoolKept.trans (PoolKept.trans (PoolKept.trans ⟨fun h => insertCar_unbound_held h room rfl rfl⟩
      (notifyTrack_frame ..).poolKept) (handStart_frame _).poolKept) (judgeConveyor_kept _)

theorem frontEdge_kept (s : State) (src : Nat) : PoolKept s (s.frontEdge src) := by
  have crush (c : Car) : PoolKept s (s.entryCrush src c) := (raiseCause_frame ..).poolKept
  unfold State.frontEdge
  split
  · exact (raiseCause_frame ..).poolKept.trans (notifyTrack_frame ..).poolKept
  next hroom =>
    have room : s.track.cars.length < 256 := Nat.lt_trans (Nat.lt_of_not_le hroom) (by decide)
    split
    · exact createCar_kept room
    next c _ =>
      split
      · exact crush c
      · split
        · exact (crush c).trans (createCar_kept room)
        · exact createCar_kept room

/-! ## A car is gone (R137) -/

theorem boundOrder_some {s : State} {tag r : Nat} (h : s.boundOrder tag = some r) :
    r < 40 ∧ (s.order r).state = .bound ∧ (s.order r).tag = tag := by
  have test := List.find?_some h
  rw [Bool.and_eq_true, beq_iff_eq, beq_iff_eq] at test
  exact ⟨List.mem_range.mp (List.mem_of_find?_eq_some h), test⟩

/-- A BOUND order freed: it stood in no lane. -/
theorem freeOrder_poolLaw {s : State} (h : PoolLaw s) {r : Nat} (hr : r < 40) (bound : (s.order r).state = .bound) :
    PoolLaw (s.freeOrder r) := by
  have own : (s.freeOrder r).order r = .blank := freeOrder_order (by rw [h.orders]; exact hr)
  have others (q : Nat) (hq : q ≠ r) := freeOrder_order_ne s hq
  have notFree : r ∉ s.sales.free := fun hfree => by
    rw [(h.free r hr).mpr hfree] at bound
    cases bound
  have notQueued : r ∉ s.queued := fun hq => by
    have waits := (h.waiting r hr).mpr hq
    unfold Order.waits at waits
    rw [bound] at waits
    cases waits
  have notGranted : s.grantedOrder ≠ some r := fun hg => by
    rw [(h.granted r hr).mpr hg] at bound
    cases bound
  refine h.change hr h.lanes (List.length_set.trans h.orders) others (fun q hq => ?freed) (fun _ _ _ _ => Iff.rfl) ?once ?free
    ?waiting (fun l hl hmem => absurd (mem_queued.mpr ⟨l, hl, hmem⟩) notQueued) (fun q hq => ?granted) (fun g hg => ?named)
  case freed => exact List.mem_cons.trans (or_iff_right hq)
  case once =>
    refine List.nodup_cons.mpr ⟨fun hmem => ?_, h.once⟩
    exact (List.mem_append.mp hmem).elim notFree notQueued
  case free =>
    rw [own]
    exact iff_of_true rfl List.mem_cons_self
  case waiting =>
    rw [own]
    exact iff_of_false (by decide) notQueued
  case granted =>
    by_cases hqr : q = r
    · subst hqr
      rw [own]
      exact iff_of_false (by decide) notGranted
    · rw [others q hqr]
      exact h.granted q hq
  case named =>
    obtain ⟨hl, q, head, htag⟩ := h.named g hg
    have hqr : q ≠ r := fun heq => notQueued (mem_queued.mpr ⟨_, hl, heq ▸ (h.head head).2.1⟩)
    exact ⟨hl, q, head, by rw [others q hqr]; exact htag⟩

/-- The Car List without a car, and its order freed (R137, steps 3 and 4). -/
def State.gone (s : State) (c : Car) : State := (s.setCars (s.track.cars.eraseP fun d => d.tag == c.tag)).freeBound c.order

/-- The order bound to a car of the list is found by its tag, and names the car. -/
theorem BoundLaw.found {s : State} (h : BoundLaw s) {c : Car} (hc : c ∈ s.track.cars) {tag : Nat} (order : c.order = some tag) :
    ∃ r, s.boundOrder tag = some r ∧ r < 40 ∧ (s.order r).state = .bound ∧ (s.order r).tag = tag ∧
      (s.order r).car = some c.tag := by
  obtain ⟨r, hr, state, htag, hcar⟩ := h.bound c hc tag order
  cases hf : s.boundOrder tag with
  | none =>
    have := List.find?_eq_none.mp hf r (List.mem_range.mpr hr)
    rw [state, htag] at this
    simp at this
  | some q =>
    obtain ⟨hq, hstate, hqtag⟩ := boundOrder_some hf
    obtain rfl := h.tags q r hq hr (by rw [hstate]; decide) (by rw [state]; decide) (hqtag.trans htag.symm)
    exact ⟨q, rfl, hr, state, htag, hcar⟩

theorem gone_cars (s : State) (c : Car) : (s.gone c).track.cars = s.track.cars.eraseP fun d => d.tag == c.tag :=
  congrArg Track.cars ((freeBound_frame ..).same .track (by decide))

theorem gone_sales (s : State) (c : Car) : (s.gone c).sales =
    ((c.order.bind s.boundOrder).elim s fun r => s.freeOrder r).sales := by
  unfold State.gone State.freeBound
  have found : c.order.bind (s.setCars (s.track.cars.eraseP fun d => d.tag == c.tag)).boundOrder = c.order.bind s.boundOrder := rfl
  rw [found]
  cases c.order.bind s.boundOrder with
  | none => rfl
  | some r => rfl

theorem gone_poolLaw {s : State} (h : PoolLaw s) (c : Car) : PoolLaw (s.gone c) := by
  unfold State.gone State.freeBound
  split
  next r hr =>
    obtain ⟨tag, -, hr⟩ := Option.bind_eq_some_iff.mp hr
    obtain ⟨hlt, state, -⟩ := boundOrder_some hr
    exact freeOrder_poolLaw (h.setTrack _) hlt state
  next => exact h.setTrack _

/-- A departed car's order is free; every other is as it was. -/
theorem gone_order {s : State} (h : s.sales.orders.length = 40) (c : Car) {q : Nat} (hq : q < 40) :
    (s.gone c).order q = if c.order.bind s.boundOrder = some q then .blank else s.order q := by
  rw [order_of_sales (gone_sales s c)]
  cases hf : c.order.bind s.boundOrder with
  | none => rw [if_neg (fun h => by cases h)]; rfl
  | some r =>
    by_cases hqr : q = r
    · subst hqr
      rw [if_pos rfl]
      exact freeOrder_order (by rw [h]; exact hq)
    · rw [if_neg (fun h => hqr (Option.some.inj h).symm)]
      exact freeOrder_order_ne s hqr

/-- The cars that stay are the others, each of another tag. -/
theorem mem_gone {s : State} {c d : Car} (tags : s.carTags.Nodup) :
    d ∈ (s.gone c).track.cars ↔ d ∈ s.track.cars ∧ d.tag ≠ c.tag := by
  rw [gone_cars]
  constructor
  · intro hd
    have mem : d.tag ∈ (s.track.cars.map Car.tag).eraseP (fun n => n == c.tag) := by
      rw [List.eraseP_map]
      exact List.mem_map_of_mem hd
    rw [← List.erase_eq_eraseP'] at mem
    exact ⟨List.mem_of_mem_eraseP hd, ((List.Nodup.mem_erase_iff tags).mp mem).1⟩
  · rintro ⟨hd, htag⟩
    exact (List.mem_eraseP_of_neg (by rw [beq_iff_eq]; exact htag)).mpr hd

theorem gone_boundLaw {s : State} (length : s.sales.orders.length = 40) {c : Car} (hc : c ∈ s.track.cars)
    (tags : s.carTags.Nodup) (hb : BoundLaw s) : BoundLaw (s.gone c) := by
  have order (q : Nat) (hq : q < 40) (used : ((s.gone c).order q).state ≠ .free) :
      c.order.bind s.boundOrder ≠ some q ∧ (s.gone c).order q = s.order q := by
    rw [gone_order length c hq] at used ⊢
    split
    next hf => exact absurd (by rw [if_pos hf]; rfl) used
    next hf => exact ⟨hf, rfl⟩
  refine ⟨fun q hq hq' => ?_, fun d hd n hn => ?_, fun p q hp hq hp' hq' htag => ?_⟩
  · obtain ⟨hf, same⟩ := order q hq (by rw [hq']; decide)
    rw [same] at hq' ⊢
    obtain ⟨d, hd, hdorder, hcar⟩ := hb.rides q hq hq'
    refine ⟨d, (mem_gone tags).mpr ⟨hd, fun heq => hf ?_⟩, hdorder, hcar⟩
    obtain rfl := inj_of_nodup_map tags hd hc heq
    obtain ⟨r, found, hr, state, htag, -⟩ := hb.found hd hdorder
    obtain rfl := hb.tags r q hr hq (by rw [state]; decide) (by rw [hq']; decide) htag
    rw [hdorder]
    exact found
  · obtain ⟨hd, hne⟩ := (mem_gone tags).mp hd
    obtain ⟨q, hq, hq', htag, hcar⟩ := hb.bound d hd n hn
    have same : (s.gone c).order q = s.order q := by
      rw [gone_order length c hq, if_neg]
      intro hf
      obtain ⟨n', hn', hfound⟩ := Option.bind_eq_some_iff.mp hf
      obtain ⟨r, found, -, -, -, hrcar⟩ := hb.found hc hn'
      obtain rfl := Option.some.inj (found.symm.trans hfound)
      exact hne (Option.some.inj (hcar.symm.trans hrcar))
    exact ⟨q, hq, by rw [same]; exact hq', by rw [same]; exact htag, by rw [same]; exact hcar⟩
  · obtain ⟨-, samep⟩ := order p hp hp'
    obtain ⟨-, sameq⟩ := order q hq hq'
    rw [samep] at hp' htag
    rw [sameq] at hq' htag
    exact hb.tags p q hp hq hp' hq' htag

theorem gone_held {s : State} (h : PoolLaw s) {c : Car} (hc : c ∈ s.track.cars) : PoolHeld s (s.gone c) := by
  have frame : SameExcept [.track, .sales] s (s.gone c) :=
    ((setCars_frame ..).within (by decide)).trans ((freeBound_frame ..).within (by decide))
  have merge : (s.gone c).merge = s.merge := frame.same .merge (by decide)
  have halt : (s.gone c).halt = s.halt := frame.same .halt (by decide)
  refine ⟨gone_poolLaw h c, fun tags => ?_, fun tags hb => gone_boundLaw h.orders hc tags hb, fun hg => ?_⟩
  · unfold State.carTags at tags ⊢
    rw [gone_cars]
    exact tags.sublist (List.eraseP_sublist.map _)
  · unfold GrantLaw at hg ⊢
    rwa [merge, halt]

theorem leave_kept {s : State} {c : Car} (hc : c ∈ s.track.cars) (removed : Bool) : PoolKept s (s.leave c removed) := by
  have left : SameExcept [.stations, .portF, .raised, .portS, .mgmt] s
      ((s.depart c.tag).toSite Config.kReport (completion c removed)) :=
    ((depart_frame ..).within (by decide)).trans ((toSite_frame ..).within (by decide))
  have mem : c ∈ ((s.depart c.tag).toSite Config.kReport (completion c removed)).track.cars := by
    rw [left.same .track (by decide)]
    exact hc
  exact PoolKept.trans (left.poolKept.trans ⟨fun h => gone_held h mem⟩) (review_kept _)

end Sys2Proof.Machine
end

section
/-!
The commands of Sales, Stations, Halting and Tracking, with what they keep of the pool's laws.
-/
namespace Sys2Proof.Machine

-- Proofs in order: a thread that waits for another proof counts against the check's memory limit.
set_option Elab.async false

/-! ## Sales beside the pool (R50 to R57, R69) -/

theorem setSlot_poolSame (s : State) (l : Nat) (q : Slot) : PoolSame s (s.setSlot l q) := setLane_poolSame s l rfl

theorem quoteReply_poolSame (s : State) (l : Nat) (r : Reply) (k : Option Nat) (n : Nat) : PoolSame s (s.quoteReply l r k n) :=
  (quoteReply_frame ..).poolSame

theorem offerSlot_poolSame (s : State) (l : Nat) : PoolSame s (s.offerSlot l) :=
  (setSlot_poolSame ..).trans (quoteReply_poolSame ..)

theorem pendSlot_poolSame (s : State) (l : Nat) : PoolSame s (s.pendSlot l) :=
  (setSlot_poolSame ..).trans (quoteReply_poolSame ..)

theorem fillSlot_poolSame (s : State) (l plan : Nat) (a : ServiceSet) (price : Nat) (m : Option Nat) :
    PoolSame s (s.fillSlot l plan a price m) := setLane_poolSame s l rfl

theorem refusePending_poolSame (s : State) (l : Nat) (r : Reply) : PoolSame s (s.refusePending l r) :=
  (emptySlot_poolSame ..).trans (quoteReply_poolSame ..)

theorem voidQuote_poolSame (s : State) (l : Nat) (r : Option Reply) : PoolSame s (s.voidQuote l r) := by
  have emptied : PoolSame s ((s.letGo l).emptySlot l) := (letGo_frame ..).poolSame.trans (emptySlot_poolSame ..)
  unfold State.voidQuote
  cases r with
  | none => exact .ite emptied .refl
  | some r => exact .ite (emptied.trans (quoteReply_poolSame ..)) .refl

theorem closeLane_poolSame (s : State) (l : Nat) (r : Option Reply) : PoolSame s (s.closeLane l r) := by
  unfold State.closeLane
  exact .ite ((voidQuote_poolSame ..).trans (setLane_poolSame _ l rfl)) .refl

theorem openPresent_poolSame (s : State) (l : Nat) : PoolSame s (s.openPresent l) := by
  unfold State.openPresent
  exact .ite (setLane_poolSame s l rfl) .refl

theorem resolveLane_poolSame (s : State) (n l tier : Nat) : PoolSame s (s.resolveLane n l tier) := by
  unfold State.resolveLane
  split
  · exact refusePending_poolSame ..
  · exact (setMember_frame ..).poolSame.trans (offerSlot_poolSame ..)

theorem forWaiting_poolSame (s : State) (w : List (Option Nat)) {g : State → Nat → Nat → State}
    (h : ∀ t l tier, PoolSame t (g t l tier)) : PoolSame s (s.forWaiting w g) := by
  refine .foldl (fun t l => ?_) _ s
  split
  · exact h ..
  · exact .refl

theorem fetchFill_poolSame (s : State) (n id tier limit uses : Nat) : PoolSame s (s.fetchFill n id tier limit uses) := by
  have taken : PoolSame s (s.setFetch n .blank) := (setFetch_frame ..).poolSame
  unfold State.fetchFill
  dsimp only
  split
  · exact taken
  · exact (((taken.trans (evict_frame ..).poolSame).trans (setMember_frame ..).poolSame).trans (toFront_frame ..).poolSame).trans
      (forWaiting_poolSame _ _ fun t l tier => resolveLane_poolSame t _ l tier)

theorem fetchRefuse_poolSame (s : State) (n : Nat) (r : Reply) : PoolSame s (s.fetchRefuse n r) :=
  (setFetch_frame ..).poolSame.trans (forWaiting_poolSame _ _ fun t l _ => refusePending_poolSame t l r)

theorem load_poolSame (s : State) (id tier limit uses : Nat) (pin : Bool) : PoolSame s (s.load id tier limit uses pin).1 := by
  have resolve (t : State) (n : Nat) : PoolSame t (t.loadResolve n id) := by
    unfold State.loadResolve
    split
    · exact (setFetch_frame ..).poolSame.trans (forWaiting_poolSame _ _ fun t l tier => resolveLane_poolSame t n l tier)
    · exact .refl
  unfold State.load
  split
  · split
    · exact .refl
    · exact (loadHeld_frame ..).poolSame.trans (resolve ..)
  · split
    · exact .refl
    · split
      · exact .refl
      · exact (loadNew_frame ..).poolSame.trans (resolve ..)

theorem quoteCash_poolSame (s : State) (l plan : Nat) (a : ServiceSet) : PoolSame s (s.quoteCash l plan a) := by
  unfold State.quoteCash
  exact .ite (quoteReply_poolSame ..) ((fillSlot_poolSame ..).trans (offerSlot_poolSame ..))

theorem quoteMember_poolSame (s : State) (l plan : Nat) (a : ServiceSet) (id : Nat) :
    PoolSame s (s.quoteMember l plan a id) := by
  have looked : PoolSame s (s.lookup l id (s.plan plan).tier).1 := (lookup_frame ..).poolSame
  unfold State.quoteMember
  dsimp only
  split
  · exact quoteReply_poolSame ..
  · split
    · exact (looked.trans (fillSlot_poolSame ..)).trans (offerSlot_poolSame ..)
    · exact (looked.trans (fillSlot_poolSame ..)).trans (pendSlot_poolSame ..)
    · exact looked.trans (quoteReply_poolSame ..)

/-- A degraded order keeps its place and its tags (R69). -/
theorem cascade_poolSame (s : State) (svc : Nat) : PoolSame s (s.cascade svc) := by
  have degraded : PoolSame s (s.setSales { s.sales with
      orders := s.sales.orders.map fun o => if newlyDegraded svc o then { o with degraded := true } else o }) := by
    refine setSales_poolSame s rfl ?_ rfl
    refine List.map_map.trans (List.map_congr_left fun o _ => ?_)
    simp only [Function.comp]
    split <;> rfl
  unfold State.cascade
  exact .ite .refl (degraded.trans (notifySales_frame ..).poolSame)

theorem outOfService_poolSame (s : State) (i : Nat) (r : OutReason) : PoolSame s (s.outOfService i r) := by
  have set (v : Station) : PoolSame s ((if Station.working (s.station i) then s.retract i else s).setStation i v) :=
    (PoolSame.ite (retract_frame ..).poolSame .refl).trans (setStation_frame ..).poolSame
  have lost (v : Station) (svc : Nat) (p : Prop) [Decidable p] : PoolSame s
      (let t := (if Station.working (s.station i) then s.retract i else s).setStation i v
       if p then t.cascade svc else t) := .ite ((set v).trans (cascade_poolSame ..)) (set v)
  unfold State.outOfService
  cases r
  case management => exact lost ..
  all_goals exact (lost ..).trans (notifyStation_frame ..).poolSame

theorem writeStation_poolSame (s : State) (i : Nat) (b : Nat → Byte) : PoolSame s (s.writeStation i b) := by
  unfold State.writeStation
  exact .ite ((setStation_frame ..).poolSame.trans (cascade_poolSame ..)) (setStation_frame ..).poolSame

/-! ## Stations and Tracking (R126, R134, R145 to R148) -/

theorem mapCars_poolSame (s : State) {g : Car → Car} (h : ∀ c, (g c).ticket = c.ticket) :
    PoolSame s (s.setCars (s.track.cars.map g)) := by
  refine setTrack_poolSame s ?_
  exact List.map_map.trans (List.map_congr_left fun c _ => h c)

theorem modifyCar_poolSame (s : State) (j : Nat) {g : Car → Car} (h : ∀ c, (g c).ticket = c.ticket) :
    PoolSame s (s.setCars (s.track.cars.modify j g)) := setTrack_poolSame s (map_modify_key Car.ticket h)

theorem setCarAt_poolSame (s : State) {j : Nat} {c d : Car} (hc : s.track.cars[j]? = some c) (hd : d.ticket = c.ticket) :
    PoolSame s (s.setCars (s.track.cars.set j d)) := setTrack_poolSame s (map_set_key Car.ticket hc hd)

theorem setTail_poolSame {s : State} {c d : Car} (h : s.tailCar = some c) (hd : d.ticket = c.ticket) :
    PoolSame s (s.setTail d) := by
  rw [setTail_eq h]
  exact setCarAt_poolSame s (tailCar_getElem? h) hd

theorem credit_poolSame (s : State) (tag svc : Nat) : PoolSame s (s.credit tag svc) :=
  mapCars_poolSame s fun c => by split <;> rfl

theorem endCrossing_poolSame (s : State) (i tag : Nat) : PoolSame s (s.endCrossing i tag) := by
  have released : PoolSame s (s.release i) := (release_frame s i).poolSame
  unfold State.endCrossing
  dsimp only
  split
  · split
    · exact released.trans (credit_poolSame ..)
    · exact released
    · exact .refl
    · exact .refl
  · exact .refl

theorem judgeStation_poolSame (s : State) (i : Nat) (moves : List Move) (d : Option Nat) :
    PoolSame s (s.judgeStation i moves d) := by
  have ends (l : List Move) (t : State) : PoolSame t (l.foldl (fun t m => t.endCrossing i m.tag) t) :=
    .foldl (fun t m => endCrossing_poolSame t i m.tag) l t
  have starts (l : List Move) (t : State) : PoolSame t (l.foldl (fun t m => t.startCrossing i m) t) :=
    .foldl (fun t m => (startCrossing_frame t i m).poolSame) l t
  unfold State.judgeStation
  dsimp only
  split
  · cases d with
    | none => exact (ends ..).trans (starts ..)
    | some n => exact ((ends ..).trans (countBackoff_frame ..).poolSame).trans (starts ..)
  · exact .refl

theorem handMoves_poolSame (s : State) (moves : List Move) (d : Option Nat) : PoolSame s (s.handMoves moves d) :=
  .foldl (fun t i => judgeStation_poolSame t i moves d) _ s

theorem nearMiss_poolSame {s : State} {j : Nat} {c : Car} (hc : s.track.cars[j]? = some c) (k : Nat) (e : Int) :
    PoolSame s (s.nearMiss j k e c) := by
  unfold State.nearMiss
  exact .ite ((setCarAt_poolSame s hc (by exact rfl)).trans (notifyTrack_frame ..).poolSame) .refl

theorem correct_poolSame {s : State} {j : Nat} {c : Car} (hc : s.track.cars[j]? = some c) (k pos : Nat) :
    PoolSame s (s.correct j k pos c) := by
  have near := nearMiss_poolSame hc k (sightingError pos c)
  unfold State.correct
  dsimp only
  split
  · exact near.trans (raiseCause_frame ..).poolSame
  · split
    · exact near
    · exact (near.trans (modifyCar_poolSame _ j (by exact fun _ => rfl))).trans (handMoves_poolSame ..)

theorem sighting_poolSame (s : State) (src k pos : Nat) : PoolSame s (s.sighting src k pos) := by
  have fault (car : Option Nat) : PoolSame s (s.trackFault src k car) := (trackFault_frame ..).poolSame
  unfold State.sighting
  split
  · exact fault _
  · split
    · exact .refl
    next c hc =>
      exact (PoolSame.ite (correct_poolSame hc k pos) (fault _)).trans (modifyCar_poolSame _ _ (by exact fun _ => rfl))

theorem judgeExit_poolSame (s : State) (src : Nat) : PoolSame s (s.judgeExit src) := by
  have fault (car : Option Nat) : PoolSame s (s.trackFault src exitEyeIndex car) := (trackFault_frame ..).poolSame
  unfold State.judgeExit
  split
  · exact fault _
  next c hc =>
    exact .ite (fault _) (.ite (notifyTrack_frame ..).poolSame ((correct_poolSame (List.head?_eq_getElem? ▸ hc) _ _).trans
      (modifyCar_poolSame _ _ (by exact fun _ => rfl))))

theorem rearEdge_poolSame (s : State) : PoolSame s s.rearEdge := by
  have stray : PoolSame s s.strayRear := by
    unfold State.strayRear
    exact .ite .refl (notifyTrack_frame ..).poolSame
  unfold State.rearEdge
  split
  next c hc =>
    have measured : PoolSame s (s.setTail { c with length := some c.front, state := .riding }) := setTail_poolSame hc rfl
    unfold State.measure
    exact .ite (.ite (measured.trans (raiseCause_frame ..).poolSame) measured) stray
  next => exact stray

/-- The roller's engagement keeps the tickets (R132). -/
theorem engageCalled_ticket {l k : List Car} (h : engageCalled l = some k) : k.map Car.ticket = l.map Car.ticket := by
  induction l generalizing k with
  | nil => cases h
  | cons a l ih =>
    unfold engageCalled at h
    split at h
    · obtain rfl := Option.some.inj h
      rfl
    · obtain ⟨m, hm, rfl⟩ := Option.map_eq_some_iff.mp h
      rw [List.map_cons, List.map_cons, ih hm]

theorem judgeRoller_poolSame (s : State) (r : Bool) : PoolSame s (s.judgeRoller r) := by
  unfold State.judgeRoller
  split
  · split
    next hl => exact setTrack_poolSame s (engageCalled_ticket hl)
    next => exact (notifyTrack_frame ..).poolSame
  · exact .refl

theorem passEye_ticket (s : State) (c : Car) : (s.passEye c).ticket = c.ticket := by
  unfold State.passEye
  split <;> rfl

/-! ## Drive reports (R118) -/

theorem runningReport_kept (s : State) : PoolKept s s.runningReport := by
  unfold State.runningReport
  split
  · exact .ite (((notifyTrack_frame ..).poolSame.trans (stopConveyor_poolSame _)).kept_frame
      (((notifyTrack_frame ..).within (by decide)).trans (stopConveyor_frame _ |>.within (m := [.track, .portF, .raised, .mgmt])
        (by decide)))) .refl
  · have moving (v : Track) (h : v.cars = s.track.cars) : PoolKept s ((s.setTrack v).judgeSpeed) :=
      ((setTrack_poolSame s (by rw [h])).trans (judgeSpeed_poolSame _)).kept_frame
        (((setTrack_frame ..).within (by decide)).trans (judgeSpeed_frame _))
    exact (moving _ (by exact rfl)).trans (review_kept _)
  · exact .refl
  · exact .refl

theorem stoppedReport_poolSame (s : State) : PoolSame s s.stoppedReport := by
  have own : PoolSame s ((s.setTrack { s.track with conveyor := .stopped, idle := none }).notifyTrack 6 none none) :=
    (setTrack_poolSame _ (by exact rfl)).trans (notifyTrack_frame ..).poolSame
  unfold State.stoppedReport
  split
  · exact .refl
  · exact .refl
  · unfold State.ownStop
    exact .ite own (own.trans (takeStart_poolSame _))
  · exact conveyorStopped_poolSame s

/-! ## Halting (R166 to R176) -/

theorem setHalt_kept (s : State) {v : Halt} (mode : v.mode = s.halt.mode) : PoolKept s (s.setHalt v) :=
  (setHalt_frame s v).poolSame.kept mode

theorem enterMode_poolSame (s : State) (m : Mode) : PoolSame s (s.enterMode m) := by
  unfold State.enterMode
  refine PoolSame.trans (PoolSame.ite ?_ ?_) (sweep_frame _).poolSame
  · exact (setHalt_frame ..).poolSame.trans (setTrack_poolSame _ (by exact rfl))
  · exact (setHalt_frame ..).poolSame

theorem closeOpenGates_poolSame (s : State) : PoolSame s s.closeOpenGates := by
  refine PoolSame.foldl (fun t l => ?_) _ s
  unfold State.closeIfOpen
  split
  · exact closeGate_poolSame ..
  · exact closeGate_poolSame ..
  · exact .refl
  · exact .refl

/-- A change of mode that withdraws the grant: none stands after it. -/
theorem withdrawn_kept {s t u : State} (h : PoolSame s t) (k : PoolSame t.withdraw u) : PoolKept s u := by
  refine ⟨fun hs => ?_⟩
  have w := (withdraw_kept t).held (h.poolLaw hs)
  refine ⟨k.poolLaw w.pool, fun tags => ?_, fun tags hb => k.boundLaw (w.bound ?_ (h.boundLaw hb)), fun hg => ?_⟩
  · exact k.carTags.symm ▸ w.tags (h.carTags.symm ▸ tags)
  · exact h.carTags.symm ▸ tags
  · obtain ⟨paired, -⟩ := hg
    have none_ : u.merge.grant = none := k.grant.trans (withdraw_grant t)
    refine ⟨?_, fun hg => absurd none_ hg⟩
    rw [none_, k.timer]
    by_cases hg : t.merge.grant = none
    · rw [withdraw_none hg, h.timer, ← paired, ← h.grant, hg]
    · rw [withdraw_admitTimer hg]
      rfl

theorem haltCalled_poolSame (s : State) (k : CauseKind) (d : CauseDetail) : PoolSame s (s.haltCalled k d) := by
  unfold State.haltCalled
  exact (((setHalt_frame ..).poolSame.trans (enterMode_poolSame ..)).trans (broadcast_frame _).poolSame).trans
    (setHalt_frame ..).poolSame

theorem haltEntry_kept (s : State) (k : CauseKind) (d : CauseDetail) : PoolKept s (s.haltEntry k d) := by
  have stopped : PoolSame s (s.haltCalled k d).driveStop.haltConveyor.haltRetract :=
    (((haltCalled_poolSame s k d).trans (driveStop_frame _).poolSame).trans
      (setTrack_poolSame _ (by exact rfl))).trans (haltRetract_frame _).poolSame
  have gates (t : State) : PoolSame t t.closeOpenGates.flagCars :=
    (closeOpenGates_poolSame t).trans (mapCars_poolSame _ fun _ => rfl)
  have waited (t : State) : PoolSame t ((t.notifyHalt (some .halting) (some k)).endWait) :=
    (notifyHalt_frame ..).poolSame.trans (endWait_frame _).poolSame
  rw [haltEntry_eq]
  refine withdrawn_kept stopped ?_
  unfold State.haltAwaiting State.haltStopped
  exact ((gates _).trans (setHalt_frame ..).poolSame).trans (waited _)

theorem takeCause_kept (s : State) (k : CauseKind) (d : CauseDetail) : PoolKept s (s.takeCause k d) := by
  have join : PoolKept s ((s.setHalt (Halt.latch s.halt k d)).notifyHalt none (some k)) :=
    (setHalt_kept s (by exact rfl)).trans (notifyHalt_frame ..).poolKept
  unfold State.takeCause
  split
  · exact haltEntry_kept ..
  · exact haltEntry_kept ..
  · exact join
  · exact join
  · exact join

theorem lineAsserted_kept (s : State) : PoolKept s s.lineAsserted := by
  unfold State.lineAsserted
  exact .ite .refl ((setHalt_kept s (by exact rfl)).trans (takeCause_kept ..))

theorem takeEstop_kept (s : State) (estop : Bool) : PoolKept s (s.takeEstop estop) := .ite (lineAsserted_kept s) .refl

theorem takeEarly_kept (s : State) (l : List (CauseKind × CauseDetail)) (e : Option Nat) : PoolKept s (s.takeEarly l e) := by
  unfold State.takeEarly
  split
  · exact (setRaised_frame ..).poolKept.trans (takeCause_kept ..)
  · exact .refl

theorem confirmDrive_kept (s : State) : PoolKept s s.confirmDrive := by
  unfold State.confirmDrive
  split
  next h =>
    exact (((setHalt_frame ..).poolSame.trans (conveyorStopped_poolSame _)).trans (endWait_frame _).poolSame).kept_mode
      fun armed => by rw [armed] at h; cases h.1
  next => exact .refl

theorem confirmStation_kept (s : State) (i : Nat) : PoolKept s (s.confirmStation i) := by
  unfold State.confirmStation
  split
  next h =>
    exact ((setHalt_frame ..).poolSame.trans (endWait_frame _).poolSame).kept_mode
      fun armed => by rw [armed] at h; cases h.1
  next => exact .refl

theorem recover_kept {s : State} (halted : s.halt.mode = .halted) : PoolKept s s.recover := by
  unfold State.recover
  exact ((((enterMode_poolSame ..).trans (offerUrgent_frame _ .f _).poolSame).trans (setHalt_frame ..).poolSame).trans
    ((closeOpenGates_poolSame _).trans (notifyHalt_frame ..).poolSame)).kept_mode
      fun armed => by rw [armed] at halted; cases halted

/-- A change of mode to ARMED loses no grant. -/
theorem PoolSame.kept_arming {s t : State} (h : PoolSame s t) (armed : t.halt.mode = .armed) : PoolKept s t :=
  h.kept_mode fun _ => armed

theorem arm_kept (s : State) : PoolKept s s.arm := by
  have opened : PoolSame s ([0, 1, 2].foldl State.openPresent (s.setTrack { s.track with eyes := s.checkEyes })) :=
    (setTrack_poolSame _ (by exact rfl)).trans (.foldl openPresent_poolSame _ _)
  unfold State.arm
  refine PoolKept.trans (PoolKept.trans ((opened.trans (enterMode_poolSame _ .armed)).kept_arming ?_)
    (notifyHalt_frame ..).poolKept) (review_kept _)
  rw [enterMode_halt]

theorem disarm_kept (s : State) : PoolKept s s.disarm := by
  unfold State.disarm
  exact withdrawn_kept ((enterMode_poolSame ..).trans (.foldl (fun t l => closeLane_poolSame t l _) _ _))
    ((closeOpenGates_poolSame _).trans (notifyHalt_frame ..).poolSame)

theorem haltForced_poolSame (s : State) : PoolSame s s.haltForced := by
  have out : PoolSame s s.haltForcedOut :=
    (setHalt_frame ..).poolSame.trans (.foldl (fun t i => outOfService_poolSame t i _) _ _)
  unfold State.haltForced
  exact .ite (out.trans (conveyorStopped_poolSame _)) out

end Sys2Proof.Machine
end

section
/-!
The order pool, the grant and the bound orders kept by every command: the obligation O56.
-/
namespace Sys2Proof.Machine

-- Proofs in order: a thread that waits for another proof counts against the check's memory limit.
set_option Elab.async false

/-! ## Command by command -/

theorem taking_kept {c : Instr} {s : State} {g : State → State} (h : ∀ t, PoolKept t (g t)) :
    Answers (PoolKept s) (taking c s g) := taking_answers .refl ((setHanded_frame ..).poolKept.trans (h _))

theorem whenDue_kept {d : Bool} {s : State} {g : State → State} (h : PoolKept s (g s)) : Answers (PoolKept s) (whenDue d s g) :=
  whenDue_answers .refl fun _ => h

theorem reply_kept (s : State) (seq : Byte) (code : Nat) (st : Status) (d : List Byte) : PoolKept s (s.reply seq code st d) :=
  (reply_frame ..).poolKept

/-- A command that keeps the pool's part, where the command keeps the halt. -/
theorem exec_sameKept {c : Instr} {s : State} (h : Answers (PoolSame s) (exec c s))
    (hc : Part.halt ∉ touches c := by exact of_decide_eq_true rfl) : Answers (PoolKept s) (exec c s) := by
  obtain ⟨t, ht, same⟩ := h
  exact ⟨t, ht, same.kept_frame ((exec_frame c s).elim ht) hc⟩

theorem taking_same {c : Instr} {s : State} {g : State → State} (h : ∀ t, PoolSame t (g t)) :
    Answers (PoolSame s) (taking c s g) := taking_answers .refl ((setHanded_frame ..).poolSame.trans (h _))

theorem whenDue_same {d : Bool} {s : State} {g : State → State} (h : PoolSame s (g s)) : Answers (PoolSame s) (whenDue d s g) :=
  whenDue_answers .refl fun _ => h

theorem reply_same (s : State) (seq : Byte) (code : Nat) (st : Status) (d : List Byte) : PoolSame s (s.reply seq code st d) :=
  (reply_frame ..).poolSame

theorem finishWrite_same {s w : State} (seq : Byte) (table i : Nat) (v : Verdict) (h : PoolSame s w) :
    PoolSame s (s.finishWrite seq table i v w) := by
  unfold State.finishWrite
  split
  · exact h.trans (reply_same ..)
  · exact reply_same ..
  · exact reply_same ..

theorem writing_same {s : State} (seq : Byte) (args : List Byte) (len size : Nat) {g : Nat → (Nat → Byte) → State}
    (h : ∀ i b, PoolSame s (g i b)) : PoolSame s (s.writing seq args len size g) := by
  unfold State.writing
  split
  · exact .ite (reply_same ..) (.ite (reply_same ..) (h ..))
  · exact reply_same ..

/-- A state whose Sales, Merge and Tracking have just been reset. -/
theorem fresh_kept {s t : State} {services : List ServiceEntry} {plans : List PlanEntry}
    (sales : t.sales = .fresh services plans) (merge : t.merge = .fresh) (track : t.track = .fresh) : PoolKept s t := by
  refine ⟨fun _ => ⟨fresh_poolLaw sales merge, fun _ => ?_, fun _ _ => fresh_boundLaw sales track, fun _ => fresh_grantLaw merge⟩⟩
  unfold State.carTags
  rw [track]
  exact List.nodup_nil

theorem tick_poolSame (s : State) : PoolSame s s.tick := by
  refine ⟨List.map_map.trans (List.map_congr_left fun _ _ => rfl), rfl, rfl, rfl, ?_, rfl⟩
  show (Timer.tick s.merge.admitTimer).isSome = _
  cases s.merge.admitTimer <;> rfl

theorem judgeFrame_kept (s : State) (p : PortId) (f : Frame) : PoolKept s (s.judgeFrame p f) := by
  have live (t : State) (a : Nat) (r : NodeRecord) : PoolKept t (t.noteLive a r) := by
    unfold State.noteLive
    exact .ite (.ite ((notifyNode_frame ..).poolKept.trans (review_kept _)) (notifyNode_frame ..).poolKept) .refl
  unfold State.judgeFrame
  split
  · exact (countRefusal_frame ..).poolKept
  · exact (((setNode_frame ..).poolKept.trans (noteGap_frame ..).poolKept).trans (live ..)).trans (route_frame ..).poolKept

theorem execNodeFrameTake_kept (p : PortId) (s : State) : Answers (PoolKept s) (execNodeFrameTake p s) := by
  have port (q : Port) : PoolKept s (s.setPort p q) := (setPort_frame s p q).poolKept (by cases p <;> decide)
  refine running_answers .refl ?_
  split
  · exact .refl
  · exact .ite .refl (((port _).trans ((judgeResume_frame _ p).poolKept (by cases p <;> decide))).trans (judgeFrame_kept ..))

theorem execStep_kept (src : Nat) (delta : Byte) (early : Option Nat) (s : State) :
    Answers (PoolKept s) (execStep src delta early s) := by
  refine taking_kept fun t => ?_
  have moved (d : Nat) : PoolSame t ((t.moveCars d).setCars ((t.moveCars d).track.cars.map (t.moveCars d).passEye)) :=
    (setTrack_poolSame t (List.map_map.trans (List.map_congr_left fun _ _ => rfl))).trans
      (mapCars_poolSame _ (passEye_ticket _))
  have handed (u : State) (moves : List Move) (d : Option Nat) : PoolKept u (u.handMoves moves d) :=
    (handMoves_poolSame ..).kept_frame (handMoves_frame ..)
  dsimp only
  refine .ite .refl (.ite ((raiseCause_frame ..).poolKept.trans (notifyTrack_frame ..).poolKept) ?_)
  unfold State.applyStep
  exact ((((moved _).kept rfl).trans ((setRaised_frame ..).poolKept.trans (takeEarly_kept ..))).trans (handed ..)).trans
    (review_kept _)

theorem execEntryEyeBlocked_kept (src : Nat) (s : State) : Answers (PoolKept s) (execEntryEyeBlocked src s) := by
  refine taking_kept fun t => ?_
  have seen : PoolKept t (t.setMerge { t.merge with entryBlocked := true }) := (setMerge_poolSame t (by exact rfl) (by exact rfl)).kept rfl
  exact .ite (notifyTrack_frame ..).poolKept
    (.ite (seen.trans (notifyTrack_frame ..).poolKept) (seen.trans (frontEdge_kept ..)))

theorem execEntryEyeClear_kept (src : Nat) (s : State) : Answers (PoolKept s) (execEntryEyeClear src s) := by
  refine taking_kept fun t => ?_
  have seen : PoolSame t (t.setMerge { t.merge with entryBlocked := false }) := setMerge_poolSame t rfl rfl
  exact ((seen.trans (rearEdge_poolSame _)).kept_frame (((setMerge_frame ..).within (by decide)).trans
    ((rearEdge_frame _).within (m := [.merge, .track, .raised, .mgmt]) (by decide)))).trans (review_kept _)

theorem execMergeEyeBlocked_kept (lane : Nat) (s : State) : Answers (PoolKept s) (execMergeEyeBlocked lane s) := by
  refine taking_kept fun t => ?_
  have eye (v : LaneMerge) : PoolKept t (t.setMergeLane lane v) := setMergeLane_kept ..
  dsimp only
  split
  · exact (eye _).trans (markUnpaid_kept ..)
  next r head =>
    split
    next queued => exact (eye _).trans ((stage_kept ⟨lane, head⟩ queued).trans (review_kept _))
    next => exact eye _

theorem execMergeEyeClear_kept (lane : Nat) (s : State) : Answers (PoolKept s) (execMergeEyeClear lane s) := by
  refine taking_kept fun t => ?_
  have eye (v : LaneMerge) : PoolKept t (t.setMergeLane lane v) := setMergeLane_kept ..
  dsimp only
  split
  · exact eye _
  next r head =>
    split
    next staged =>
      exact (eye _).trans ((setOrderState_kept ⟨lane, head⟩ (.inr staged) (.inl rfl)).trans (judgeConveyor_kept _))
    next => exact eye _

theorem execExitEyeClear_kept (src : Nat) (s : State) : Answers (PoolKept s) (execExitEyeClear src s) := by
  refine taking_kept fun t => ?_
  have eye : PoolKept t (t.setTrack { t.track with exitBlocked := false }) := (setTrack_poolSame t (by exact rfl)).kept rfl
  dsimp only
  split
  next c hc =>
    obtain ⟨head, -⟩ := Option.filter_eq_some_iff.mp hc
    exact eye.trans (leave_kept (List.mem_of_mem_head? head) _)
  next => exact .ite eye (eye.trans (notifyTrack_frame ..).poolKept)

theorem execRemoveCar_kept (seq : Byte) (args : List Byte) (s : State) : Answers (PoolKept s) (execRemoveCar seq args s) := by
  refine taking_kept fun t => ?_
  split
  · exact reply_kept ..
  · split
    · exact reply_kept ..
    · split
      · exact reply_kept ..
      next c hc =>
        obtain ⟨mem, -⟩ := car?_mem hc
        exact (leave_kept mem _).trans (reply_kept ..)

theorem execGateState_same (lane : Nat) (isOpen : Bool) (s : State) : Answers (PoolSame s) (execGateState lane isOpen s) := by
  refine taking_same fun t => ?_
  have gate (u : State) (g : Gate) : PoolSame u (u.setGate lane g) := setGate_poolSame ..
  have note : PoolSame t (t.notifyGate lane) := (notifySales_frame ..).poolSame
  split
  · unfold State.uncommandedOpen
    exact .ite (gate ..) (.ite (note.trans (closeGate_poolSame ..)) (note.trans (gate ..)))
  · exact gate ..
  · exact .refl
  · exact .refl
  · exact .refl
  · exact .refl
  · exact note.trans (gate ..)
  · exact gate ..

theorem execWheelSwitchEdge_same (src : Nat) (blocked : Bool) (s : State) :
    Answers (PoolSame s) (execWheelSwitchEdge src blocked s) := by
  refine taking_same fun t => .ite .refl ?_
  have ignored (tag : Option Nat) : PoolSame t (t.ignoreWheel tag) := (notifyTrack_frame ..).poolSame
  split
  · exact ignored _
  next c hc => exact .ite ((setTail_poolSame hc (by exact rfl)).trans (driveCmd_frame ..).poolSame) (ignored _)

theorem execCheckEyeEdge_same (src : Nat) (blocked : Bool) (s : State) :
    Answers (PoolSame s) (execCheckEyeEdge src blocked s) := by
  refine taking_same fun t => .ite .refl ?_
  split
  · exact .refl
  · exact sighting_poolSame ..

theorem execExitEyeBlocked_same (src : Nat) (s : State) : Answers (PoolSame s) (execExitEyeBlocked src s) := by
  refine taking_same fun t => ?_
  have eye : PoolSame t (t.setTrack { t.track with exitBlocked := true }) := setTrack_poolSame t rfl
  exact .ite eye (eye.trans (judgeExit_poolSame ..))

theorem execQuote_same (lane plan : Nat) (addons : ServiceSet) (member : Nat) (s : State) :
    Answers (PoolSame s) (execQuote lane plan addons member s) := by
  refine taking_same fun t => .ite (quoteReply_poolSame ..) (.ite (quoteReply_poolSame ..) ?_)
  have voided := voidQuote_poolSame t lane none
  dsimp only
  split
  · exact voided.trans (quoteReply_poolSame ..)
  · exact .ite (voided.trans (quoteCash_poolSame ..)) (voided.trans (quoteMember_poolSame ..))

theorem execPaid_kept (lane token tender : Nat) (s : State) : Answers (PoolKept s) (execPaid lane token tender s) := by
  refine taking_kept fun t => ?_
  have refuse (u : State) (r : Reply) : PoolKept u (u.refusePayment lane r) := (refusePayment_frame ..).poolKept
  have void : PoolKept t (t.voidQuote lane none) := (voidQuote_poolSame ..).kept_frame (voidQuote_frame ..)
  dsimp only
  split
  · exact refuse ..
  next hoffer =>
    obtain ⟨offered, -⟩ := not_or.mp hoffer
    exact .ite (refuse ..) (.ite (void.trans (refuse ..)) (.ite (void.trans (refuse ..)) (pay_kept (Classical.not_not.mp offered) tender)))

theorem execDriveState_kept (src : Nat) (report : DriveReport) (level : Nat) (roller : Bool) (s : State) :
    Answers (PoolKept s) (execDriveState src report level roller s) := by
  refine taking_kept fun t => ?_
  have recorded : PoolKept t ((t.judgeRoller roller).recordReport report level roller) :=
    ((judgeRoller_poolSame t roller).trans (setTrack_poolSame _ (by exact rfl))).kept_frame
      ((judgeRoller_frame ..).trans ((recordReport_frame ..).within (by decide)))
  cases report
  · exact recorded.trans (runningReport_kept _)
  · exact recorded.trans ((stoppedReport_poolSame _).kept_frame (stoppedReport_frame _))
  · exact recorded.trans (raiseCause_frame ..).poolKept

theorem execActState_kept (station : Nat) (report : ActReport) (s : State) :
    Answers (PoolKept s) (execActState station report s) := by
  refine taking_kept fun t => ?_
  have retracted : PoolKept t (t.retractedReport station) := by
    unfold State.retractedReport
    exact .trans (.ite (setStation_frame ..).poolKept .refl) (confirmStation_kept ..)
  have engaged : PoolKept t (t.engagedReport station) := by
    unfold State.engagedReport
    exact .ite (((notifyStation_frame ..).poolKept.trans (retract_frame ..).poolKept).trans (setStation_frame ..).poolKept) .refl
  cases report
  · exact .ite engaged .refl
  · exact .ite retracted .refl
  · exact .ite retracted .refl

theorem execCurrent_same (station value : Nat) (s : State) : Answers (PoolSame s) (execCurrent station value s) := by
  refine taking_same fun t => .ite ?_ .refl
  have set (v : Station) : PoolSame t (t.setStation station v) := (setStation_frame ..).poolSame
  exact .ite ((set _).trans (backOff_frame ..).poolSame) (.ite ((set _).trans (outOfService_poolSame ..)) (set _))

theorem execMemberData_same (id known tier limit uses : Nat) (s : State) :
    Answers (PoolSame s) (execMemberData id known tier limit uses s) := by
  refine taking_same fun t => .ite (notifyMember_frame ..).poolSame ?_
  split
  · exact .ite (fetchFill_poolSame ..) (fetchRefuse_poolSame ..)
  · exact (unsolicited_frame ..).poolSame

theorem execMemberLoad_same (seq : Byte) (args : List Byte) (s : State) : Answers (PoolSame s) (execMemberLoad seq args s) := by
  refine taking_same fun t => ?_
  split
  · exact .ite (reply_same ..) ((load_poolSame ..).trans (reply_same ..))
  · exact reply_same ..

theorem execLaneOpen_same (seq : Byte) (args : List Byte) (s : State) : Answers (PoolSame s) (execLaneOpen seq args s) := by
  refine taking_same fun t => ?_
  split
  · exact reply_same ..
  · exact .ite (reply_same ..) (.ite (reply_same ..) (.ite (reply_same ..) (.ite (reply_same ..)
      ((setLane_poolSame t _ (by exact rfl)).trans (reply_same ..)))))

theorem execStationService_same (seq : Byte) (args : List Byte) (s : State) :
    Answers (PoolSame s) (execStationService seq args s) := by
  refine taking_same fun t => ?_
  have out (i : Nat) : PoolSame t (t.serviceOut i) := by
    unfold State.serviceOut
    exact (PoolSame.ite (outOfService_poolSame ..) .refl).trans (stationCmd_frame ..).poolSame
  split
  · exact .ite (reply_same ..) (.ite (reply_same ..) (.ite (reply_same ..) (.ite ((out _).trans (reply_same ..))
      (.ite (reply_same ..) ((setStation_frame ..).poolSame.trans (reply_same ..))))))
  · exact reply_same ..

theorem execNodeSilent_same (a : Nat) (s : State) : Answers (PoolSame s) (execNodeSilent a s) := by
  have effect (t : State) (r : NodeRecord) : PoolSame t (t.silenceEffect a r) := by
    unfold State.silenceEffect
    split
    · exact (raiseCause_frame ..).poolSame
    · exact outOfService_poolSame ..
    · exact closeLane_poolSame ..
    · exact closeLane_poolSame ..
    · exact .ite (raiseCause_frame ..).poolSame .refl
  exact whenDue_same (((setNode_frame ..).poolSame.trans (notifyNode_frame ..).poolSame).trans (effect ..))

theorem execArm_kept (seq : Byte) (args : List Byte) (s : State) : Answers (PoolKept s) (execArm seq args s) := by
  refine taking_kept fun t => .ite (reply_kept ..) (.ite (reply_kept ..) ?_)
  split
  · exact reply_kept ..
  · exact (arm_kept t).trans (reply_kept ..)

theorem execRelease_kept (seq : Byte) (args : List Byte) (s : State) : Answers (PoolKept s) (execRelease seq args s) := by
  refine taking_kept fun t => ?_
  split
  · exact reply_kept ..
  next halted => exact .ite (reply_kept ..) ((recover_kept (Classical.not_not.mp halted)).trans (reply_kept ..))

theorem execClearCause_kept (seq : Byte) (args : List Byte) (s : State) : Answers (PoolKept s) (execClearCause seq args s) := by
  refine taking_kept fun t => ?_
  split
  · exact reply_kept ..
  · split
    · exact reply_kept ..
    · exact .ite (reply_kept ..) (.ite (reply_kept ..) ((setHalt_kept t (by exact rfl)).trans (reply_kept ..)))

theorem execLaneClose_kept (seq : Byte) (args : List Byte) (s : State) : Answers (PoolKept s) (execLaneClose seq args s) := by
  refine taking_kept fun t => ?_
  have close (l : Nat) : PoolKept t (t.closeLane l (some .laneClosed)) :=
    (closeLane_poolSame ..).kept_frame (closeLane_frame ..)
  split
  · dsimp only
    split
    · exact reply_kept ..
    next hl =>
      exact .ite (reply_kept ..) (.trans (.ite ((close _).trans (purge_kept _ (by omega))) (close _)) (reply_kept ..))
  · exact reply_kept ..

/-- An order that a tag names and that is not BOUND waits in a lane. -/
theorem PoolLaw.tagged_waits {s : State} (h : PoolLaw s) {tag r : Nat} (hr : s.orderOfTag tag = some r)
    (unbound : (s.order r).state ≠ .bound) : r ∈ s.queued := by
  have hlt := List.mem_range.mp (List.mem_of_find?_eq_some hr)
  have test := List.find?_some hr
  rw [Bool.and_eq_true, bne_iff_ne] at test
  obtain ⟨used, -⟩ := test
  refine (h.waiting r hlt).mp ?_
  unfold Order.waits
  cases hstate : (s.order r).state with
  | free => exact absurd hstate used
  | queued => rfl
  | staged => rfl
  | granted => rfl
  | bound => exact absurd hstate unbound

theorem execCancelOrder_kept (seq : Byte) (args : List Byte) (s : State) : Answers (PoolKept s) (execCancelOrder seq args s) := by
  refine taking_kept fun t => ?_
  split
  · exact reply_kept ..
  · split
    · exact reply_kept ..
    next r hr =>
      split
      · exact reply_kept ..
      next unbound => exact .trans ⟨fun h => voidOrder_held h (h.tagged_waits hr unbound) 1⟩ (reply_kept ..)

theorem execAdmitWindowExpiry_kept (s : State) : Answers (PoolKept s) (execAdmitWindowExpiry s) := by
  refine whenDue_kept ?_
  split
  next hg =>
    refine ⟨fun h => ⟨⟨h.lanes, h.orders, h.once, h.small, h.free, h.waiting, h.home, h.granted, h.named⟩, id,
      fun _ hb => ⟨hb.rides, hb.bound, hb.tags⟩, fun _ => ⟨?_, fun hne => absurd hg hne⟩⟩⟩
    show s.merge.grant.isSome = _
    rw [hg]
    rfl
  · exact ((withdraw_kept s).trans (notifySales_frame ..).poolKept).trans (review_kept _)

/-- The halt wait runs in HALTING alone, where no grant stands. -/
theorem execHaltWaitExpiry_kept {s : State} (h : HaltLaw s) : Answers (PoolKept s) (execHaltWaitExpiry s) := by
  obtain ⟨-, -, -, waiting⟩ := h
  rw [execHaltWaitExpiry_eq]
  refine whenDue_answers .refl fun due => ?_
  have halting : s.halt.mode = .halting := waiting (.inr fun hnone => by rw [hnone] at due; cases due)
  exact ((((haltForced_poolSame s).trans (setHalt_frame ..).poolSame).trans (enterMode_poolSame ..)).trans
    (notifyHalt_frame ..).poolSame).kept_mode fun armed => by rw [halting] at armed; cases armed

theorem execHoldTimerExpiry_kept (s : State) : Answers (PoolKept s) (execHoldTimerExpiry s) := by
  have starts (t : State) : PoolKept t (if t.track.cars = [] then t else t.takeStart) := .ite .refl (takeStart_kept t)
  have armed : PoolKept s ((s.setHalt { s.halt with hold := none }).enterMode .armed) :=
    ((setHalt_frame ..).poolSame.trans (enterMode_poolSame ..)).kept_arming (by rw [enterMode_halt])
  exact whenDue_kept ((((armed.trans (starts _)).trans (resumeStations_frame _).poolKept).trans
    (notifyHalt_frame ..).poolKept).trans (review_kept _))

theorem execBroadcastTimerExpiry_kept (s : State) : Answers (PoolKept s) (execBroadcastTimerExpiry s) :=
  whenDue_kept ((broadcast_frame s).poolKept.trans (setHalt_kept _ (by exact rfl)))

theorem execEstopLineDeasserted_kept (s : State) : Answers (PoolKept s) (execEstopLineDeasserted s) :=
  running_answers .refl (setHalt_kept s (by exact rfl))

theorem execQuoteLifeExpiry_same (lane : Nat) (s : State) : Answers (PoolSame s) (execQuoteLifeExpiry lane s) :=
  whenDue_same (voidQuote_poolSame s lane _)

theorem execFetchTimerExpiry_same (entry : Nat) (s : State) : Answers (PoolSame s) (execFetchTimerExpiry entry s) :=
  whenDue_same ((notifyMember_frame ..).poolSame.trans (fetchRefuse_poolSame ..))

theorem execStartWaitExpiry_same (s : State) : Answers (PoolSame s) (execStartWaitExpiry s) :=
  whenDue_same ((setTrack_poolSame s (by exact rfl)).trans (raiseCause_frame ..).poolSame)

theorem execStopWaitExpiry_same (s : State) : Answers (PoolSame s) (execStopWaitExpiry s) :=
  whenDue_same ((setTrack_poolSame s (by exact rfl)).trans (raiseCause_frame ..).poolSame)

theorem execIdleTimerExpiry_same (s : State) : Answers (PoolSame s) (execIdleTimerExpiry s) :=
  whenDue_same (stopConveyor_poolSame s)

theorem execStartRequest_kept (s : State) : Answers (PoolKept s) (execStartRequest s) :=
  whenDue_kept ((setStartRequested_frame ..).poolKept.trans (takeStart_kept _))

theorem execRaiseCause_kept (k : CauseKind) (d : CauseDetail) (s : State) : Answers (PoolKept s) (execRaiseCause k d s) :=
  whenDue_kept ((setRaised_frame ..).poolKept.trans (takeCause_kept ..))

/-- Every command keeps the laws of the pool. -/
theorem exec_poolKept (c : Instr) (s : State) (h : HaltLaw s) : Answers (PoolKept s) (exec c s) := by
  have outside (hc : Part.sales ∉ touches c ∧ Part.merge ∉ touches c ∧ Part.track ∉ touches c ∧ Part.halt ∉ touches c) :
      Answers (PoolKept s) (exec c s) := by
    obtain ⟨t, ht, hf⟩ := exec_frame c s
    exact ⟨t, ht, hf.poolKept hc⟩
  cases c
  case powerOnReset estop => exact .next ((fresh_kept (by exact rfl) rfl rfl).trans (takeEstop_kept ..))
  case lineReset => exact .next (fresh_kept (by exact rfl) rfl rfl)
  case lineResetEnd estop => exact .next (.ite ((endReset_frame s).poolKept.trans (takeEstop_kept ..)) .refl)
  case tick => exact running_answers .refl ((tick_poolSame s).kept rfl)
  case receiveByte p b => exact outside (by cases p <;> simp [touches, portPart])
  case transmitEnd p => exact outside (by cases p <;> simp [touches, portPart])
  case nodeFrameTake p => exact execNodeFrameTake_kept p s
  case step src delta early => exact execStep_kept src delta early s
  case entryEyeBlocked src => exact execEntryEyeBlocked_kept src s
  case entryEyeClear src => exact execEntryEyeClear_kept src s
  case mergeEyeBlocked lane => exact execMergeEyeBlocked_kept lane s
  case mergeEyeClear lane => exact execMergeEyeClear_kept lane s
  case checkEyeEdge src blocked => exact exec_sameKept (execCheckEyeEdge_same src blocked s)
  case exitEyeBlocked src => exact exec_sameKept (execExitEyeBlocked_same src s)
  case exitEyeClear src => exact execExitEyeClear_kept src s
  case wheelSwitchEdge src blocked => exact exec_sameKept (execWheelSwitchEdge_same src blocked s)
  case gateState lane isOpen => exact exec_sameKept (execGateState_same lane isOpen s)
  case quote lane plan addons member => exact exec_sameKept (execQuote_same lane plan addons member s)
  case paid lane token tender => exact execPaid_kept lane token tender s
  case cancel lane token => exact exec_sameKept (taking_same fun _ => .ite (voidQuote_poolSame ..) .refl)
  case actState station report => exact execActState_kept station report s
  case actStateFault station => exact exec_sameKept (taking_same fun _ => .ite (outOfService_poolSame ..) .refl)
  case current station value => exact exec_sameKept (execCurrent_same station value s)
  case driveState src report level roller => exact execDriveState_kept src report level roller s
  case haltDriveConfirm src report =>
    refine taking_kept fun t => ?_
    cases report
    · exact .refl
    · exact confirmDrive_kept t
    · exact .refl
  case stopActive src => exact taking_kept fun t => (setHalt_kept t (by exact rfl)).trans (takeCause_kept ..)
  case stopReleased src => exact taking_kept fun t => setHalt_kept t (by exact rfl)
  case estopLineAsserted => exact running_answers .refl (lineAsserted_kept s)
  case estopLineDeasserted => exact execEstopLineDeasserted_kept s
  case memberData id known tier limit uses => exact exec_sameKept (execMemberData_same id known tier limit uses s)
  case writeStationEntry seq args =>
    exact exec_sameKept (taking_same fun _ => writing_same _ _ _ _ fun i b => finishWrite_same _ _ _ _ (writeStation_poolSame ..))
  case writePlanEntry seq args =>
    exact exec_sameKept (taking_same fun t => writing_same _ _ _ _ fun i b => finishWrite_same _ _ _ _
      (setSales_poolSame t (by exact rfl) rfl rfl))
  case writeServiceEntry seq args =>
    exact exec_sameKept (taking_same fun t => writing_same _ _ _ _ fun i b => finishWrite_same _ _ _ _
      (setSales_poolSame t (by exact rfl) rfl rfl))
  case arm seq args => exact execArm_kept seq args s
  case disarm seq args =>
    exact taking_kept fun t => .ite (reply_kept ..) (.ite (reply_kept ..) ((disarm_kept t).trans (reply_kept ..)))
  case release seq args => exact execRelease_kept seq args s
  case forceHalt seq args => exact taking_kept fun _ => (takeCause_kept ..).trans (reply_kept ..)
  case clearCause seq args => exact execClearCause_kept seq args s
  case laneOpen seq args => exact exec_sameKept (execLaneOpen_same seq args s)
  case laneClose seq args => exact execLaneClose_kept seq args s
  case cancelOrder seq args => exact execCancelOrder_kept seq args s
  case stationService seq args => exact exec_sameKept (execStationService_same seq args s)
  case removeCar seq args => exact execRemoveCar_kept seq args s
  case memberLoad seq args => exact exec_sameKept (execMemberLoad_same seq args s)
  case quoteLifeExpiry lane => exact exec_sameKept (execQuoteLifeExpiry_same lane s)
  case fetchTimerExpiry entry => exact exec_sameKept (execFetchTimerExpiry_same entry s)
  case admitWindowExpiry => exact execAdmitWindowExpiry_kept s
  case startWaitExpiry => exact exec_sameKept (execStartWaitExpiry_same s)
  case stopWaitExpiry => exact exec_sameKept (execStopWaitExpiry_same s)
  case idleTimerExpiry => exact exec_sameKept (execIdleTimerExpiry_same s)
  case broadcastTimerExpiry => exact execBroadcastTimerExpiry_kept s
  case haltWaitExpiry => exact execHaltWaitExpiry_kept h
  case holdTimerExpiry => exact execHoldTimerExpiry_kept s
  case nodeSilent a => exact exec_sameKept (execNodeSilent_same a s)
  case startRequest => exact execStartRequest_kept s
  case raiseCause k d => exact execRaiseCause_kept k d s
  all_goals exact outside (by simp [touches, replyParts])

/-- The queue of commands is none of the pool's places. -/
theorem PoolLaw.setPending {s : State} (h : PoolLaw s) (l : List Instr) : PoolLaw { s with pending := l } :=
  ⟨h.lanes, h.orders, h.once, h.small, h.free, h.waiting, h.home, h.granted, h.named⟩

/-- What a step leaves of the pool's laws. -/
theorem step_poolHeld {s t : State} (halt : HaltLaw s) (pool : PoolLaw s) (h : step s = .next t) : PoolHeld s t := by
  unfold step at h
  split at h
  next c rest _ =>
    obtain ⟨hpool, htags, hbound, hgrant⟩ := ((exec_poolKept c { s with pending := rest } halt).elim h).held (pool.setPending rest)
    exact ⟨hpool, htags, fun tags hb => hbound tags ⟨hb.rides, hb.bound, hb.tags⟩, hgrant⟩
  next =>
    cases h
    exact PoolKept.refl.held pool

/-- Settles O56: every command keeps the pool, the grant and the bound orders together. -/
theorem poolAndGrantAreKept : Obligations.PoolAndGrantAreKept :=
  ⟨fun _ _ halt pool grant _ ht => ⟨(step_poolHeld halt pool ht).pool, (step_poolHeld halt pool ht).grant grant⟩,
    fun _ _ halt pool _ _ cars bound ht => (step_poolHeld halt pool ht).bound (And.left cars.2) bound⟩

end Sys2Proof.Machine
end

section
/-!
What the laws of quotes, accounts and fetches read (R50, R62, R73 to R78), and the changes of one record, fetch or slot.
-/
namespace Sys2Proof.Machine

-- Proofs in order: a thread that waits for another proof counts against the check's memory limit.
set_option Elab.async false

/-! ## The quote law without the sizes of the other tables -/

/-- The quote law, its sizes only those of the lanes, the records and the fetches. -/
structure Booked (s : State) : Prop where
  lanes : s.sales.lanes.length = 3
  records : s.members.records.length = 32
  table : s.members.fetches.length = 4
  sound : ∀ n, n < 32 → Member.sound (s.memberRec n)
  pins : s.pinned ≤ Config.pinLimit
  accounts : ∀ a b, a < 32 → b < 32 → (s.memberRec a).state ≠ .free → (s.memberRec b).state ≠ .free →
    (s.memberRec a).id = (s.memberRec b).id → a = b
  fetches : ∀ a b id, a < 4 → b < 4 → (s.fetch a).id = some id → (s.fetch b).id = some id → a = b
  absent : ∀ a id, a < 4 → (s.fetch a).id = some id → s.memberIndex id = none
  waits : ∀ a l tier, a < 4 → l < 3 → (s.fetch a).waiting.getD l none = some tier →
    (s.fetch a).id ≠ none ∧ (s.slot l).state = .pending ∧ (s.slot l).member = (s.fetch a).id
  room : ∀ l, l < 3 → (s.lane l).queue.length + (Slot.held (s.slot l)).toNat ≤ Config.laneSize
  closed : ∀ l, l < 3 → (s.lane l).isOpen = false → (s.slot l).state = .empty

theorem memberRec_mem {s : State} {n : Nat} (hn : n < s.members.records.length) : s.memberRec n ∈ s.members.records := by
  unfold State.memberRec
  rw [getD_of_lt _ _ hn]
  exact List.getElem_mem _

theorem quoteLaw_iff (s : State) : QuoteLaw s ↔ Shape s ∧ Booked s := by
  constructor
  · intro h
    have shape := h.shape
    refine ⟨shape, { h with lanes := shape.lanes, records := shape.records, table := shape.fetches, sound := fun n hn => ?_ }⟩
    exact h.sound _ (memberRec_mem (by rw [shape.records]; exact hn))
  · rintro ⟨shape, h⟩
    refine { h with shape := shape, sound := fun m hm => ?_ }
    obtain ⟨n, hn, rfl⟩ := List.getElem_of_mem hm
    have := h.sound n (h.records ▸ hn)
    unfold State.memberRec at this
    rwa [getD_of_lt _ _ hn] at this

/-! ## Accounts and fetches by id -/

theorem memberIndex_none_iff {s : State} {id : Nat} : s.memberIndex id = none ↔
    ∀ n, n < 32 → (s.memberRec n).state ≠ .free → (s.memberRec n).id ≠ id := by
  unfold State.memberIndex
  simp only [List.find?_eq_none, List.mem_range, Bool.and_eq_true, bne_iff_ne, beq_iff_eq, not_and, ne_eq]

theorem memberIndex_some {s : State} {id n : Nat} (h : s.memberIndex id = some n) :
    n < 32 ∧ (s.memberRec n).state ≠ .free ∧ (s.memberRec n).id = id := by
  have test := List.find?_some h
  rw [Bool.and_eq_true, bne_iff_ne, beq_iff_eq] at test
  exact ⟨List.mem_range.mp (List.mem_of_find?_eq_some h), test⟩

theorem Booked.memberIndex_eq {s : State} (h : Booked s) {n : Nat} (hn : n < 32) (used : (s.memberRec n).state ≠ .free) :
    s.memberIndex (s.memberRec n).id = some n := by
  cases hf : s.memberIndex (s.memberRec n).id with
  | none => exact absurd rfl (memberIndex_none_iff.mp hf n hn used)
  | some m =>
    obtain ⟨hm, mused, mid⟩ := memberIndex_some hf
    rw [h.accounts m n hm hn mused used mid]

theorem fetchIndex_none_iff {s : State} {id : Nat} : s.fetchIndex id = none ↔ ∀ n, n < 4 → (s.fetch n).id ≠ some id := by
  unfold State.fetchIndex
  simp only [List.find?_eq_none, List.mem_range, beq_iff_eq, ne_eq]

theorem fetchIndex_some {s : State} {id n : Nat} (h : s.fetchIndex id = some n) : n < 4 ∧ (s.fetch n).id = some id :=
  ⟨List.mem_range.mp (List.mem_of_find?_eq_some h), by simpa using List.find?_some h⟩

theorem Booked.fetchIndex_eq {s : State} (h : Booked s) {n id : Nat} (hn : n < 4) (hid : (s.fetch n).id = some id) :
    s.fetchIndex id = some n := by
  cases hf : s.fetchIndex id with
  | none => exact absurd hid (fetchIndex_none_iff.mp hf n hn)
  | some m =>
    obtain ⟨hm, mid⟩ := fetchIndex_some hf
    rw [h.fetches m n id hm hn mid hid]

/-! ## States that the laws read alike -/

/-- What the laws read of a lane beside its queue. -/
def LaneSales.quoting (v : LaneSales) : Bool × SlotState × Option Nat := (v.isOpen, v.slot.state, v.slot.member)

/-- What the laws read of a fetch. -/
def Fetch.asked (f : Fetch) : Option Nat × List (Option Nat) := (f.id, f.waiting)

/-- The next state holds accounts, fetches and slots as the laws read them, its queues no longer. -/
structure QuoteSame (s t : State) : Prop where
  records : t.members.records = s.members.records
  recency : t.members.recency = s.members.recency
  fetches : t.members.fetches.map Fetch.asked = s.members.fetches.map Fetch.asked
  lanes : t.sales.lanes.map LaneSales.quoting = s.sales.lanes.map LaneSales.quoting
  queues : ∀ l, l < 3 → (t.lane l).queue.length ≤ (s.lane l).queue.length

theorem QuoteSame.refl {s : State} : QuoteSame s s := ⟨rfl, rfl, rfl, rfl, fun _ _ => Nat.le_refl _⟩

theorem QuoteSame.trans {s t u : State} (h : QuoteSame s t) (k : QuoteSame t u) : QuoteSame s u :=
  ⟨k.records.trans h.records, k.recency.trans h.recency, k.fetches.trans h.fetches, k.lanes.trans h.lanes,
    fun l hl => Nat.le_trans (k.queues l hl) (h.queues l hl)⟩

theorem QuoteSame.ite {s t u : State} {c : Prop} [Decidable c] (h : QuoteSame s t) (k : QuoteSame s u) :
    QuoteSame s (if c then t else u) := by
  split
  · exact h
  · exact k

theorem QuoteSame.foldl {α : Type} {g : State → α → State} (h : ∀ t x, QuoteSame t (g t x)) (xs : List α) :
    ∀ s, QuoteSame s (xs.foldl g s) := by
  induction xs with
  | nil => intro s; exact .refl
  | cons x xs ih => intro s; exact (h s x).trans (ih _)

/-- Nothing of Members changed, and nothing of the lanes. -/
theorem quoteSame_of_lanes {s t : State} (members : t.members = s.members) (lanes : t.sales.lanes = s.sales.lanes) :
    QuoteSame s t := by
  have lane (l : Nat) : t.lane l = s.lane l := by unfold State.lane; rw [lanes]
  exact ⟨by rw [members], by rw [members], by rw [members], by rw [lanes], fun l _ =>
    Nat.le_of_eq (congrArg (fun v : LaneSales => v.queue.length) (lane l))⟩

theorem SameExcept.quoteSame {l : List Part} {s t : State} (h : SameExcept l s t)
    (hl : Part.sales ∉ l ∧ Part.members ∉ l := by decide) : QuoteSame s t := by
  have sales : t.sales = s.sales := h.same _ hl.1
  exact quoteSame_of_lanes (h.same _ hl.2) (by rw [sales])

/-- Changes outside Members with the lanes as they were. -/
theorem SameExcept.quoteSame_lanes {l : List Part} {s t : State} (h : SameExcept l s t) (lanes : t.sales.lanes = s.sales.lanes)
    (hl : Part.members ∉ l := by decide) : QuoteSame s t := quoteSame_of_lanes (h.same _ hl) lanes

theorem QuoteSame.memberRec {s t : State} (h : QuoteSame s t) (n : Nat) : t.memberRec n = s.memberRec n := by
  unfold State.memberRec
  rw [h.records]

theorem QuoteSame.memberIndex {s t : State} (h : QuoteSame s t) (id : Nat) : t.memberIndex id = s.memberIndex id := by
  unfold State.memberIndex
  simp only [h.memberRec]

theorem QuoteSame.fetch {s t : State} (h : QuoteSame s t) (n : Nat) :
    (t.fetch n).id = (s.fetch n).id ∧ (t.fetch n).waiting = (s.fetch n).waiting := by
  have read (u : State) : (u.fetch n).asked = (u.members.fetches.map Fetch.asked).getD n Fetch.blank.asked := by
    rw [getD_map]
    rfl
  exact Prod.mk.inj (((read t).trans (by rw [h.fetches])).trans (read s).symm)

theorem QuoteSame.lane {s t : State} (h : QuoteSame s t) (l : Nat) :
    (t.lane l).isOpen = (s.lane l).isOpen ∧ (t.slot l).state = (s.slot l).state ∧ (t.slot l).member = (s.slot l).member := by
  have read (u : State) : (u.lane l).quoting = (u.sales.lanes.map LaneSales.quoting).getD l LaneSales.blank.quoting := by
    rw [getD_map]
    rfl
  obtain ⟨isOpen, slot⟩ := Prod.mk.inj (((read t).trans (by rw [h.lanes])).trans (read s).symm)
  exact ⟨isOpen, Prod.mk.inj slot⟩

theorem held_congr {p q : Slot} (h : p.state = q.state) : Slot.held p = Slot.held q := by
  unfold Slot.held
  rw [h]

theorem QuoteSame.booked {s t : State} (h : QuoteSame s t) (k : Booked s) : Booked t := by
  have length {α β : Type} {l m : List α} {g : α → β} (e : l.map g = m.map g) : l.length = m.length := by
    simpa using congrArg List.length e
  refine { lanes := (length h.lanes).trans k.lanes, records := h.records ▸ k.records, table := (length h.fetches).trans k.table,
           sound := fun n hn => ?_, pins := ?_, accounts := fun a b ha hb => ?_, fetches := fun a b id ha hb => ?_,
           absent := fun a id ha => ?_, waits := fun a l tier ha hl => ?_, room := fun l hl => ?_, closed := fun l hl => ?_ }
  · rw [h.memberRec]
    exact k.sound n hn
  · rw [State.pinned, h.records]
    exact k.pins
  · rw [h.memberRec, h.memberRec]
    exact k.accounts a b ha hb
  · rw [(h.fetch a).1, (h.fetch b).1]
    exact k.fetches a b id ha hb
  · rw [(h.fetch a).1, h.memberIndex]
    exact k.absent a id ha
  · obtain ⟨fid, fwait⟩ := h.fetch a
    obtain ⟨-, state, member⟩ := h.lane l
    rw [fid, fwait, state, member]
    exact k.waits a l tier ha hl
  · obtain ⟨-, state, -⟩ := h.lane l
    rw [held_congr state]
    exact Nat.le_trans (Nat.add_le_add_right (h.queues l hl) _) (k.room l hl)
  · obtain ⟨isOpen, state, -⟩ := h.lane l
    rw [isOpen, state]
    exact k.closed l hl

/-! ## The holders of an account (R75) -/

/-- A slot offers a quote of an account. -/
def Slot.holds (q : Slot) (id : Nat) : Bool := q.state == .offered && q.member == some id

theorem Slot.holds_iff {q : Slot} {id : Nat} : q.holds id = true ↔ q.state = .offered ∧ q.member = some id := by
  unfold Slot.holds
  rw [Bool.and_eq_true, beq_iff_eq, beq_iff_eq]

theorem holders_length (s : State) (id : Nat) : (s.holders id).length =
    ((s.slot 0).holds id).toNat + ((s.slot 1).holds id).toNat + ((s.slot 2).holds id).toNat := by
  unfold State.holders
  rw [← List.countP_eq_length_filter]
  simp only [List.countP_cons, List.countP_nil, Slot.holds, Bool.toNat]
  cases (s.slot 0).state == .offered && (s.slot 0).member == some id <;>
    cases (s.slot 1).state == .offered && (s.slot 1).member == some id <;>
    cases (s.slot 2).state == .offered && (s.slot 2).member == some id <;> rfl

/-- The holders count one lane for another. -/
theorem holders_change {s t : State} {l : Nat} (hl : l < 3) (others : ∀ k, k ≠ l → t.slot k = s.slot k) (id : Nat) :
    (t.holders id).length + ((s.slot l).holds id).toNat = (s.holders id).length + ((t.slot l).holds id).toNat := by
  rw [holders_length, holders_length]
  match l, hl with
  | 0, _ =>
    rw [others 1 (by decide), others 2 (by decide)]
    omega
  | 1, _ =>
    rw [others 0 (by decide), others 2 (by decide)]
    omega
  | 2, _ =>
    rw [others 0 (by decide), others 1 (by decide)]
    omega

/-- Nobody holds an account: no slot offers a quote of it. -/
theorem holders_eq_zero {s : State} {id : Nat} : (s.holders id).length = 0 ↔
    ∀ l, l < 3 → ¬((s.slot l).state = .offered ∧ (s.slot l).member = some id) := by
  rw [holders_length]
  constructor
  · intro h l hl hheld
    have := Slot.holds_iff.mpr hheld
    match l, hl with
    | 0, _ => rw [this] at h; simp at h
    | 1, _ => rw [this] at h; simp at h
    | 2, _ => rw [this] at h; simp at h
  · intro h
    have off (l : Nat) (hl : l < 3) : ((s.slot l).holds id).toNat = 0 := by
      rw [Bool.eq_false_iff.mpr fun hh => h l hl (Slot.holds_iff.mp hh)]
      rfl
    rw [off 0 (by decide), off 1 (by decide), off 2 (by decide)]

theorem holders_congr {s t : State} (h : ∀ l, (t.slot l).state = (s.slot l).state ∧ (t.slot l).member = (s.slot l).member)
    (id : Nat) : (t.holders id).length = (s.holders id).length := by
  have same (l : Nat) : (t.slot l).holds id = (s.slot l).holds id := by
    unfold Slot.holds
    rw [(h l).1, (h l).2]
  rw [holders_length, holders_length, same, same, same]

theorem QuoteSame.holdLaw {s t : State} (h : QuoteSame s t) (k : HoldLaw s) : HoldLaw t := by
  have slot (l : Nat) := (h.lane l).2
  refine ⟨h.recency ▸ k.once, fun n => ?_, fun n hn => ?_, fun l id hl => ?_⟩
  · rw [h.recency, h.memberRec]
    exact k.listed n
  · rw [h.memberRec, holders_congr slot]
    exact k.refs n hn
  · rw [(slot l).1, (slot l).2, h.memberIndex]
    exact k.held l id hl

/-! ## What a change of the quotes keeps -/

/-- The laws of quotes and references after a change, each from what it was before. -/
structure QuoteHeld (s t : State) : Prop where
  booked : Booked t
  hold : HoldLaw s → HoldLaw t

/-- A change that keeps the laws of quotes and references. -/
structure QuoteKept (s t : State) : Prop where
  held : Booked s → QuoteHeld s t

theorem QuoteHeld.trans {s t u : State} (h : QuoteHeld s t) (k : QuoteHeld t u) : QuoteHeld s u :=
  ⟨k.booked, k.hold ∘ h.hold⟩

theorem QuoteKept.refl {s : State} : QuoteKept s s := ⟨fun h => ⟨h, id⟩⟩

theorem QuoteKept.trans {s t u : State} (h : QuoteKept s t) (k : QuoteKept t u) : QuoteKept s u :=
  ⟨fun hs => (h.held hs).trans (k.held (h.held hs).booked)⟩

theorem QuoteKept.after {s t u : State} (k : QuoteKept t u) (h : QuoteHeld s t) : QuoteHeld s u := h.trans (k.held h.booked)

theorem QuoteKept.ite {s t u : State} {c : Prop} [Decidable c] (h : QuoteKept s t) (k : QuoteKept s u) :
    QuoteKept s (if c then t else u) := by
  split
  · exact h
  · exact k

theorem QuoteKept.foldl {α : Type} {g : State → α → State} (h : ∀ t x, QuoteKept t (g t x)) (xs : List α) :
    ∀ s, QuoteKept s (xs.foldl g s) := by
  induction xs with
  | nil => intro s; exact .refl
  | cons x xs ih => intro s; exact (h s x).trans (ih _)

theorem QuoteSame.kept {s t : State} (h : QuoteSame s t) : QuoteKept s t := ⟨fun hs => ⟨h.booked hs, h.holdLaw⟩⟩

/-! ## One account changed -/

/-- One record changed, the rest of the books as they were. -/
theorem Booked.record {s t : State} {n : Nat} (h : Booked s) (hn : n < 32) (length : t.members.records.length = 32)
    (others : ∀ a, a ≠ n → t.memberRec a = s.memberRec a) (sound : Member.sound (t.memberRec n)) (pins : t.pinned ≤ Config.pinLimit)
    (account : (t.memberRec n).state ≠ .free →
      (s.memberRec n).state ≠ .free ∧ (t.memberRec n).id = (s.memberRec n).id ∨
        s.memberIndex (t.memberRec n).id = none ∧ s.fetchIndex (t.memberRec n).id = none)
    (fetches : t.members.fetches = s.members.fetches) (lanes : t.sales.lanes = s.sales.lanes) : Booked t := by
  have fetch (a : Nat) : t.fetch a = s.fetch a := by unfold State.fetch; rw [fetches]
  have lane (l : Nat) : t.lane l = s.lane l := by unfold State.lane; rw [lanes]
  have slot (l : Nat) : t.slot l = s.slot l := congrArg LaneSales.slot (lane l)
  have apart (a : Nat) (ha : a < 32) (hne : a ≠ n) (used : (s.memberRec a).state ≠ .free)
      (fresh : (t.memberRec n).state ≠ .free) : (s.memberRec a).id ≠ (t.memberRec n).id := fun hid => by
    rcases account fresh with ⟨used', same⟩ | ⟨none_, -⟩
    · exact hne (h.accounts a n ha hn used used' (hid.trans same))
    · exact memberIndex_none_iff.mp none_ a ha used hid
  refine { lanes := lanes ▸ h.lanes, records := length, table := fetches ▸ h.table, pins, sound := fun a ha => ?_,
           accounts := fun a b ha hb ua ub hid => ?_, fetches := fun a b id ha hb => ?_, absent := fun a id ha hid => ?_,
           waits := fun a l tier ha hl => ?_, room := fun l hl => ?_, closed := fun l hl => ?_ }
  · by_cases han : a = n
    · exact han ▸ sound
    · rw [others a han]
      exact h.sound a ha
  · by_cases han : a = n <;> by_cases hbn : b = n
    · exact han.trans hbn.symm
    · subst han
      rw [others b hbn] at ub hid
      exact absurd hid.symm (apart b hb hbn ub ua)
    · subst hbn
      rw [others a han] at ua hid
      exact absurd hid (apart a ha han ua ub)
    · rw [others a han] at ua hid
      rw [others b hbn] at ub hid
      exact h.accounts a b ha hb ua ub hid
  · rw [fetch, fetch]
    exact h.fetches a b id ha hb
  · rw [fetch] at hid
    have before := memberIndex_none_iff.mp (h.absent a id ha hid)
    refine memberIndex_none_iff.mpr fun b hb ub => ?_
    by_cases hbn : b = n
    · subst hbn
      rcases account ub with ⟨used, same⟩ | ⟨-, unasked⟩
      · rw [same]
        exact before b hb used
      · exact fun heq => fetchIndex_none_iff.mp unasked a ha (heq ▸ hid)
    · rw [others b hbn] at ub ⊢
      exact before b hb ub
  · rw [fetch, slot]
    exact h.waits a l tier ha hl
  · rw [slot, lane]
    exact h.room l hl
  · rw [slot, lane]
    exact h.closed l hl

/-- One record changed: the references and the recency list rest on that record. -/
theorem HoldLaw.record {s t : State} {n : Nat} (h : HoldLaw s) (hn : n < 32) (others : ∀ a, a ≠ n → t.memberRec a = s.memberRec a)
    (lanes : t.sales.lanes = s.sales.lanes) (once : t.members.recency.Nodup)
    (listed : ∀ a, a ≠ n → (a ∈ t.members.recency ↔ a ∈ s.members.recency))
    (own : n ∈ t.members.recency ↔ (t.memberRec n).state = .cached)
    (refs : (t.memberRec n).state ≠ .free → (t.memberRec n).refs = (s.holders (t.memberRec n).id).length)
    (held : (s.memberRec n).state ≠ .free → (s.holders (s.memberRec n).id).length ≠ 0 →
      (t.memberRec n).state ≠ .free ∧ (t.memberRec n).id = (s.memberRec n).id) : HoldLaw t := by
  have slot (l : Nat) : t.slot l = s.slot l := by unfold State.slot State.lane; rw [lanes]
  have holders (id : Nat) : (t.holders id).length = (s.holders id).length := holders_congr (fun l => by rw [slot]; exact ⟨rfl, rfl⟩) id
  refine ⟨once, fun a => ?_, fun a ha used => ?_, fun l id hl offered member => ?_⟩
  · by_cases han : a = n
    · subst han
      rw [own]
      exact (and_iff_right hn).symm
    · rw [listed a han, others a han]
      exact h.listed a
  · rw [holders]
    by_cases han : a = n
    · subst han
      exact refs used
    · rw [others a han] at used ⊢
      exact h.refs a ha used
  · rw [slot] at offered member
    have found := h.held l id hl offered member
    intro hnone
    refine found (memberIndex_none_iff.mpr fun a ha used hid => ?_)
    by_cases han : a = n
    · subst han
      have holds : (s.holders (s.memberRec a).id).length ≠ 0 := fun hzero =>
        holders_eq_zero.mp hzero l hl ⟨offered, by rw [member, hid]⟩
      obtain ⟨used', same⟩ := held used holds
      exact memberIndex_none_iff.mp hnone a ha used' (same.trans hid)
    · have := memberIndex_none_iff.mp hnone a ha
      rw [others a han] at this
      exact this used hid

/-! ## One slot changed -/

/-- One lane's slot changed, with nobody waiting in it that was not, and with the references that its change calls for. -/
theorem Booked.slotted {s t : State} {l : Nat} (h : Booked s) (members : t.members = s.members)
    (length : t.sales.lanes.length = 3) (others : ∀ k, k ≠ l → t.lane k = s.lane k)
    (free : ∀ a tier, a < 4 → (s.fetch a).waiting.getD l none = some tier →
      (t.slot l).state = .pending ∧ (t.slot l).member = (s.fetch a).id)
    (room : (t.lane l).queue.length + (Slot.held (t.slot l)).toNat ≤ Config.laneSize)
    (closed : (t.lane l).isOpen = false → (t.slot l).state = .empty) : Booked t := by
  have rec_ (n : Nat) : t.memberRec n = s.memberRec n := by unfold State.memberRec; rw [members]
  have fetch (n : Nat) : t.fetch n = s.fetch n := by unfold State.fetch; rw [members]
  have slot (k : Nat) (hk : k ≠ l) : t.slot k = s.slot k := congrArg LaneSales.slot (others k hk)
  have index (id : Nat) : t.memberIndex id = s.memberIndex id := by unfold State.memberIndex; simp only [rec_]
  refine { lanes := length, records := members ▸ h.records, table := members ▸ h.table, pins := ?_, sound := fun n hn => ?_,
           accounts := fun a b ha hb => ?_, fetches := fun a b id ha hb => ?_, absent := fun a id ha => ?_,
           waits := fun a k tier ha hk hw => ?_, room := fun k hk => ?_, closed := fun k hk => ?_ }
  · rw [rec_]
    exact h.sound n hn
  · rw [State.pinned, members]
    exact h.pins
  · rw [rec_, rec_]
    exact h.accounts a b ha hb
  · rw [fetch, fetch]
    exact h.fetches a b id ha hb
  · rw [fetch, index]
    exact h.absent a id ha
  · rw [fetch] at hw ⊢
    have before := h.waits a k tier ha hk hw
    by_cases hkl : k = l
    · subst hkl
      exact ⟨And.left before, free a tier ha hw⟩
    · rw [slot k hkl]
      exact before
  · by_cases hkl : k = l
    · exact hkl ▸ room
    · rw [slot k hkl, others k hkl]
      exact h.room k hk
  · by_cases hkl : k = l
    · exact hkl ▸ closed
    · rw [slot k hkl, others k hkl]
      exact h.closed k hk

/-- One slot changed, each reference count with it. -/
theorem HoldLaw.slotted {s t : State} {l : Nat} (h : HoldLaw s) (hl : l < 3) (recency : t.members.recency = s.members.recency)
    (records : ∀ n, (t.memberRec n).state = (s.memberRec n).state ∧ (t.memberRec n).id = (s.memberRec n).id)
    (others : ∀ k, k ≠ l → t.slot k = s.slot k)
    (refs : ∀ n, n < 32 → (s.memberRec n).state ≠ .free → (t.memberRec n).refs + ((s.slot l).holds (s.memberRec n).id).toNat =
      (s.memberRec n).refs + ((t.slot l).holds (s.memberRec n).id).toNat)
    (held : ∀ id, (t.slot l).state = .offered → (t.slot l).member = some id → s.memberIndex id ≠ none) : HoldLaw t := by
  have index (id : Nat) : t.memberIndex id = s.memberIndex id := by
    unfold State.memberIndex
    simp only [fun n => (records n).1, fun n => (records n).2]
  refine ⟨recency ▸ h.once, fun n => ?_, fun n hn used => ?_, fun k id hk offered member => ?_⟩
  · rw [recency, (records n).1]
    exact h.listed n
  · rw [(records n).1] at used
    rw [(records n).2]
    have before := h.refs n hn used
    have counted := refs n hn used
    have change := holders_change hl others (s.memberRec n).id
    omega
  · rw [index]
    by_cases hkl : k = l
    · exact held id (hkl ▸ offered) (hkl ▸ member)
    · rw [others k hkl] at offered member
      exact h.held k id hk offered member

end Sys2Proof.Machine
end

section
/-!
Accounts, fetches and slots as the quotes move them (R52 to R57, R73 to R91), with what each keeps of the laws.
-/
namespace Sys2Proof.Machine

-- Proofs in order: a thread that waits for another proof counts against the check's memory limit.
set_option Elab.async false

/-! ## Records (R73 to R75) -/

theorem setMember_beyond {s : State} {n : Nat} (m : Member) (h : s.members.records.length ≤ n) : s.setMember n m = s := by
  unfold State.setMember
  rw [List.set_eq_of_length_le h]
  rfl

/-- The PINNED records stay within the limit where one that was not PINNED finds room (R73). -/
theorem pinned_set {s t : State} {n : Nat} {m : Member} (h : n < s.members.records.length)
    (records : t.members.records = s.members.records.set n m) (limit : s.pinned ≤ Config.pinLimit)
    (pins : m.state = .pinned → (s.memberRec n).state = .pinned ∨ s.pinned < Config.pinLimit) : t.pinned ≤ Config.pinLimit := by
  have count : t.pinned = (s.pinned - if (s.memberRec n).state == .pinned then 1 else 0) + if m.state == .pinned then 1 else 0 := by
    unfold State.pinned State.memberRec
    rw [records, List.countP_set h, getD_of_lt _ _ h]
  by_cases hm : m.state = .pinned
  · by_cases hp : (s.memberRec n).state = .pinned
    · have pos : 0 < s.pinned := List.countP_pos_iff.mpr ⟨_, memberRec_mem h, by rw [hp]; rfl⟩
      simp only [hm, hp, beq_self_eq_true, if_true] at count
      omega
    · have room := (pins hm).resolve_left hp
      simp only [hm, beq_self_eq_true, if_true] at count
      omega
  · simp only [beq_eq_false_iff_ne.mpr hm, Bool.false_eq_true, if_false] at count
    omega

theorem memberRec_of_set {s t : State} {n : Nat} {m : Member} (h : n < s.members.records.length)
    (records : t.members.records = s.members.records.set n m) :
    t.memberRec n = m ∧ ∀ a, a ≠ n → t.memberRec a = s.memberRec a := by
  unfold State.memberRec
  rw [records]
  exact ⟨getD_set_eq _ _ _ _ h, fun a ha => getD_set_ne _ _ _ _ _ ha⟩

/-- One record written whose account stays the same, in use before: the quotes' law. -/
theorem Booked.rewritten {s t : State} {n : Nat} {m : Member} (h : Booked s) (hn : n < 32)
    (records : t.members.records = s.members.records.set n m) (sound : Member.sound m)
    (pins : m.state = .pinned → (s.memberRec n).state = .pinned ∨ s.pinned < Config.pinLimit)
    (account : m.state ≠ .free → (s.memberRec n).state ≠ .free ∧ m.id = (s.memberRec n).id ∨
      s.memberIndex m.id = none ∧ s.fetchIndex m.id = none)
    (fetches : t.members.fetches = s.members.fetches) (lanes : t.sales.lanes = s.sales.lanes) : Booked t := by
  have hlen : n < s.members.records.length := h.records.symm ▸ hn
  obtain ⟨own, others⟩ := memberRec_of_set hlen records
  exact h.record hn (by rw [records, List.length_set, h.records]) others (own.symm ▸ sound) (pinned_set hlen records h.pins pins)
    (own.symm ▸ account) fetches lanes

/-- A record in use written with its account, its state and its references as they were. -/
theorem setMember_kept {s : State} {n : Nat} {m : Member} (state : m.state = (s.memberRec n).state)
    (id : m.id = (s.memberRec n).id) (refs : m.refs = (s.memberRec n).refs)
    (sound : Member.sound (s.memberRec n) → Member.sound m) : QuoteKept s (s.setMember n m) := by
  refine ⟨fun h => ?_⟩
  by_cases hn : n < 32
  · have hlen : n < s.members.records.length := h.records.symm ▸ hn
    obtain ⟨own, others⟩ := memberRec_of_set (t := s.setMember n m) hlen rfl
    refine ⟨h.rewritten hn rfl (sound (h.sound n hn)) (fun hp => .inl (state ▸ hp)) (fun hu => .inl ⟨state ▸ hu, id⟩) rfl rfl,
      fun hold => ?_⟩
    refine hold.record hn others rfl hold.once (fun _ _ => Iff.rfl) ?_ (fun used => ?_) (fun used _ => ?_)
    · rw [own, state]
      exact (hold.listed n).trans (and_iff_right hn)
    · rw [own] at used ⊢
      rw [refs, id]
      exact hold.refs n hn (state ▸ used)
    · rw [own, state]
      exact ⟨used, id⟩
  · rw [setMember_beyond m (by rw [h.records]; omega)]
    exact QuoteKept.refl.held h

/-- A record in use put first on the recency list, or pinned and off it (R74, R90, R91). -/
theorem relisted_held {s t : State} {n : Nat} {m : Member} (h : Booked s) (hn : n < 32) (used : (s.memberRec n).state ≠ .free)
    (records : t.members.records = s.members.records.set n m) (sound : Member.sound m) (id : m.id = (s.memberRec n).id)
    (refs : m.refs = (s.memberRec n).refs)
    (listed : m.state = .cached ∧ t.members.recency = n :: s.members.recency.erase n ∨
      m.state = .pinned ∧ t.members.recency = s.members.recency.erase n ∧
        ((s.memberRec n).state = .pinned ∨ s.pinned < Config.pinLimit))
    (fetches : t.members.fetches = s.members.fetches) (lanes : t.sales.lanes = s.sales.lanes) : QuoteHeld s t := by
  have hlen : n < s.members.records.length := h.records.symm ▸ hn
  obtain ⟨own, others⟩ := memberRec_of_set hlen records
  refine ⟨h.rewritten hn records sound (fun hp => ?_) (fun _ => .inl ⟨used, id⟩) fetches lanes, fun hold => ?_⟩
  · rcases listed with ⟨hc, -⟩ | ⟨-, -, room⟩
    · rw [hc] at hp
      cases hp
    · exact room
  · have away (a : Nat) (ha : a ≠ n) : a ∈ s.members.recency.erase n ↔ a ∈ s.members.recency := List.mem_erase_of_ne ha
    have gone : n ∉ s.members.recency.erase n := fun hmem => ((List.Nodup.mem_erase_iff hold.once).mp hmem).1 rfl
    have refsNow : (t.memberRec n).state ≠ .free → (t.memberRec n).refs = (s.holders (t.memberRec n).id).length := fun _ => by
      rw [own, refs, id]
      exact hold.refs n hn used
    rcases listed with ⟨hc, recency⟩ | ⟨hp, recency, -⟩
    · refine hold.record hn others lanes ?_ (fun a ha => ?_) ?_ refsNow (fun _ _ => ?_)
      · rw [recency]
        exact List.nodup_cons.mpr ⟨gone, hold.once.erase n⟩
      · rw [recency, List.mem_cons, or_iff_right ha]
        exact away a ha
      · rw [recency, own]
        exact iff_of_true List.mem_cons_self hc
      · rw [own, hc]
        exact ⟨by decide, id⟩
    · refine hold.record hn others lanes ?_ (fun a ha => ?_) ?_ refsNow (fun _ _ => ?_)
      · rw [recency]
        exact hold.once.erase n
      · rw [recency]
        exact away a ha
      · rw [recency, own, hp]
        exact iff_of_false gone (by decide)
      · rw [own, hp]
        exact ⟨by decide, id⟩

/-- A record that no quote holds filled for an account the books do not know (R73, R86). -/
theorem stored_held {s t : State} {v id tier limit uses : Nat} {st : MemberState} (h : Booked s)
    (victim : s.victim = some v) (unknown : s.memberIndex id = none) (unasked : s.fetchIndex id = none)
    (records : t.members.records = s.members.records.set v (filled st id tier limit uses))
    (listed : st = .cached ∧ t.members.recency = v :: (s.members.recency.erase v).erase v ∨
      st = .pinned ∧ t.members.recency = s.members.recency.erase v ∧ s.pinned < Config.pinLimit)
    (fetches : t.members.fetches = s.members.fetches) (lanes : t.sales.lanes = s.sales.lanes) : QuoteHeld s t := by
  have sound : Member.sound (filled st id tier limit uses) := Nat.min_le_right ..
  have pins : st = .pinned → s.pinned < Config.pinLimit := fun hp => by
    rcases listed with ⟨hc, -⟩ | ⟨-, -, room⟩
    · rw [hc] at hp
      cases hp
    · exact room
  by_cases hv : v < 32
  · have hlen : v < s.members.records.length := h.records.symm ▸ hv
    obtain ⟨own, others⟩ := memberRec_of_set hlen records
    refine ⟨h.rewritten hv records sound (fun hp => .inr (pins hp)) (fun _ => .inr ⟨unknown, unasked⟩) fetches lanes,
      fun hold => ?_⟩
    have unheld : (s.memberRec v).state ≠ .free → (s.memberRec v).refs = 0 := fun used => by
      unfold State.victim at victim
      rcases Option.or_eq_some_iff.mp victim with hfree | ⟨-, hlast⟩
      · exact absurd (by simpa using List.find?_some hfree) used
      · simpa using List.find?_some hlast
    have nobody : (s.holders id).length = 0 := holders_eq_zero.mpr fun l hl hheld =>
      hold.held l id hl (And.left hheld) (And.right hheld) unknown
    have away (a : Nat) (ha : a ≠ v) : a ∈ s.members.recency.erase v ↔ a ∈ s.members.recency := List.mem_erase_of_ne ha
    have gone : v ∉ s.members.recency.erase v := fun hmem => ((List.Nodup.mem_erase_iff hold.once).mp hmem).1 rfl
    have refsNow : (t.memberRec v).state ≠ .free → (t.memberRec v).refs = (s.holders (t.memberRec v).id).length := fun _ => by
      rw [own]
      exact nobody.symm
    have heldNow : (s.memberRec v).state ≠ .free → (s.holders (s.memberRec v).id).length ≠ 0 →
        (t.memberRec v).state ≠ .free ∧ (t.memberRec v).id = (s.memberRec v).id := fun used held =>
      absurd ((hold.refs v hv used).symm.trans (unheld used)) held
    rcases listed with ⟨hc, recency⟩ | ⟨hp, recency, -⟩
    · rw [List.erase_of_not_mem gone] at recency
      refine hold.record hv others lanes ?_ (fun a ha => ?_) ?_ refsNow heldNow
      · rw [recency]
        exact List.nodup_cons.mpr ⟨gone, hold.once.erase v⟩
      · rw [recency, List.mem_cons, or_iff_right ha]
        exact away a ha
      · rw [recency, own]
        exact iff_of_true List.mem_cons_self hc
    · refine hold.record hv others lanes ?_ (fun a ha => ?_) ?_ refsNow heldNow
      · rw [recency]
        exact hold.once.erase v
      · rw [recency]
        exact away a ha
      · rw [recency, own]
        exact iff_of_false gone (by rw [show (filled st id tier limit uses).state = st from rfl, hp]; decide)
  · have same : t.members.records = s.members.records := by
      rw [records, List.set_eq_of_length_le (by rw [h.records]; omega)]
    refine ⟨QuoteSame.booked (s := s.setMembers { s.members with recency := t.members.recency }) ?_ ⟨h.lanes, h.records, h.table,
      h.sound, h.pins, h.accounts, h.fetches, h.absent, h.waits, h.room, h.closed⟩, fun hold => ?_⟩
    · refine ⟨same, rfl, by rw [fetches]; rfl, by rw [lanes]; rfl, fun l _ => ?_⟩
      unfold State.lane
      rw [lanes]
      exact Nat.le_refl _
    · unfold State.victim at victim
      rcases Option.or_eq_some_iff.mp victim with hfree | ⟨-, hlast⟩
      · exact absurd (List.mem_range.mp (List.mem_of_find?_eq_some hfree)) hv
      · have := (hold.listed v).mp (List.mem_reverse.mp (List.mem_of_find?_eq_some hlast))
        exact absurd (And.left this) hv

/-! ## Fetches (R77 to R80) -/

/-- One fetch changed, its account and its waiting lanes within the law. -/
theorem Booked.refetched {s t : State} {n : Nat} (h : Booked s) (hn : n < 4) (records : t.members.records = s.members.records)
    (length : t.members.fetches.length = 4) (lanes : t.sales.lanes = s.sales.lanes)
    (others : ∀ a, a ≠ n → t.fetch a = s.fetch a)
    (account : ∀ id, (t.fetch n).id = some id → (s.fetch n).id = some id ∨ s.memberIndex id = none ∧ s.fetchIndex id = none)
    (waits : ∀ l tier, l < 3 → (t.fetch n).waiting.getD l none = some tier →
      (t.fetch n).id ≠ none ∧ (s.slot l).state = .pending ∧ (s.slot l).member = (t.fetch n).id) : Booked t := by
  have rec_ (a : Nat) : t.memberRec a = s.memberRec a := by unfold State.memberRec; rw [records]
  have lane (l : Nat) : t.lane l = s.lane l := by unfold State.lane; rw [lanes]
  have slot (l : Nat) : t.slot l = s.slot l := congrArg LaneSales.slot (lane l)
  have index (id : Nat) : t.memberIndex id = s.memberIndex id := by unfold State.memberIndex; simp only [rec_]
  have apart (a id : Nat) (ha : a < 4) (hne : a ≠ n) (hid : (s.fetch a).id = some id) : (t.fetch n).id ≠ some id := fun hown => by
    rcases account id hown with same | ⟨-, unasked⟩
    · exact hne (h.fetches a n id ha hn hid same)
    · exact fetchIndex_none_iff.mp unasked a ha hid
  refine { lanes := lanes ▸ h.lanes, records := records ▸ h.records, table := length, sound := fun a ha => ?_, pins := ?_,
           accounts := fun a b ha hb => ?_, fetches := fun a b id ha hb hida hidb => ?_, absent := fun a id ha hid => ?_,
           waits := fun a l tier ha hl hw => ?_, room := fun l hl => ?_, closed := fun l hl => ?_ }
  · rw [rec_]
    exact h.sound a ha
  · rw [State.pinned, records]
    exact h.pins
  · rw [rec_, rec_]
    exact h.accounts a b ha hb
  · by_cases han : a = n <;> by_cases hbn : b = n
    · exact han.trans hbn.symm
    · subst han
      rw [others b hbn] at hidb
      exact absurd hida (apart b id hb hbn hidb)
    · subst hbn
      rw [others a han] at hida
      exact absurd hidb (apart a id ha han hida)
    · rw [others a han] at hida
      rw [others b hbn] at hidb
      exact h.fetches a b id ha hb hida hidb
  · rw [index]
    by_cases han : a = n
    · subst han
      rcases account id hid with same | ⟨unknown, -⟩
      · exact h.absent a id ha same
      · exact unknown
    · rw [others a han] at hid
      exact h.absent a id ha hid
  · rw [slot]
    by_cases han : a = n
    · subst han
      exact waits l tier hl hw
    · rw [others a han] at hw ⊢
      exact h.waits a l tier ha hl hw
  · rw [slot, lane]
    exact h.room l hl
  · rw [slot, lane]
    exact h.closed l hl

/-- Nothing of the recency list, the records or the slots changed. -/
theorem HoldLaw.congr {s t : State} (h : HoldLaw s) (records : t.members.records = s.members.records)
    (recency : t.members.recency = s.members.recency)
    (slots : ∀ l, (t.slot l).state = (s.slot l).state ∧ (t.slot l).member = (s.slot l).member) : HoldLaw t := by
  have rec_ (a : Nat) : t.memberRec a = s.memberRec a := by unfold State.memberRec; rw [records]
  have index (id : Nat) : t.memberIndex id = s.memberIndex id := by unfold State.memberIndex; simp only [rec_]
  refine ⟨recency ▸ h.once, fun n => ?_, fun n hn => ?_, fun l id hl => ?_⟩
  · rw [recency, rec_]
    exact h.listed n
  · rw [rec_, holders_congr slots]
    exact h.refs n hn
  · rw [(slots l).1, (slots l).2, index]
    exact h.held l id hl

/-- A fetch given up or answered: nobody waits for it. -/
theorem setFetch_blank_kept (s : State) (n : Nat) : QuoteKept s (s.setFetch n .blank) := by
  refine ⟨fun h => ⟨?_, fun hold => hold.congr rfl rfl fun _ => ⟨rfl, rfl⟩⟩⟩
  by_cases hn : n < 4
  · have own : (s.setFetch n .blank).fetch n = .blank := fetch_setFetch _ (h.table.symm ▸ hn)
    refine h.refetched hn rfl (List.length_set.trans h.table) rfl (fun a ha => fetch_setFetch_ne s _ ha) (fun id hid => ?_)
      (fun l tier hl hw => ?_)
    · rw [own] at hid
      cases hid
    · rw [own, show Fetch.blank.waiting = List.replicate 3 none from rfl, getD_replicate _ hl] at hw
      cases hw
  · have same : (s.setFetch n .blank).members.fetches = s.members.fetches :=
      List.set_eq_of_length_le (by rw [h.table]; omega)
    exact QuoteSame.booked (s := s) ⟨rfl, rfl, by rw [same], rfl, fun _ _ => Nat.le_refl _⟩ h

/-- The lanes that wait for a fetch are PENDING, so a lane that is not waits for none. -/
theorem Booked.nobody_waits {s : State} (h : Booked s) {l : Nat} (hl : l < 3) (idle : (s.slot l).state ≠ .pending) :
    ∀ a, a < 4 → (s.fetch a).waiting.getD l none = none := fun a ha => by
  cases hw : (s.fetch a).waiting.getD l none with
  | none => rfl
  | some tier =>
    obtain ⟨-, pending, -⟩ := h.waits a l tier ha hl hw
    exact absurd pending idle

/-- A lane out of its fetch's waiting set waits for no fetch (R80). -/
theorem leaveFetch_left {s : State} (h : Booked s) {l : Nat} (hl : l < 3) :
    Booked (s.leaveFetch l (s.slot l).member) ∧
      ∀ a, a < 4 → ((s.leaveFetch l (s.slot l).member).fetch a).waiting.getD l none = none := by
  unfold State.leaveFetch
  split
  next n hf =>
    obtain ⟨id, member, hf⟩ := Option.bind_eq_some_iff.mp hf
    obtain ⟨hn, hid⟩ := fetchIndex_some hf
    have own : (s.setFetch n { s.fetch n with waiting := (s.fetch n).waiting.set l none }).fetch n =
        { s.fetch n with waiting := (s.fetch n).waiting.set l none } := fetch_setFetch _ (h.table.symm ▸ hn)
    have others (a : Nat) (ha : a ≠ n) := fetch_setFetch_ne s { s.fetch n with waiting := (s.fetch n).waiting.set l none } ha
    have cleared : ((s.fetch n).waiting.set l none).getD l none = none := by
      by_cases hlen : l < (s.fetch n).waiting.length
      · exact getD_set_eq _ _ _ _ hlen
      · exact getD_of_le _ _ (by rw [List.length_set]; omega)
    refine ⟨h.refetched hn rfl (List.length_set.trans h.table) rfl others (fun id' hid' => .inl ?_) (fun k tier hk hw => ?_),
      fun a ha => ?_⟩
    · rw [own] at hid'
      exact hid'
    · rw [own] at hw ⊢
      by_cases hkl : k = l
      · subst hkl
        rw [cleared] at hw
        cases hw
      · rw [getD_set_ne _ _ _ _ _ hkl] at hw
        exact h.waits n k tier hn hk hw
    · by_cases han : a = n
      · subst han
        rw [own]
        exact cleared
      · rw [others a han]
        cases hw : (s.fetch a).waiting.getD l none with
        | none => rfl
        | some tier =>
          obtain ⟨-, -, same⟩ := h.waits a l tier ha hl hw
          exact absurd (h.fetches a n id ha hn (same.symm.trans member) hid) han
  next hnone =>
    refine ⟨h, fun a ha => ?_⟩
    cases hw : (s.fetch a).waiting.getD l none with
    | none => rfl
    | some tier =>
      obtain ⟨some_, -, same⟩ := h.waits a l tier ha hl hw
      obtain ⟨id, hid⟩ := Option.ne_none_iff_exists'.mp some_
      rw [same, hid, Option.bind_some] at hnone
      exact absurd hid (fetchIndex_none_iff.mp hnone a ha)

/-! ## A slot emptied (R55, R56) -/

theorem emptySlot_state {s : State} {l : Nat} (h : l < s.sales.lanes.length) : ((s.emptySlot l).slot l).state = .empty := by
  unfold State.slot
  rw [emptySlot_lane h]

theorem emptySlot_slot_ne (s : State) {l k : Nat} (h : k ≠ l) : (s.emptySlot l).slot k = s.slot k :=
  congrArg LaneSales.slot (lane_setLane_ne s _ h)

/-- An empty slot offers no quote of an account. -/
theorem holds_of_ne {q : Slot} (h : q.state ≠ .offered) (id : Nat) : q.holds id = false :=
  Bool.eq_false_iff.mpr fun hh => h (Slot.holds_iff.mp hh).1

/-- A slot emptied that nobody waits in. -/
theorem emptySlot_booked {s : State} (h : Booked s) {l : Nat} (hl : l < 3)
    (free : ∀ a, a < 4 → (s.fetch a).waiting.getD l none = none) : Booked (s.emptySlot l) := by
  have hlen : l < s.sales.lanes.length := h.lanes.symm ▸ hl
  have state := emptySlot_state hlen
  refine h.slotted rfl (List.length_set.trans h.lanes) (fun k hk => lane_setLane_ne s _ hk) (fun a tier ha hw => ?_) ?_
    (fun _ => state)
  · rw [free a ha] at hw
    cases hw
  · rw [held_congr (q := Slot.blank) (state.trans rfl), emptySlot_lane hlen]
    exact Nat.le_trans (Nat.le_add_right ..) (h.room l hl)

/-- A slot emptied that offers no quote of an account. -/
theorem HoldLaw.emptySlot {s : State} (hold : HoldLaw s) {l : Nat} (hl : l < 3) (length : s.sales.lanes.length = 3)
    (unheld : ∀ id, (s.slot l).holds id = false) : HoldLaw (s.emptySlot l) := by
  have state := emptySlot_state (s := s) (l := l) (by rw [length]; exact hl)
  refine hold.slotted hl rfl (fun _ => ⟨rfl, rfl⟩) (fun k hk => emptySlot_slot_ne s hk) (fun n _ _ => ?_) (fun id offered => ?_)
  · rw [unheld, holds_of_ne (by rw [state]; decide)]
    rfl
  · rw [state] at offered
    cases offered

theorem emptySlot_held {s : State} (h : Booked s) {l : Nat} (hl : l < 3)
    (free : ∀ a, a < 4 → (s.fetch a).waiting.getD l none = none) (unheld : ∀ id, (s.slot l).holds id = false) :
    QuoteHeld s (s.emptySlot l) := ⟨emptySlot_booked h hl free, fun hold => hold.emptySlot hl h.lanes unheld⟩

theorem modMember_some {s : State} {id n : Nat} (g : Member → Member) (h : s.memberIndex id = some n) :
    s.modMember id g = s.setMember n (g (s.memberRec n)) := by
  unfold State.modMember
  rw [h]

theorem modMember_none {s : State} {id : Nat} (g : Member → Member) (h : s.memberIndex id = none) : s.modMember id g = s := by
  unfold State.modMember
  rw [h]

/-- The books do not read the references. -/
theorem releaseRef_booked {s : State} (h : Booked s) (m : Option Nat) : Booked (s.releaseRef m) := by
  cases m with
  | none => exact h
  | some id =>
    cases hf : s.memberIndex id with
    | none =>
      unfold State.releaseRef
      dsimp only
      rw [modMember_none _ hf]
      exact h
    | some n =>
      obtain ⟨hn, used, -⟩ := memberIndex_some hf
      unfold State.releaseRef
      dsimp only
      rw [modMember_some _ hf]
      exact h.rewritten hn rfl (h.sound n hn) .inl (fun _ => .inl ⟨used, rfl⟩) rfl rfl

/-- An OFFERED slot emptied with the reference it held released (R56, R75). -/
theorem released_held {s : State} (h : Booked s) {l : Nat} (hl : l < 3) (offered : (s.slot l).state = .offered) :
    QuoteHeld s ((s.releaseRef (s.slot l).member).emptySlot l) := by
  have free := h.nobody_waits hl (by rw [offered]; decide)
  have lanes : (s.releaseRef (s.slot l).member).sales = s.sales := (releaseRef_frame ..).same .sales (by decide)
  have fetches (a : Nat) : (s.releaseRef (s.slot l).member).fetch a = s.fetch a := by
    unfold State.releaseRef
    split
    · unfold State.modMember
      split <;> rfl
    · rfl
  refine ⟨emptySlot_booked (releaseRef_booked h _) hl fun a ha => by rw [fetches]; exact free a ha, fun hold => ?_⟩
  cases member : (s.slot l).member with
  | none =>
    refine hold.emptySlot hl h.lanes fun id => Bool.eq_false_iff.mpr fun hh => ?_
    rw [Slot.holds_iff, member] at hh
    cases And.right hh
  | some id =>
    obtain ⟨n, hf⟩ := Option.ne_none_iff_exists'.mp (hold.held l id hl offered member)
    obtain ⟨hn, used, hid⟩ := memberIndex_some hf
    have hlen : n < s.members.records.length := h.records.symm ▸ hn
    unfold State.releaseRef
    dsimp only
    rw [modMember_some _ hf]
    obtain ⟨own, others⟩ := memberRec_of_set (t := (s.setMember n { s.memberRec n with refs := (s.memberRec n).refs - 1 }).emptySlot l)
      hlen rfl
    have state := emptySlot_state (s := s.setMember n { s.memberRec n with refs := (s.memberRec n).refs - 1 }) (l := l)
      (by rw [show (s.setMember n _).sales = s.sales from rfl, h.lanes]; exact hl)
    have holds : (s.slot l).holds id = true := Slot.holds_iff.mpr ⟨offered, member⟩
    refine hold.slotted hl rfl (fun a => ?_) (fun k hk => emptySlot_slot_ne _ hk) (fun a ha used' => ?_) (fun id offered => ?_)
    · by_cases han : a = n
      · subst han
        rw [own]
        exact ⟨rfl, rfl⟩
      · rw [others a han]
        exact ⟨rfl, rfl⟩
    · rw [holds_of_ne (q := ((s.setMember n _).emptySlot l).slot l) (by rw [state]; decide)]
      by_cases han : a = n
      · subst han
        have count := hold.refs a ha used
        have some_ : 0 < (s.holders (s.memberRec a).id).length := Nat.pos_of_ne_zero fun hzero =>
          holders_eq_zero.mp hzero l hl ⟨offered, by rw [member, hid]⟩
        rw [own, hid, holds]
        show (s.memberRec a).refs - 1 + 1 = (s.memberRec a).refs + 0
        omega
      · have apart : (s.memberRec a).id ≠ id := fun heq => han (h.accounts a n ha hn used' used (heq.trans hid.symm))
        rw [others a han, Bool.eq_false_iff.mpr fun hh => apart (Option.some.inj
          ((Slot.holds_iff.mp hh).2.symm.trans member))]
    · rw [state] at offered
      cases offered

/-- A held quote given up and its slot emptied (R56). -/
theorem vacated_held {s : State} (h : Booked s) {l : Nat} (hl : l < 3) (held : Slot.held (s.slot l) = true) :
    QuoteHeld s ((s.letGo l).emptySlot l) := by
  unfold State.letGo
  cases state : (s.slot l).state with
  | offered => exact released_held h hl state
  | pending =>
    obtain ⟨left, free⟩ := leaveFetch_left h hl
    have same : QuoteHeld s (s.leaveFetch l (s.slot l).member) := by
      refine ⟨left, fun hold => ?_⟩
      unfold State.leaveFetch
      split
      · exact hold.congr rfl rfl fun _ => ⟨rfl, rfl⟩
      · exact hold
    have slot : (s.leaveFetch l (s.slot l).member).slot l = s.slot l := by
      unfold State.slot State.lane
      rw [(leaveFetch_frame ..).same .sales (by decide)]
    exact same.trans (emptySlot_held left hl free fun id => holds_of_ne (by rw [slot, state]; decide) id)
  | empty =>
    unfold Slot.held at held
    rw [state] at held
    cases held

/-- A lane beyond the three holds no quote. -/
theorem slot_beyond {s : State} (h : s.sales.lanes.length = 3) {l : Nat} (hl : ¬l < 3) : s.slot l = .blank := by
  have : s.lane l = .blank := getD_of_le _ _ (by rw [h]; omega)
  exact congrArg LaneSales.slot this

theorem quoteReply_quoteSame (s : State) (l : Nat) (r : Reply) (k : Option Nat) (n : Nat) :
    QuoteSame s (s.quoteReply l r k n) := (quoteReply_frame ..).quoteSame

theorem voidQuote_quoteKept (s : State) (l : Nat) (r : Option Reply) : QuoteKept s (s.voidQuote l r) := by
  refine ⟨fun h => ?_⟩
  unfold State.voidQuote
  split
  next held =>
    have hl : l < 3 := by
      refine Classical.byContradiction fun hnot => ?_
      rw [slot_beyond h.lanes hnot] at held
      cases held
    have vacated := vacated_held h hl held
    cases r with
    | none => exact vacated
    | some r => exact (quoteReply_quoteSame ..).kept.after vacated
  next => exact QuoteKept.refl.held h

end Sys2Proof.Machine
end

section
/-!
Quotes offered, pended and resolved, accounts loaded and paid from (R53 to R59, R76 to R93), with what each keeps of the laws.
-/
namespace Sys2Proof.Machine

-- Proofs in order: a thread that waits for another proof counts against the check's memory limit.
set_option Elab.async false

/-! ## A slot filled (R54, R55, R82) -/

/-- A lane's slot filled: the lane OPEN, its queue as it was with room for the quote. -/
structure Filled (s t : State) (l : Nat) : Prop where
  lane : l < 3
  length : t.sales.lanes.length = s.sales.lanes.length
  others : ∀ k, k ≠ l → t.lane k = s.lane k
  isOpen : (t.lane l).isOpen = true
  room : (t.lane l).queue.length + 1 ≤ Config.laneSize

theorem Filled.booked {s t : State} {l : Nat} (f : Filled s t l) (h : Booked s) (members : t.members = s.members)
    (free : ∀ a, a < 4 → (s.fetch a).waiting.getD l none = none) : Booked t := by
  refine h.slotted members (f.length.trans h.lanes) f.others (fun a tier ha hw => ?_) ?_ (fun closed => ?_)
  · rw [free a ha] at hw
    cases hw
  · exact Nat.le_trans (Nat.add_le_add_left (Bool.toNat_le _) _) f.room
  · rw [f.isOpen] at closed
    cases closed

theorem Filled.slot_ne {s t : State} {l : Nat} (f : Filled s t l) (k : Nat) (hk : k ≠ l) : t.slot k = s.slot k :=
  congrArg LaneSales.slot (f.others k hk)

/-- A slot that offered no quote of an account and offers none: a quote without a member, or a PENDING one. -/
theorem Filled.unheld {s t : State} {l : Nat} (f : Filled s t l) (h : Booked s) (members : t.members = s.members)
    (free : ∀ a, a < 4 → (s.fetch a).waiting.getD l none = none) (before : (s.slot l).state ≠ .offered)
    (after : (t.slot l).state ≠ .offered ∨ (t.slot l).member = none) : QuoteHeld s t := by
  have none_ (id : Nat) : ¬((t.slot l).state = .offered ∧ (t.slot l).member = some id) := fun ⟨offered, member⟩ => by
    rcases after with h | h
    · exact h offered
    · rw [h] at member
      cases member
  refine ⟨f.booked h members free, fun hold => hold.slotted f.lane (by rw [members]) (fun n => ?_) f.slot_ne (fun n _ _ => ?_)
    (fun id offered member => absurd ⟨offered, member⟩ (none_ id))⟩
  · unfold State.memberRec
    rw [members]
    exact ⟨rfl, rfl⟩
  · rw [holds_of_ne before, Bool.eq_false_iff.mpr fun hh => none_ _ (Slot.holds_iff.mp hh)]
    unfold State.memberRec
    rw [members]

/-- One more reference to an account (R75). -/
def Member.referred (m : Member) : Member := { m with refs := m.refs + 1 }

/-- A slot comes to offer a quote of an account, the account's record referred to once more. -/
theorem Filled.offered {s t : State} {l n : Nat} (f : Filled s t l) (h : Booked s) (hn : n < 32)
    (used : (s.memberRec n).state ≠ .free) (members : t.members = (s.setMember n (s.memberRec n).referred).members)
    (free : ∀ a, a < 4 → (s.fetch a).waiting.getD l none = none) (before : (s.slot l).state ≠ .offered)
    (state : (t.slot l).state = .offered) (member : (t.slot l).member = some (s.memberRec n).id) : QuoteHeld s t := by
  have hlen : n < s.members.records.length := h.records.symm ▸ hn
  have referred : Booked (s.setMember n (s.memberRec n).referred) :=
    h.rewritten hn rfl (h.sound n hn) .inl (fun _ => .inl ⟨used, rfl⟩) rfl rfl
  have again : Filled (s.setMember n (s.memberRec n).referred) t l := ⟨f.lane, f.length, f.others, f.isOpen, f.room⟩
  obtain ⟨own, others⟩ := memberRec_of_set (t := t) (m := (s.memberRec n).referred) hlen (by rw [members]; rfl)
  refine ⟨again.booked referred members free, fun hold => hold.slotted f.lane (by rw [members]; rfl) (fun a => ?_) f.slot_ne
    (fun a ha used' => ?_) (fun id _ hid => ?_)⟩
  · by_cases han : a = n
    · subst han
      rw [own]
      exact ⟨rfl, rfl⟩
    · rw [others a han]
      exact ⟨rfl, rfl⟩
  · rw [holds_of_ne before]
    by_cases han : a = n
    · subst han
      rw [own, Slot.holds_iff.mpr ⟨state, member⟩]
      rfl
    · have apart : ¬(t.slot l).holds (s.memberRec a).id = true := fun hh =>
        han (h.accounts a n ha hn used' used (Option.some.inj ((Slot.holds_iff.mp hh).2.symm.trans member)))
      rw [others a han, Bool.eq_false_iff.mpr apart]
  · rw [member] at hid
    rw [← Option.some.inj hid, h.memberIndex_eq hn used]
    exact Option.some_ne_none n

/-! ### The slot's writers -/

theorem setSlot_filled {s : State} {l : Nat} (hl : l < s.sales.lanes.length) (hl3 : l < 3) (q : Slot)
    (isOpen : (s.lane l).isOpen = true) (room : (s.lane l).queue.length + 1 ≤ Config.laneSize) :
    Filled s (s.setSlot l q) l ∧ (s.setSlot l q).slot l = q := by
  have own : (s.setSlot l q).lane l = { s.lane l with slot := q } := lane_setLane _ hl
  refine ⟨⟨hl3, List.length_set, fun k hk => lane_setLane_ne s _ hk, by rw [own]; exact isOpen, by rw [own]; exact room⟩, ?_⟩
  unfold State.slot
  rw [own]

/-- What the quote's reply leaves of the lanes and the accounts. -/
theorem Filled.reply {s t : State} {l : Nat} (f : Filled s t l) (k : Nat) (r : Reply) (token : Option Nat) (price : Nat) :
    Filled s (t.quoteReply k r token price) l ∧ (t.quoteReply k r token price).slot l = t.slot l ∧
      (t.quoteReply k r token price).members = t.members := by
  have sales : (t.quoteReply k r token price).sales = t.sales := (quoteReply_frame ..).same .sales (by decide)
  have lane (j : Nat) : (t.quoteReply k r token price).lane j = t.lane j := by unfold State.lane; rw [sales]
  refine ⟨⟨f.lane, by rw [sales]; exact f.length, fun j hj => (lane j).trans (f.others j hj), by rw [lane]; exact f.isOpen,
    by rw [lane]; exact f.room⟩, congrArg LaneSales.slot (lane l), (quoteReply_frame ..).same .members (by decide)⟩

/-- An offer made in a slot (R54, R82). -/
theorem offerSlot_filled {s : State} {l : Nat} (hl : l < s.sales.lanes.length) (hl3 : l < 3)
    (isOpen : (s.lane l).isOpen = true) (room : (s.lane l).queue.length + 1 ≤ Config.laneSize) :
    Filled s (s.offerSlot l) l ∧ ((s.offerSlot l).slot l).state = .offered ∧
      ((s.offerSlot l).slot l).member = (s.slot l).member ∧ (s.offerSlot l).members = s.members := by
  obtain ⟨filled, slot⟩ := setSlot_filled hl hl3 { s.slot l with state := .offered, life := loaded (s.param .quoteLife) } isOpen room
  obtain ⟨sent, same, members⟩ := filled.reply l .offered
    (some ((s.setSlot l { s.slot l with state := .offered, life := loaded (s.param .quoteLife) }).slot l).token)
    ((s.setSlot l { s.slot l with state := .offered, life := loaded (s.param .quoteLife) }).slot l).price
  unfold State.offerSlot
  refine ⟨sent, ?_, ?_, members.trans rfl⟩
  · rw [same, slot]
  · rw [same, slot]

/-- A quote left PENDING in a slot (R55). -/
theorem pendSlot_filled {s : State} {l : Nat} (hl : l < s.sales.lanes.length) (hl3 : l < 3)
    (isOpen : (s.lane l).isOpen = true) (room : (s.lane l).queue.length + 1 ≤ Config.laneSize) :
    Filled s (s.pendSlot l) l ∧ ((s.pendSlot l).slot l).state = .pending ∧
      ((s.pendSlot l).slot l).member = (s.slot l).member ∧ (s.pendSlot l).members = s.members := by
  obtain ⟨filled, slot⟩ := setSlot_filled hl hl3 { s.slot l with state := .pending } isOpen room
  obtain ⟨sent, same, members⟩ := filled.reply l .pending (some ((s.setSlot l { s.slot l with state := .pending }).slot l).token) 0
  unfold State.pendSlot
  refine ⟨sent, ?_, ?_, members.trans rfl⟩
  · rw [same, slot]
  · rw [same, slot]

/-- The quote's fields written into the slot (R52). -/
theorem fillSlot_lane {s : State} {l : Nat} (hl : l < s.sales.lanes.length) (plan : Nat) (a : ServiceSet) (price : Nat)
    (m : Option Nat) : ((s.fillSlot l plan a price m).lane l).isOpen = (s.lane l).isOpen ∧
      ((s.fillSlot l plan a price m).lane l).queue = (s.lane l).queue ∧
      ((s.fillSlot l plan a price m).slot l).member = m := by
  have own := lane_setLane (s := s) (l := l) { s.lane l with
    token := ((s.lane l).token + 1) % 256,
    slot := { s.slot l with token := ((s.lane l).token + 1) % 256, plan := plan, addons := a, price := price, member := m } } hl
  have read : (s.fillSlot l plan a price m).lane l = _ := own
  unfold State.slot
  rw [read]
  exact ⟨rfl, rfl, rfl⟩

theorem Filled.before {s u t : State} {l : Nat} (f : Filled u t l) (length : u.sales.lanes.length = s.sales.lanes.length)
    (others : ∀ k, k ≠ l → u.lane k = s.lane k) : Filled s t l :=
  ⟨f.lane, f.length.trans length, fun k hk => (f.others k hk).trans (others k hk), f.isOpen, f.room⟩

/-! ## Lookups (R76, R77) -/

theorem toFront_kept {s : State} {n : Nat} (cached : (s.memberRec n).state = .cached) : QuoteKept s (s.toFront n) := by
  refine ⟨fun h => ?_⟩
  by_cases hn : n < 32
  · have hlen : n < s.members.records.length := h.records.symm ▸ hn
    have same : s.members.records = s.members.records.set n (s.memberRec n) := by
      unfold State.memberRec
      rw [getD_of_lt _ _ hlen, List.set_getElem_self]
    exact relisted_held h hn (by rw [cached]; decide) same (h.sound n hn) rfl rfl (.inl ⟨cached, rfl⟩) rfl rfl
  · have blank : s.memberRec n = .blank := getD_of_le _ _ (by rw [h.records]; omega)
    rw [blank] at cached
    cases cached

/-- A lane ready for a quote: OPEN, its slot EMPTY, with room. -/
structure Ready (s : State) (l : Nat) : Prop where
  lane : l < 3
  isOpen : (s.lane l).isOpen = true
  room : (s.lane l).queue.length + 1 ≤ Config.laneSize
  empty : (s.slot l).state = .empty

theorem Ready.of_sales {s t : State} {l : Nat} (h : Ready s l) (sales : t.sales = s.sales) : Ready t l := by
  have lane : t.lane l = s.lane l := by unfold State.lane; rw [sales]
  exact ⟨h.lane, by rw [lane]; exact h.isOpen, by rw [lane]; exact h.room, by rw [State.slot, lane]; exact h.empty⟩

/-- The quote of a found account offered (R55, R76). -/
theorem accepted_held {s u : State} {l n : Nat} (h : Booked s) (ready : Ready s l) (hn : n < 32)
    (used : (s.memberRec n).state ≠ .free) (sales : u.sales = s.sales)
    (members : u.members = (s.setMember n (s.memberRec n).referred).members) (plan : Nat) (a : ServiceSet) (price : Nat) :
    QuoteHeld s ((u.fillSlot l plan a price (some (s.memberRec n).id)).offerSlot l) := by
  have hl : l < u.sales.lanes.length := by rw [sales, h.lanes]; exact ready.lane
  have readyNow := ready.of_sales sales
  obtain ⟨isOpen, queue, member⟩ := fillSlot_lane hl plan a price (some (s.memberRec n).id)
  obtain ⟨filled, state, member', members'⟩ := offerSlot_filled (s := u.fillSlot l plan a price (some (s.memberRec n).id)) (l := l)
    (by rw [show (u.fillSlot l plan a price _).sales.lanes.length = _ from List.length_set]; exact hl) ready.lane
    (isOpen.trans readyNow.isOpen) (by rw [queue]; exact readyNow.room)
  have lanes (k : Nat) : u.lane k = s.lane k := by unfold State.lane; rw [sales]
  refine (filled.before (s := s) ?_ fun k hk => ?_).offered h hn used (members'.trans members)
    (h.nobody_waits ready.lane (by rw [ready.empty]; decide)) (by rw [ready.empty]; decide) state (member'.trans member)
  · rw [← sales]
    exact List.length_set
  · rw [← lanes]
    exact lane_setLane_ne u _ hk

/-- A quote without an account offered (R54). -/
theorem cash_held {s : State} {l : Nat} (h : Booked s) (ready : Ready s l) (plan : Nat) (a : ServiceSet) (price : Nat) :
    QuoteHeld s ((s.fillSlot l plan a price none).offerSlot l) := by
  have hl : l < s.sales.lanes.length := by rw [h.lanes]; exact ready.lane
  obtain ⟨isOpen, queue, member⟩ := fillSlot_lane hl plan a price none
  obtain ⟨filled, -, member', members⟩ := offerSlot_filled (s := s.fillSlot l plan a price none) (l := l)
    (by rw [show (s.fillSlot l plan a price _).sales.lanes.length = _ from List.length_set]; exact hl) ready.lane
    (isOpen.trans ready.isOpen) (by rw [queue]; exact ready.room)
  exact (filled.before (s := s) List.length_set fun k hk => lane_setLane_ne s _ hk).unheld h members
    (h.nobody_waits ready.lane (by rw [ready.empty]; decide)) (by rw [ready.empty]; decide) (.inr (member'.trans member))

/-- A quote left PENDING with its lane in the waiting set of the account's fetch (R55, R77, R78). -/
theorem pended_held {s u : State} {l n id : Nat} {f : Fetch} (h : Booked s) (ready : Ready s l) (hn : n < 4)
    (unknown : s.memberIndex id = none) (account : f.id = some id)
    (before : (s.fetch n).id = some id ∨ s.fetchIndex id = none)
    (waiting : ∀ k, k ≠ l → ∀ tier, f.waiting.getD k none = some tier →
      (s.fetch n).id = some id ∧ (s.fetch n).waiting.getD k none = some tier)
    (sales : u.sales = s.sales) (members : u.members = (s.setFetch n f).members) (plan : Nat) (a : ServiceSet) (price : Nat) :
    QuoteHeld s ((u.fillSlot l plan a price (some id)).pendSlot l) := by
  have hl : l < u.sales.lanes.length := by rw [sales, h.lanes]; exact ready.lane
  have readyNow := ready.of_sales sales
  obtain ⟨isOpen, queue, member⟩ := fillSlot_lane hl plan a price (some id)
  obtain ⟨filled, state, member', members'⟩ := pendSlot_filled (s := u.fillSlot l plan a price (some id)) (l := l)
    (by rw [show (u.fillSlot l plan a price _).sales.lanes.length = _ from List.length_set]; exact hl) ready.lane
    (isOpen.trans readyNow.isOpen) (by rw [queue]; exact readyNow.room)
  have lanes (k : Nat) : u.lane k = s.lane k := by unfold State.lane; rw [sales]
  generalize hw : (u.fillSlot l plan a price (some id)).pendSlot l = w at filled state member' members' ⊢
  have pended : Filled s (s.setSales w.sales) l := by
    obtain ⟨lane, length, others, isOpen, room⟩ := filled.before (s := s) (by rw [← sales]; exact List.length_set)
      fun k hk => by rw [← lanes]; exact lane_setLane_ne u _ hk
    exact ⟨lane, length, others, isOpen, room⟩
  have first : QuoteHeld s (s.setSales w.sales) := pended.unheld h rfl
    (h.nobody_waits ready.lane (by rw [ready.empty]; decide)) (by rw [ready.empty]; decide) (.inl (by
      rw [show (s.setSales w.sales).slot l = w.slot l from rfl, state]
      decide))
  have membersNow : w.members = (s.setFetch n f).members := members'.trans members
  have records : w.members.records = s.members.records := by rw [membersNow]; rfl
  have own : w.fetch n = f := by
    unfold State.fetch
    rw [membersNow]
    exact fetch_setFetch f (h.table.symm ▸ hn)
  refine first.trans ⟨first.booked.refetched hn records ?_ rfl (fun a ha => ?_) (fun id' hid' => ?_) (fun k tier hk hwait => ?_),
    fun hold => hold.congr records (by rw [membersNow]; rfl) fun _ => ⟨rfl, rfl⟩⟩
  · rw [membersNow]
    exact List.length_set.trans h.table
  · unfold State.fetch
    rw [membersNow]
    exact fetch_setFetch_ne s f ha
  · rw [own, account] at hid'
    obtain rfl := Option.some.inj hid'
    exact before.imp (fun asked => asked) fun unasked => ⟨unknown, unasked⟩
  · rw [own] at hwait ⊢
    refine ⟨by rw [account]; exact Option.some_ne_none id, ?_⟩
    by_cases hkl : k = l
    · subst hkl
      exact ⟨state, (member'.trans member).trans account.symm⟩
    · obtain ⟨asked, was⟩ := waiting k hkl tier hwait
      obtain ⟨-, pending, same⟩ := h.waits n k tier hn hk was
      have slot : (s.setSales w.sales).slot k = s.slot k := pended.slot_ne k hkl
      rw [slot, account, ← asked]
      exact ⟨pending, same⟩

/-- What a QUOTE makes of the Member Cache's answer (R55). -/
def quoteAnswered (answer : State × LookupAnswer) (l plan : Nat) (a : ServiceSet) (price id : Nat) : State :=
  match answer.2 with
  | .accepted => (answer.1.fillSlot l plan a price (some id)).offerSlot l
  | .waiting => (answer.1.fillSlot l plan a price (some id)).pendSlot l
  | .refused r => answer.1.quoteReply l r none 0

theorem quoteMember_eq (s : State) (l plan : Nat) (a : ServiceSet) (id : Nat) : s.quoteMember l plan a id =
    if 65535 < s.addonPrice a then s.quoteReply l .priceLimit none 0
    else quoteAnswered (s.lookup l id (s.plan plan).tier) l plan a (s.addonPrice a) id := rfl

/-- The recency list after a lookup found an account (R76). -/
def State.found (s : State) (n : Nat) : State := if (s.memberRec n).state = .cached then s.toFront n else s

theorem found_quoteKept (s : State) (n : Nat) : QuoteKept s (s.found n) := by
  unfold State.found
  split
  next cached => exact toFront_kept cached
  next => exact .refl

theorem found_sales (s : State) (n : Nat) : (s.found n).sales = s.sales := by
  unfold State.found
  split <;> rfl

theorem found_memberRec (s : State) (n m : Nat) : (s.found n).memberRec m = s.memberRec m := by
  unfold State.found
  split <;> rfl

theorem lookupHit_refused {s : State} {n tier : Nat} {r : Reply} (h : memberRefusal (s.memberRec n) tier = some r) :
    s.lookupHit n tier = (s.found n, .refused r) := by
  unfold State.lookupHit State.found
  rw [h]

theorem lookupHit_accepted {s : State} {n tier : Nat} (h : memberRefusal (s.memberRec n) tier = none) :
    s.lookupHit n tier = ((s.found n).setMember n (s.memberRec n).referred, .accepted) := by
  unfold State.lookupHit State.found
  rw [h]
  rfl

theorem lookupHit_quoteHeld {s : State} {l n : Nat} (h : Booked s) (ready : Ready s l) (hn : n < 32)
    (used : (s.memberRec n).state ≠ .free) (tier plan : Nat) (a : ServiceSet) (price : Nat) :
    QuoteHeld s (quoteAnswered (s.lookupHit n tier) l plan a price (s.memberRec n).id) := by
  have front := (found_quoteKept s n).held h
  cases refusal : memberRefusal (s.memberRec n) tier with
  | some r =>
    rw [lookupHit_refused refusal]
    exact (quoteReply_quoteSame ..).kept.after front
  | none =>
    have accepted := accepted_held (u := (s.found n).setMember n ((s.found n).memberRec n).referred) front.booked
      (ready.of_sales (found_sales s n)) hn (by rw [found_memberRec]; exact used) rfl rfl plan a price
    rw [lookupHit_accepted refusal]
    rw [found_memberRec] at accepted
    exact front.trans accepted

theorem lookupMiss_silent {s : State} (h : (s.node 0).silent = true) (l id tier : Nat) :
    s.lookupMiss l id tier = (s, .refused .memberUnavailable) := if_pos h

theorem lookupMiss_joined {s : State} {n id : Nat} (h : ¬(s.node 0).silent = true) (asked : s.fetchIndex id = some n) (l tier : Nat) :
    s.lookupMiss l id tier =
      (s.setFetch n { s.fetch n with waiting := (s.fetch n).waiting.set l (some tier) }, .waiting) := by
  unfold State.lookupMiss
  rw [if_neg h, asked]

theorem lookupMiss_busy {s : State} {id : Nat} (h : ¬(s.node 0).silent = true) (asked : s.fetchIndex id = none)
    (room : s.freeFetch = none) (l tier : Nat) : s.lookupMiss l id tier = (s, .refused .memberBusy) := by
  unfold State.lookupMiss
  rw [if_neg h, asked, room]

/-- The fetch that a lookup starts (R77). -/
def State.newFetch (s : State) (l id tier : Nat) : Fetch where
  id := some id
  waiting := (List.replicate 3 none).set l (some tier)
  timer := loaded (s.param .fetchWait)

theorem lookupMiss_asked {s : State} {n id : Nat} (h : ¬(s.node 0).silent = true) (asked : s.fetchIndex id = none)
    (room : s.freeFetch = some n) (l tier : Nat) : s.lookupMiss l id tier =
      ((s.setFetch n (s.newFetch l id tier)).toSite Config.kMemberFetch (be24 id), .waiting) := by
  unfold State.lookupMiss
  rw [if_neg h, asked, room]
  rfl

theorem lookupMiss_quoteHeld {s : State} {l id : Nat} (h : Booked s) (ready : Ready s l) (unknown : s.memberIndex id = none)
    (tier plan : Nat) (a : ServiceSet) (price : Nat) :
    QuoteHeld s (quoteAnswered (s.lookupMiss l id tier) l plan a price id) := by
  by_cases silent : (s.node 0).silent = true
  · rw [lookupMiss_silent silent]
    exact (quoteReply_quoteSame ..).kept.held h
  cases asked : s.fetchIndex id with
  | some n =>
    obtain ⟨hn, hid⟩ := fetchIndex_some asked
    rw [lookupMiss_joined silent asked]
    refine pended_held (u := s.setFetch n _) h ready hn unknown (by exact hid) (.inl hid) (fun k hk tier' hw => ⟨hid, ?_⟩) rfl rfl
      plan a price
    rwa [getD_set_ne _ _ _ _ _ hk] at hw
  | none =>
    cases room : s.freeFetch with
    | none =>
      rw [lookupMiss_busy silent asked room]
      exact (quoteReply_quoteSame ..).kept.held h
    | some n =>
      have hn : n < 4 := List.mem_range.mp (List.mem_of_find?_eq_some room)
      have other (k : Nat) (hk : k ≠ l) : (s.newFetch l id tier).waiting.getD k none = none := by
        have blank : (s.newFetch l id tier).waiting.getD k none = (List.replicate 3 none).getD k none := getD_set_ne _ _ _ _ _ hk
        rw [blank]
        by_cases hk3 : k < 3
        · exact getD_replicate _ hk3
        · exact getD_of_le _ _ (by rw [List.length_replicate]; omega)
      rw [lookupMiss_asked silent asked room]
      have sent := toSite_frame (s.setFetch n (s.newFetch l id tier)) Config.kMemberFetch (be24 id)
      refine pended_held (u := (s.setFetch n (s.newFetch l id tier)).toSite Config.kMemberFetch (be24 id))
        (f := s.newFetch l id tier) h ready hn unknown rfl (.inr asked) (fun k hk tier' hw => ?_)
        (sent.same .sales (by decide)) (sent.same .members (by decide)) plan a price
      rw [other k hk] at hw
      cases hw

theorem quoteMember_quoteHeld {s : State} {l : Nat} (h : Booked s) (ready : Ready s l) (plan : Nat) (a : ServiceSet) (id : Nat) :
    QuoteHeld s (s.quoteMember l plan a id) := by
  rw [quoteMember_eq]
  split
  · exact (quoteReply_quoteSame ..).kept.held h
  · unfold State.lookup
    cases found : s.memberIndex id with
    | some n =>
      obtain ⟨hn, used, rfl⟩ := memberIndex_some found
      exact lookupHit_quoteHeld h ready hn used _ plan a _
    | none => exact lookupMiss_quoteHeld h ready found _ plan a _

end Sys2Proof.Machine
end

section
/-!
The commands that move accounts, fetches and quotes (R53 to R60, R68, R79 to R93), with what each keeps of the laws.
-/
namespace Sys2Proof.Machine

-- Proofs in order: a thread that waits for another proof counts against the check's memory limit.
set_option Elab.async false

/-! ## Quotes (R53) -/

theorem voidQuote_ready {s : State} {l : Nat} (h : Booked s) (isOpen : (s.lane l).isOpen = true)
    (room : (s.lane l).queue.length + 1 ≤ Config.laneSize) : Ready (s.voidQuote l none) l := by
  have hl : l < 3 := by
    refine Classical.byContradiction fun hnot => ?_
    have : s.lane l = .blank := getD_of_le _ _ (by rw [h.lanes]; omega)
    rw [this] at isOpen
    cases isOpen
  have lane := voidQuote_lane (s := s) (l := l) (by rw [h.lanes]; exact hl) none
  refine ⟨hl, by rw [lane]; exact isOpen, by rw [lane]; exact room, ?_⟩
  rw [State.slot, lane]
  exact Slot.voided_state _

/-- A quote that is not refused finds room in its lane (R53, step 3). -/
theorem quoteRefusal_room {s : State} {l plan : Nat} {a : ServiceSet} (h : s.quoteRefusal l plan a = none) :
    (s.lane l).queue.length + 1 ≤ Config.laneSize := by
  unfold State.quoteRefusal at h
  split at h
  · cases h
  next full => exact Nat.le_of_not_lt full

theorem quoteCash_quoteHeld {s : State} {l : Nat} (h : Booked s) (ready : Ready s l) (plan : Nat) (a : ServiceSet) :
    QuoteHeld s (s.quoteCash l plan a) := by
  unfold State.quoteCash
  dsimp only
  split
  · exact (quoteReply_quoteSame ..).kept.held h
  · exact cash_held h ready plan a _

theorem taking_quoteKept {c : Instr} {s : State} {g : State → State} (h : ∀ t, QuoteKept t (g t)) :
    Answers (QuoteKept s) (taking c s g) := taking_answers .refl ((setHanded_frame ..).quoteSame.kept.trans (h _))

theorem whenDue_quoteKept {d : Bool} {s : State} {g : State → State} (h : QuoteKept s (g s)) :
    Answers (QuoteKept s) (whenDue d s g) := whenDue_answers .refl fun _ => h

theorem execQuote_quoteKept (lane plan : Nat) (a : ServiceSet) (member : Nat) (s : State) :
    Answers (QuoteKept s) (execQuote lane plan a member s) := by
  refine taking_quoteKept fun t => .ite (quoteReply_quoteSame ..).kept ?_
  split
  · exact (quoteReply_quoteSame ..).kept
  next closed =>
    have isOpen : (t.lane lane).isOpen = true := Bool.of_not_eq_false closed
    have voided := voidQuote_quoteKept t lane none
    dsimp only
    split
    · exact voided.trans (quoteReply_quoteSame ..).kept
    next hrefusal =>
      refine ⟨fun h => ?_⟩
      have hl : lane < 3 := by
        refine Classical.byContradiction fun hnot => ?_
        have : t.lane lane = .blank := getD_of_le _ _ (by rw [h.lanes]; omega)
        rw [this] at isOpen
        cases isOpen
      have room := quoteRefusal_room hrefusal
      rw [voidQuote_lane (by rw [h.lanes]; exact hl)] at room
      have ready := voidQuote_ready h isOpen room
      have first := voided.held h
      split
      · exact first.trans (quoteCash_quoteHeld first.booked ready plan a)
      · exact first.trans (quoteMember_quoteHeld first.booked ready plan a member)

/-! ## Waiting lanes resolved (R81 to R83, R90) -/

/-- A lane's quote waits for an account, and in no fetch. -/
structure Waiting (s : State) (l id : Nat) : Prop where
  lane : l < 3
  pending : (s.slot l).state = .pending
  member : (s.slot l).member = some id
  free : ∀ a, a < 4 → (s.fetch a).waiting.getD l none = none

/-- What the resolving of one lane leaves alone. -/
structure Aside (s t : State) (l : Nat) : Prop where
  slots : ∀ k, k ≠ l → t.slot k = s.slot k
  fetches : t.members.fetches = s.members.fetches
  account : ∀ n, (t.memberRec n).state = (s.memberRec n).state ∧ (t.memberRec n).id = (s.memberRec n).id

theorem Waiting.aside {s t : State} {l k id : Nat} (h : Waiting s k id) (a : Aside s t l) (hk : k ≠ l) : Waiting t k id := by
  have slot := a.slots k hk
  refine ⟨h.lane, by rw [slot]; exact h.pending, by rw [slot]; exact h.member, fun b hb => ?_⟩
  unfold State.fetch
  rw [a.fetches]
  exact h.free b hb

theorem refusePending_held {s : State} (h : Booked s) {l id : Nat} (w : Waiting s l id) (r : Reply) :
    QuoteHeld s (s.refusePending l r) ∧ Aside s (s.refusePending l r) l := by
  have sent := quoteReply_frame (s.emptySlot l) l r (some (s.slot l).token) 0
  have members : (s.refusePending l r).members = s.members := sent.same .members (by decide)
  have sales : (s.refusePending l r).sales = (s.emptySlot l).sales := sent.same .sales (by decide)
  refine ⟨(quoteReply_quoteSame ..).kept.after
    (emptySlot_held h w.lane w.free fun id => holds_of_ne (by rw [w.pending]; decide) id), fun k hk => ?_, by rw [members], fun n => ?_⟩
  · unfold State.slot State.lane
    rw [sales]
    exact emptySlot_slot_ne s hk
  · unfold State.memberRec
    rw [members]
    exact ⟨rfl, rfl⟩

theorem resolveLane_held {s : State} (h : Booked s) {l n tier : Nat} (hn : n < 32) (used : (s.memberRec n).state ≠ .free)
    (w : Waiting s l (s.memberRec n).id) : QuoteHeld s (s.resolveLane n l tier) ∧ Aside s (s.resolveLane n l tier) l := by
  have hlen : n < s.members.records.length := h.records.symm ▸ hn
  have isOpen : (s.lane l).isOpen = true := by
    refine Classical.byContradiction fun closed => ?_
    have := h.closed l w.lane (Bool.eq_false_iff.mpr closed)
    rw [w.pending] at this
    cases this
  have room : (s.lane l).queue.length + 1 ≤ Config.laneSize := by
    have held : Slot.held (s.slot l) = true := by unfold Slot.held; rw [w.pending]; rfl
    have := h.room l w.lane
    rwa [held] at this
  unfold State.resolveLane
  split
  · exact refusePending_held h w _
  · obtain ⟨filled, state, member, members⟩ := offerSlot_filled (s := s.setMember n (s.memberRec n).referred) (l := l)
      (by rw [show (s.setMember n _).sales = s.sales from rfl, h.lanes]; exact w.lane) w.lane isOpen room
    obtain ⟨own, others⟩ := memberRec_of_set (t := (s.setMember n (s.memberRec n).referred).offerSlot l)
      (m := (s.memberRec n).referred) hlen (by rw [members]; rfl)
    have again : Filled s ((s.setMember n (s.memberRec n).referred).offerSlot l) l :=
      ⟨filled.lane, filled.length, filled.others, filled.isOpen, filled.room⟩
    refine ⟨again.offered h hn used members w.free (by rw [w.pending]; decide) state (member.trans w.member), again.slot_ne,
      by exact (congrArg Members.fetches members).trans rfl, fun a => ?_⟩
    by_cases han : a = n
    · subst han
      rw [show ((s.setMember a { s.memberRec a with refs := (s.memberRec a).refs + 1 }).offerSlot l).memberRec a =
        (s.memberRec a).referred from own]
      exact ⟨rfl, rfl⟩
    · rw [show ((s.setMember n { s.memberRec n with refs := (s.memberRec n).refs + 1 }).offerSlot l).memberRec a =
        s.memberRec a from others a han]
      exact ⟨rfl, rfl⟩

/-- Waiting lanes resolved one after another keep the laws. -/
theorem foldl_waiting_held {g : State → Nat → Nat → State} {P : State → Prop} {id : Nat} (w : List (Option Nat))
    (step : ∀ t l tier, Booked t → P t → Waiting t l id → QuoteHeld t (g t l tier) ∧ Aside t (g t l tier) l ∧ P (g t l tier)) :
    ∀ (ls : List Nat) (s : State), ls.Nodup → Booked s → P s →
      (∀ l ∈ ls, ∀ tier, w.getD l none = some tier → Waiting s l id) →
      QuoteHeld s (ls.foldl (fun t l => match w.getD l none with
        | some tier => g t l tier
        | none => t) s) := by
  intro ls
  induction ls with
  | nil => exact fun s _ h _ _ => QuoteKept.refl.held h
  | cons l ls ih =>
    intro s nodup h hp wait
    obtain ⟨hl, nodup⟩ := List.nodup_cons.mp nodup
    rw [List.foldl_cons]
    cases hw : w.getD l none with
    | none => exact ih s nodup h hp fun k hk => wait k (List.mem_cons_of_mem _ hk)
    | some tier =>
      obtain ⟨first, aside, next⟩ := step s l tier h hp (wait l List.mem_cons_self tier hw)
      refine first.trans (ih _ nodup first.booked next fun k hk tier' hw' => ?_)
      exact (wait k (List.mem_cons_of_mem _ hk) tier' hw').aside aside fun heq => hl (heq ▸ hk)

/-- The lanes of a fetch's waiting set wait in no other, once the fetch is given up. -/
theorem waiting_of_fetch {s : State} (h : Booked s) {n id : Nat} (hn : n < 4) (hid : (s.fetch n).id = some id) {t : State}
    (slots : ∀ l, t.slot l = s.slot l) (fetches : t.members.fetches = (s.setFetch n .blank).members.fetches) :
    ∀ l ∈ [0, 1, 2], ∀ tier, (s.fetch n).waiting.getD l none = some tier → Waiting t l id := by
  intro l hl tier hw
  have hl3 : l < 3 := by
    have : ∀ l ∈ [0, 1, 2], l < 3 := by decide
    exact this l hl
  obtain ⟨-, pending, member⟩ := h.waits n l tier hn hl3 hw
  have read (a : Nat) : t.fetch a = (s.setFetch n .blank).fetch a := by unfold State.fetch; rw [fetches]
  refine ⟨hl3, by rw [slots]; exact pending, by rw [slots, member]; exact hid, fun a ha => ?_⟩
  rw [read]
  by_cases han : a = n
  · subst han
    rw [fetch_setFetch _ (h.table.symm ▸ hn), show Fetch.blank.waiting = List.replicate 3 none from rfl,
      getD_replicate _ hl3]
  · rw [fetch_setFetch_ne s _ han]
    cases hwa : (s.fetch a).waiting.getD l none with
    | none => rfl
    | some tier' =>
      obtain ⟨-, -, same⟩ := h.waits a l tier' ha hl3 hwa
      exact absurd (h.fetches a n id ha hn (same.symm.trans (member.trans hid)) hid) han

theorem fetchRefuse_held {s : State} (h : Booked s) {n id : Nat} (hn : n < 4) (hid : (s.fetch n).id = some id) (r : Reply) :
    QuoteHeld s (s.fetchRefuse n r) := by
  have blanked := (setFetch_blank_kept s n).held h
  refine blanked.trans (foldl_waiting_held (g := fun u l _ => u.refusePending l r) (P := fun _ => True) (id := id) _
    (fun t l _ ht _ w => ?_) [0, 1, 2] _ (by decide)
    blanked.booked trivial (waiting_of_fetch h hn hid (t := s.setFetch n .blank) (fun _ => rfl) rfl))
  obtain ⟨held, aside⟩ := refusePending_held ht w r
  exact ⟨held, aside, trivial⟩

/-- No record, no uses left: the quote is refused (R76, R82). -/
theorem resolveLane_beyond {s : State} (h : Booked s) {v : Nat} (hv : ¬v < 32) (l tier : Nat) :
    s.resolveLane v l tier = s.refusePending l .memberLimit := by
  have blank : s.memberRec v = .blank := getD_of_le _ _ (by rw [h.records]; omega)
  unfold State.resolveLane
  rw [blank]
  rfl

/-- The lanes that waited for an account are resolved against the record that now holds it. -/
theorem resolved_held {s : State} (h : Booked s) {v id : Nat}
    (account : v < 32 → (s.memberRec v).state ≠ .free ∧ (s.memberRec v).id = id) (w : List (Option Nat))
    (wait : ∀ l ∈ [0, 1, 2], ∀ tier, w.getD l none = some tier → Waiting s l id) :
    QuoteHeld s (s.forWaiting w fun u l tier => u.resolveLane v l tier) := by
  refine foldl_waiting_held (P := fun t => v < 32 → (t.memberRec v).state ≠ .free ∧ (t.memberRec v).id = id) (id := id) w
    (fun t l tier ht hp hw => ?_) [0, 1, 2] s (by decide) h account wait
  by_cases hv : v < 32
  · obtain ⟨used, account⟩ := hp hv
    obtain ⟨held, aside⟩ := resolveLane_held ht (tier := tier) hv used (account.symm ▸ hw)
    obtain ⟨state, id'⟩ := aside.account v
    exact ⟨held, aside, fun _ => ⟨by rw [state]; exact used, id'.trans account⟩⟩
  · obtain ⟨held, aside⟩ := refusePending_held ht hw .memberLimit
    rw [resolveLane_beyond ht hv]
    exact ⟨held, aside, fun h => absurd h hv⟩

/-! ## Records stored (R82, R90) -/

theorem evict_members (s : State) (n : Nat) :
    (s.evict n).members = { s.members with recency := s.members.recency.erase n } := by
  unfold State.evict
  dsimp only
  split
  · exact (writeBack_frame ..).same .members (by decide)
  · rfl

theorem evict_sales (s : State) (n : Nat) : (s.evict n).sales = s.sales := (evict_frame s n).same .sales (by decide)

/-- A known account's record stored in place of the victim (R82). -/
def State.stored (s : State) (v id tier limit uses : Nat) : State :=
  ((s.evict v).setMember v (filled .cached id tier limit uses)).toFront v

theorem stored_members (s : State) (v id tier limit uses : Nat) : (s.stored v id tier limit uses).members =
    { s.members with
      records := s.members.records.set v (filled .cached id tier limit uses)
      recency := v :: (s.members.recency.erase v).erase v } := by
  unfold State.stored State.toFront State.setMember
  simp only [State.setMembers_members, evict_members]

theorem victim_congr {s t : State} (records : t.members.records = s.members.records)
    (recency : t.members.recency = s.members.recency) : t.victim = s.victim := by
  have rec_ : t.memberRec = s.memberRec := by funext n; unfold State.memberRec; rw [records]
  unfold State.victim
  rw [rec_, recency]

/-- A fetch answered by a known account (R82). Where no record can be had the answer is lost, as no law of the books
forbids. -/
theorem fetchFill_held {s : State} (h : Booked s) {n id : Nat} (hn : n < 4) (hid : (s.fetch n).id = some id)
    (tier limit uses : Nat) : QuoteHeld s (s.fetchFill n id tier limit uses) := by
  have blanked := (setFetch_blank_kept s n).held h
  have unknown : (s.setFetch n .blank).memberIndex id = none := h.absent n id hn hid
  have unasked : (s.setFetch n .blank).fetchIndex id = none := by
    refine fetchIndex_none_iff.mpr fun a ha heq => ?_
    by_cases han : a = n
    · subst han
      rw [fetch_setFetch _ (h.table.symm ▸ hn)] at heq
      cases heq
    · rw [fetch_setFetch_ne s _ han] at heq
      exact han (h.fetches a n id ha hn heq hid)
  unfold State.fetchFill
  dsimp only
  split
  · exact blanked
  next v victim =>
    have members := stored_members (s.setFetch n .blank) v id tier limit uses
    have sales : ((s.setFetch n .blank).stored v id tier limit uses).sales = s.sales := evict_sales (s.setFetch n .blank) v
    have stored : QuoteHeld (s.setFetch n .blank) ((s.setFetch n .blank).stored v id tier limit uses) :=
      stored_held blanked.booked victim unknown unasked (by rw [members]) (.inl ⟨rfl, by rw [members]⟩) (by rw [members])
        (by rw [sales]; rfl)
    have slots (l : Nat) : ((s.setFetch n .blank).stored v id tier limit uses).slot l = s.slot l := by
      unfold State.slot State.lane
      rw [sales]
    refine (blanked.trans stored).trans (resolved_held stored.booked (fun hv => ?_) _
      (waiting_of_fetch h hn hid slots (by rw [members])))
    obtain ⟨own, -⟩ := memberRec_of_set (s := s.setFetch n .blank) (t := (s.setFetch n .blank).stored v id tier limit uses)
      (n := v) (m := filled .cached id tier limit uses) (by rw [blanked.booked.records]; exact hv) (by rw [members])
    rw [own]
    exact ⟨of_decide_eq_true rfl, rfl⟩

end Sys2Proof.Machine
end

section
/-!
The requests on accounts, the lanes and the payments (R50, R59, R65, R68, R84, R88 to R93), with what each keeps of the laws.
-/
namespace Sys2Proof.Machine

-- Proofs in order: a thread that waits for another proof counts against the check's memory limit.
set_option Elab.async false

/-! ## Answers to fetches (R81 to R85) -/

theorem fetchRefuse_quoteKept (s : State) (n : Nat) (r : Reply) : QuoteKept s (s.fetchRefuse n r) := by
  refine ⟨fun h => ?_⟩
  by_cases hn : n < 4
  · cases hid : (s.fetch n).id with
    | some id => exact fetchRefuse_held h hn hid r
    | none =>
      have blanked := (setFetch_blank_kept s n).held h
      refine blanked.trans (foldl_waiting_held (g := fun u l _ => u.refusePending l r) (P := fun _ => True) (id := 0) _
        (fun t l _ ht _ w => ⟨And.left (refusePending_held ht w r), And.right (refusePending_held ht w r), trivial⟩) [0, 1, 2] _
        (by decide) blanked.booked trivial fun l hl tier hw => ?_)
      have hl3 : l < 3 := by
        have : ∀ l ∈ [0, 1, 2], l < 3 := by decide
        exact this l hl
      obtain ⟨some_, -, -⟩ := h.waits n l tier hn hl3 hw
      exact absurd hid some_
  · have blank : s.fetch n = .blank := getD_of_le _ _ (by rw [h.table]; omega)
    have blanked := (setFetch_blank_kept s n).held h
    unfold State.fetchRefuse State.forWaiting
    rw [blank]
    exact blanked

/-- An account that nobody holds withdrawn from the cache (R84). -/
theorem withdrawMember_quoteKept (s : State) (n : Nat) : QuoteKept s (s.withdrawMember n) := by
  unfold State.withdrawMember
  dsimp only
  split
  next idle =>
    obtain ⟨cached, refs⟩ := idle
    refine ⟨fun h => ?_⟩
    have hn : n < 32 := by
      refine Classical.byContradiction fun hnot => ?_
      have blank : s.memberRec n = .blank := getD_of_le _ _ (by rw [h.records]; omega)
      rw [blank] at cached
      cases cached
    have hlen : n < s.members.records.length := h.records.symm ▸ hn
    obtain ⟨own, others⟩ := memberRec_of_set (t := (s.setMember n .blank).offList n) (m := .blank) hlen rfl
    refine ⟨h.rewritten hn rfl (Nat.le_refl 0) (fun hp => by cases hp) (fun hu => absurd rfl hu) rfl rfl, fun hold => ?_⟩
    refine hold.record hn others rfl (hold.once.erase n) (fun a ha => List.mem_erase_of_ne ha) ?_ (fun used => ?_)
      (fun used held => absurd ((hold.refs n hn used).symm.trans refs) held)
    · rw [own]
      exact iff_of_false (fun hmem => ((List.Nodup.mem_erase_iff hold.once).mp hmem).1 rfl) (by decide)
    · rw [own] at used
      exact absurd rfl used
  next => exact setMember_kept rfl rfl rfl fun _ => Nat.le_refl 0

theorem unsolicited_quoteKept (s : State) (id known tier limit uses : Nat) :
    QuoteKept s (s.unsolicited id known tier limit uses) := by
  have notify (t : State) (n id : Nat) : QuoteKept t (t.notifyMember n id) := (notifyMember_frame ..).quoteSame.kept
  unfold State.unsolicited
  split
  · split
    · exact setMember_kept rfl rfl rfl fun _ => Nat.min_le_right ..
    · exact (withdrawMember_quoteKept ..).trans (notify ..)
  · exact notify ..

theorem execMemberData_quoteKept (id known tier limit uses : Nat) (s : State) :
    Answers (QuoteKept s) (execMemberData id known tier limit uses s) := by
  refine taking_quoteKept fun t => .ite (notifyMember_frame ..).quoteSame.kept ?_
  split
  next n hf =>
    obtain ⟨hn, hid⟩ := fetchIndex_some hf
    exact .ite ⟨fun h => fetchFill_held h hn hid tier limit uses⟩ (fetchRefuse_quoteKept ..)
  next => exact unsolicited_quoteKept ..

theorem execFetchTimerExpiry_quoteKept (entry : Nat) (s : State) : Answers (QuoteKept s) (execFetchTimerExpiry entry s) :=
  whenDue_quoteKept ((notifyMember_frame ..).quoteSame.kept.trans (fetchRefuse_quoteKept ..))

/-! ## MEMBER_LOAD (R90) -/

/-- A record in use that is not CACHED is PINNED. -/
theorem pinned_of_used {m : Member} (used : m.state ≠ .free) (cached : m.state ≠ .cached) : m.state = .pinned := by
  cases h : m.state with
  | free => exact absurd h used
  | cached => exact absurd h cached
  | pinned => rfl

theorem loadHeld_held {s : State} (h : Booked s) {n : Nat} (hn : n < 32) (used : (s.memberRec n).state ≠ .free) {tier limit uses : Nat}
    (sound : uses ≤ limit) {pin : Bool} (room : ¬(pin = true ∧ (s.memberRec n).state = .cached ∧ Config.pinLimit ≤ s.pinned)) :
    QuoteHeld s (s.loadHeld n tier limit uses pin) := by
  unfold State.loadHeld
  dsimp only
  split
  next hpin =>
    refine relisted_held h hn used (by exact rfl) (by exact sound) (by exact rfl) (by exact rfl) (.inr ⟨rfl, rfl, ?_⟩) rfl rfl
    by_cases cached : (s.memberRec n).state = .cached
    · exact .inr (Nat.lt_of_not_le fun full => room ⟨hpin, cached, full⟩)
    · exact .inl (pinned_of_used used cached)
  next =>
    exact relisted_held h hn used (by exact rfl) (by exact sound) (by exact rfl) (by exact rfl) (.inl ⟨rfl, rfl⟩) rfl rfl

/-- What MEMBER_LOAD makes of the accounts when it fills a victim (R90). -/
theorem loadNew_members (s : State) (v id tier limit uses : Nat) (pin : Bool) : (s.loadNew v id tier limit uses pin).members =
    { s.members with
      records := s.members.records.set v (filled (if pin then .pinned else .cached) id tier limit uses)
      recency := if pin then s.members.recency.erase v else v :: (s.members.recency.erase v).erase v } := by
  unfold State.loadNew State.toFront State.setMember
  cases pin <;> simp only [Bool.false_eq_true, if_true, if_false, State.setMembers_members, evict_members]

theorem loadNew_sales (s : State) (v id tier limit uses : Nat) (pin : Bool) :
    (s.loadNew v id tier limit uses pin).sales = s.sales := (loadNew_frame ..).same .sales (by decide)

/-- An account loaded into a victim's record, and the lanes that waited for it resolved (R90). -/
theorem loadNew_held {s : State} (h : Booked s) {v id tier limit uses : Nat} {pin : Bool} (unknown : s.memberIndex id = none)
    (victim : s.victim = some v) (room : pin = true → s.pinned < Config.pinLimit) :
    QuoteHeld s ((s.loadNew v id tier limit uses pin).loadResolve v id) := by
  have members := loadNew_members s v id tier limit uses pin
  have sales := loadNew_sales s v id tier limit uses pin
  have listed (r : List Nat) : (if pin then .pinned else .cached : MemberState) = .cached ∧
      (if pin then r.erase v else v :: (r.erase v).erase v) = v :: (r.erase v).erase v ∨
      (if pin then .pinned else .cached : MemberState) = .pinned ∧
        (if pin then r.erase v else v :: (r.erase v).erase v) = r.erase v ∧ s.pinned < Config.pinLimit := by
    cases pin with
    | false => exact .inl ⟨rfl, rfl⟩
    | true => exact .inr ⟨rfl, rfl, room rfl⟩
  unfold State.loadResolve
  have index : (s.loadNew v id tier limit uses pin).fetchIndex id = s.fetchIndex id := by
    unfold State.fetchIndex State.fetch
    rw [members]
  rw [index]
  cases asked : s.fetchIndex id with
  | none =>
    refine stored_held h victim unknown asked (by rw [members]) ?_ (by rw [members]) (by rw [sales])
    rw [members]
    exact listed _
  | some k =>
    obtain ⟨hk, hid⟩ := fetchIndex_some asked
    have blanked := (setFetch_blank_kept s k).held h
    have unasked : (s.setFetch k .blank).fetchIndex id = none := by
      refine fetchIndex_none_iff.mpr fun a ha heq => ?_
      by_cases hak : a = k
      · subst hak
        rw [fetch_setFetch _ (h.table.symm ▸ hk)] at heq
        cases heq
      · rw [fetch_setFetch_ne s _ hak] at heq
        exact hak (h.fetches a k id ha hk heq hid)
    have fetch : (s.loadNew v id tier limit uses pin).fetch k = s.fetch k := by
      unfold State.fetch
      rw [members]
    have members' : ((s.loadNew v id tier limit uses pin).setFetch k .blank).members =
        { s.members with
          records := s.members.records.set v (filled (if pin then .pinned else .cached) id tier limit uses)
          recency := if pin then s.members.recency.erase v else v :: (s.members.recency.erase v).erase v
          fetches := s.members.fetches.set k .blank } := by
      unfold State.setFetch
      simp only [State.setMembers_members, members]
    have stored : QuoteHeld (s.setFetch k .blank) ((s.loadNew v id tier limit uses pin).setFetch k .blank) := by
      refine stored_held blanked.booked victim unknown unasked (by rw [members']; rfl) ?_ (by rw [members']; rfl)
        (congrArg Sales.lanes sales)
      rw [members']
      exact listed _
    dsimp only
    rw [fetch]
    refine (blanked.trans stored).trans (resolved_held stored.booked (fun hv => ?_) _
      (waiting_of_fetch h hk hid (fun l => ?_) (by rw [members']; rfl)))
    · obtain ⟨own, -⟩ := memberRec_of_set (s := s) (t := (s.loadNew v id tier limit uses pin).setFetch k .blank)
        (n := v) (m := filled (if pin then .pinned else .cached) id tier limit uses) (by rw [h.records]; exact hv) (by rw [members'])
      rw [own]
      refine ⟨?_, rfl⟩
      show (if pin then .pinned else .cached : MemberState) ≠ .free
      cases pin <;> decide
    · show (s.loadNew v id tier limit uses pin).slot l = s.slot l
      unfold State.slot State.lane
      rw [sales]

theorem load_held {s : State} (h : Booked s) (id tier limit uses : Nat) (sound : uses ≤ limit) (pin : Bool) :
    QuoteHeld s (s.load id tier limit uses pin).1 := by
  unfold State.load
  split
  next n found =>
    obtain ⟨hn, used, hid⟩ := memberIndex_some found
    split
    · exact QuoteKept.refl.held h
    next room =>
      have held := loadHeld_held h hn used (tier := tier) sound room
      have unasked : (s.loadHeld n tier limit uses pin).fetchIndex id = none := by
        have same : (s.loadHeld n tier limit uses pin).fetchIndex id = s.fetchIndex id := by
          unfold State.loadHeld
          cases pin <;> rfl
        rw [same]
        exact fetchIndex_none_iff.mpr fun a ha heq => by
          rw [h.absent a id ha heq] at found
          cases found
      unfold State.loadResolve
      rw [unasked]
      exact held
  next unknown =>
    split
    · exact QuoteKept.refl.held h
    next room =>
      split
      · exact QuoteKept.refl.held h
      next v victim => exact loadNew_held h unknown victim fun hpin => Nat.lt_of_not_le fun full => room ⟨hpin, full⟩

theorem reply_quoteKept (s : State) (seq : Byte) (code : Nat) (st : Status) (d : List Byte) : QuoteKept s (s.reply seq code st d) :=
  (reply_frame ..).quoteSame.kept

theorem execMemberLoad_quoteKept (seq : Byte) (args : List Byte) (s : State) :
    Answers (QuoteKept s) (execMemberLoad seq args s) := by
  refine taking_quoteKept fun t => ?_
  split
  · split
    · exact reply_quoteKept ..
    next good =>
      rw [not_or, not_or, not_or, not_or] at good
      obtain ⟨-, -, -, sound, -⟩ := good
      exact .trans ⟨fun h => load_held h _ _ _ _ (Nat.le_of_not_lt sound) _⟩ (reply_quoteKept ..)
  · exact reply_quoteKept ..

/-! ## Pins, the day's turn and the flush (R91 to R93) -/

theorem execMemberPin_quoteKept (seq : Byte) (args : List Byte) (s : State) :
    Answers (QuoteKept s) (execMemberPin seq args s) := by
  refine taking_quoteKept fun t => ?_
  split
  · exact reply_quoteKept ..
  · split
    · exact reply_quoteKept ..
    next n found =>
      obtain ⟨hn, used, -⟩ := memberIndex_some found
      refine .ite (reply_quoteKept ..) ?_
      split
      · exact reply_quoteKept ..
      next room =>
        have pinned : QuoteKept t ((t.setMember n { t.memberRec n with state := .pinned }).offList n) :=
          ⟨fun h => relisted_held (m := { t.memberRec n with state := .pinned }) h hn used rfl (h.sound n hn) rfl rfl
            (.inr ⟨rfl, rfl, .inr (Nat.lt_of_not_le room)⟩) rfl rfl⟩
        exact pinned.trans (reply_quoteKept ..)

theorem execMemberUnpin_quoteKept (seq : Byte) (args : List Byte) (s : State) :
    Answers (QuoteKept s) (execMemberUnpin seq args s) := by
  refine taking_quoteKept fun t => ?_
  split
  · exact reply_quoteKept ..
  · split
    · exact reply_quoteKept ..
    next n found =>
      obtain ⟨hn, used, -⟩ := memberIndex_some found
      have unpinned : QuoteKept t ((t.setMember n { t.memberRec n with state := .cached }).toFront n) :=
        ⟨fun h => relisted_held (m := { t.memberRec n with state := .cached }) h hn used rfl (h.sound n hn) rfl rfl
          (.inl ⟨rfl, rfl⟩) rfl rfl⟩
      exact .ite (unpinned.trans (reply_quoteKept ..)) (reply_quoteKept ..)

/-- The turn of the day keeps each record's account, state and references. -/
theorem dayClear_same (m : Member) : (dayClear m).state = m.state ∧ (dayClear m).id = m.id ∧ (dayClear m).refs = m.refs ∧
    (Member.sound m → Member.sound (dayClear m)) := by
  unfold dayClear
  split
  · exact ⟨rfl, rfl, rfl, id⟩
  · exact ⟨rfl, rfl, rfl, fun _ => Nat.zero_le _⟩

/-- The records at the turn of the day. -/
def State.dayCleared (s : State) : State := s.setMembers { s.members with records := s.members.records.map dayClear }

theorem dayCleared_memberRec (s : State) (n : Nat) : s.dayCleared.memberRec n = dayClear (s.memberRec n) :=
  getD_map_default (by exact rfl) s.members.records n

theorem dayCleared_memberIndex (s : State) (id : Nat) : s.dayCleared.memberIndex id = s.memberIndex id := by
  unfold State.memberIndex
  simp only [dayCleared_memberRec, fun m => (dayClear_same m).1, fun m => (dayClear_same m).2.1]

theorem dayCleared_pinned (s : State) : s.dayCleared.pinned = s.pinned := by
  refine List.countP_map.trans (List.countP_congr fun m _ => ?_)
  rw [Function.comp, (dayClear_same m).1]

theorem dayCleared_booked {s : State} (h : Booked s) : Booked s.dayCleared where
  lanes := h.lanes
  records := (List.length_map _).trans h.records
  table := h.table
  sound n hn := by
    obtain ⟨-, -, -, sound⟩ := dayClear_same (s.memberRec n)
    rw [dayCleared_memberRec]
    exact sound (h.sound n hn)
  pins := (dayCleared_pinned s).symm ▸ h.pins
  accounts a b ha hb := by
    obtain ⟨sa, ia, -⟩ := dayClear_same (s.memberRec a)
    obtain ⟨sb, ib, -⟩ := dayClear_same (s.memberRec b)
    rw [dayCleared_memberRec, dayCleared_memberRec, sa, sb, ia, ib]
    exact h.accounts a b ha hb
  fetches := h.fetches
  absent a id ha hid := (dayCleared_memberIndex s id).trans (h.absent a id ha hid)
  waits := h.waits
  room := h.room
  closed := h.closed

theorem dayCleared_holdLaw {s : State} (hold : HoldLaw s) : HoldLaw s.dayCleared where
  once := hold.once
  listed n := by
    rw [dayCleared_memberRec, (dayClear_same _).1]
    exact hold.listed n
  refs n hn := by
    obtain ⟨state, id, refs, -⟩ := dayClear_same (s.memberRec n)
    rw [dayCleared_memberRec, state, id, refs]
    exact hold.refs n hn
  held l id hl offered member := by
    rw [dayCleared_memberIndex]
    exact hold.held l id hl offered member

theorem flushRecord_quoteKept (s : State) (n : Nat) : QuoteKept s (s.flushRecord n) := by
  unfold State.flushRecord
  dsimp only
  split
  · have rec_ : (s.writeBack (s.memberRec n)).memberRec n = s.memberRec n := by
      unfold State.memberRec
      rw [(writeBack_frame ..).same .members (by decide)]
    exact (writeBack_frame ..).quoteSame.kept.trans
      (setMember_kept (by rw [rec_]) (by rw [rec_]) (by rw [rec_]) (by rw [rec_]; exact id))
  · exact .refl

/-! ## Uses (R88, R89) -/

theorem returnUse_quoteKept (s : State) (m : Option Nat) : QuoteKept s (s.returnUse m) := by
  unfold State.returnUse
  split
  · split
    · exact setMember_kept rfl rfl rfl fun sound => Nat.le_trans (Nat.sub_le ..) sound
    · exact (toSite_frame ..).quoteSame.kept
  · exact .refl

theorem spendUse_quoteKept {s : State} {m : Option Nat} (room : s.atLimit m = false) : QuoteKept s (s.spendUse m) := by
  unfold State.spendUse
  split
  next id =>
    cases hf : s.memberIndex id with
    | none =>
      rw [modMember_none _ hf]
      exact .refl
    | some n =>
      unfold State.atLimit at room
      dsimp only at room
      rw [hf] at room
      rw [modMember_some _ hf]
      exact setMember_kept rfl rfl rfl fun _ => Nat.lt_of_not_le (of_decide_eq_false room)
  next => exact .refl

/-! ## Lanes (R50, R51, R68) -/

/-- A lane opened or shut, shut only without a quote. -/
theorem setOpen_quoteKept {s : State} {l : Nat} {b : Bool} (empty : b = false → l < 3 → (s.slot l).state = .empty) :
    QuoteKept s (s.setLane l { s.lane l with isOpen := b }) := by
  refine ⟨fun h => ?_⟩
  by_cases hl : l < 3
  · have own : (s.setLane l { s.lane l with isOpen := b }).lane l = { s.lane l with isOpen := b } :=
      lane_setLane _ (by rw [h.lanes]; exact hl)
    have others (k : Nat) (hk : k ≠ l) : (s.setLane l { s.lane l with isOpen := b }).lane k = s.lane k := lane_setLane_ne s _ hk
    have slot (k : Nat) : (s.setLane l { s.lane l with isOpen := b }).slot k = s.slot k := by
      unfold State.slot
      by_cases hk : k = l
      · subst hk
        rw [own]
      · rw [others k hk]
    refine ⟨h.slotted rfl (List.length_set.trans h.lanes) others (fun a tier ha hw => ?_) ?_ (fun closed => ?_),
      fun hold => hold.congr rfl rfl fun k => by rw [slot]; exact ⟨rfl, rfl⟩⟩
    · rw [slot]
      exact And.right (h.waits a l tier ha hl hw)
    · rw [slot, own]
      exact h.room l hl
    · rw [own] at closed
      rw [slot]
      exact empty closed hl
  · have same : (s.setLane l { s.lane l with isOpen := b }).sales.lanes = s.sales.lanes :=
      List.set_eq_of_length_le (by rw [h.lanes]; omega)
    exact (quoteSame_of_lanes (s := s) (t := s.setLane l { s.lane l with isOpen := b }) rfl same).kept.held h

theorem closeLane_quoteKept (s : State) (l : Nat) (r : Option Reply) : QuoteKept s (s.closeLane l r) := by
  cases isOpen : (s.lane l).isOpen with
  | false =>
    rw [closeLane_closed r isOpen]
    exact .refl
  | true =>
    rw [closeLane_open r isOpen]
    refine ⟨fun h => ((voidQuote_quoteKept s l r).trans (setOpen_quoteKept fun _ hl => ?_)).held h⟩
    rw [State.slot, voidQuote_lane (by rw [h.lanes]; exact hl)]
    exact Slot.voided_state _

theorem openPresent_quoteKept (s : State) (l : Nat) : QuoteKept s (s.openPresent l) := by
  unfold State.openPresent
  exact .ite (setOpen_quoteKept fun h => by cases h) .refl

/-! ## Payments (R59) -/

theorem spendUse_congr {s t : State} (h : t.members = s.members) (m : Option Nat) :
    (t.spendUse m).members = (s.spendUse m).members := by
  have index (id : Nat) : t.memberIndex id = s.memberIndex id := by unfold State.memberIndex State.memberRec; rw [h]
  unfold State.spendUse
  split
  next id =>
    unfold State.modMember
    rw [index]
    split
    · unfold State.setMember State.memberRec
      simp only [State.setMembers_members, h]
    · exact h
  next => exact h

theorem releaseRef_congr {s t : State} (h : t.members = s.members) (m : Option Nat) :
    (t.releaseRef m).members = (s.releaseRef m).members := by
  have index (id : Nat) : t.memberIndex id = s.memberIndex id := by unfold State.memberIndex State.memberRec; rw [h]
  unfold State.releaseRef
  split
  next id =>
    unfold State.modMember
    rw [index]
    split
    · unfold State.setMember State.memberRec
      simp only [State.setMembers_members, h]
    · exact h
  next => exact h

theorem paidFor_members (s : State) (l r tag tender : Nat) : (s.paidFor l r tag tender).members =
    (((s.spendUse (s.slot l).member).releaseRef (s.slot l).member).emptySlot l).members := by
  unfold State.paidFor
  refine ((toField_frame ..).same .members (by decide)).trans ?_
  exact releaseRef_congr (spendUse_congr (s := s) (t := s.enlisted l r tag tender) rfl _) _

theorem paidFor_sales (s : State) (l r tag tender : Nat) :
    (s.paidFor l r tag tender).sales = ((s.enlisted l r tag tender).emptySlot l).sales := by
  have sold (t u : State) (h : u.sales = t.sales) : (u.emptySlot l).sales = (t.emptySlot l).sales := by
    unfold State.emptySlot State.setSlot State.setLane State.slot State.lane
    simp only [State.setSales_sales, h]
  unfold State.paidFor
  exact ((toField_frame ..).same .sales (by decide)).trans (sold _ _ (((releaseRef_frame ..).same .sales (by decide)).trans
    ((spendUse_frame ..).same .sales (by decide))))

/-- A lane after a payment: the slot EMPTY, the order at the tail. -/
theorem paidFor_lane {s : State} {l : Nat} (hl : l < s.sales.lanes.length) (r tag tender : Nat) :
    ((s.paidFor l r tag tender).slot l).state = .empty ∧
      ((s.paidFor l r tag tender).lane l).queue = (s.lane l).queue ++ [r] ∧
      ∀ k, k ≠ l → (s.paidFor l r tag tender).lane k = s.lane k := by
  have sales := paidFor_sales s l r tag tender
  have lane (k : Nat) : (s.paidFor l r tag tender).lane k = ((s.enlisted l r tag tender).emptySlot l).lane k := by
    unfold State.lane
    rw [sales]
  have length : l < (s.enlisted l r tag tender).sales.lanes.length := by
    rw [show (s.enlisted l r tag tender).sales.lanes.length = _ from List.length_set]
    exact hl
  refine ⟨?_, ?_, fun k hk => ?_⟩
  · rw [State.slot, lane]
    exact emptySlot_state length
  · rw [lane, emptySlot_lane length]
    exact enlisted_queue tag tender hl
  · rw [lane, emptySlot_lane_ne _ hk]
    exact enlisted_lane_ne tag tender hk

/-- A payment settles the quote: its slot EMPTY, its reference released, one use spent, its order in the lane (R59). -/
theorem paidFor_held {s : State} {l : Nat} (h : Booked s) (offered : (s.slot l).state = .offered)
    (room : s.atLimit (s.slot l).member = false) (r tag tender : Nat) : QuoteHeld s (s.paidFor l r tag tender) := by
  have hl : l < 3 := by
    refine Classical.byContradiction fun hnot => ?_
    rw [slot_beyond h.lanes hnot] at offered
    cases offered
  have hlen : l < s.sales.lanes.length := by rw [h.lanes]; exact hl
  have spent := (spendUse_quoteKept room).held h
  have spentSales : (s.spendUse (s.slot l).member).sales = s.sales := (spendUse_frame ..).same .sales (by decide)
  have slotSpent : (s.spendUse (s.slot l).member).slot l = s.slot l := congrArg LaneSales.slot (lane_of_sales spentSales l)
  have emptied := spent.trans (released_held spent.booked hl (by rw [slotSpent]; exact offered))
  rw [slotSpent] at emptied
  have vacantSales : ((s.spendUse (s.slot l).member).releaseRef (s.slot l).member).sales = s.sales :=
    ((releaseRef_frame ..).same .sales (by decide)).trans spentSales
  have members := paidFor_members s l r tag tender
  obtain ⟨state, queue, others⟩ := paidFor_lane hlen r tag tender
  have vacant := emptySlot_state (s := (s.spendUse (s.slot l).member).releaseRef (s.slot l).member) (l := l)
    (by rw [vacantSales]; exact hlen)
  have lanes (k : Nat) (hk : k ≠ l) : (s.paidFor l r tag tender).lane k =
      (((s.spendUse (s.slot l).member).releaseRef (s.slot l).member).emptySlot l).lane k := by
    rw [others k hk, emptySlot_lane_ne _ hk, lane_of_sales vacantSales]
  generalize ((s.spendUse (s.slot l).member).releaseRef (s.slot l).member).emptySlot l = v at emptied members vacant lanes
  refine emptied.trans ⟨emptied.booked.slotted members ?_ lanes (fun a tier ha hw => ?_) ?_ (fun _ => state), fun hold =>
    hold.slotted hl (by rw [members]) (fun n => ?_) (fun k hk => congrArg LaneSales.slot (lanes k hk)) (fun n _ _ => ?_)
      fun id hoffer => ?_⟩
  · rw [paidFor_sales]
    exact List.length_set.trans (List.length_set.trans h.lanes)
  · obtain ⟨-, pending, -⟩ := emptied.booked.waits a l tier ha hl hw
    rw [vacant] at pending
    cases pending
  · have held : Slot.held (s.slot l) = true := by unfold Slot.held; rw [offered]; rfl
    have before := h.room l hl
    rw [held] at before
    rw [held_congr (q := Slot.blank) (state.trans rfl), queue, List.length_append]
    exact before
  · unfold State.memberRec
    rw [members]
    exact ⟨rfl, rfl⟩
  · rw [holds_of_ne (by rw [vacant]; decide), holds_of_ne (by rw [state]; decide)]
    unfold State.memberRec
    rw [members]
  · rw [state] at hoffer
    cases hoffer

end Sys2Proof.Machine
end

section
/-!
The quotes, the accounts and the references kept by every command: the obligation O57.
-/
namespace Sys2Proof.Machine

-- Proofs in order: a thread that waits for another proof counts against the check's memory limit.
set_option Elab.async false

/-! ## What moves no quote -/

theorem setOrderState_quoteSame (s : State) (r : Nat) (st : OrderState) : QuoteSame s (s.setOrderState r st) :=
  quoteSame_of_lanes rfl rfl

theorem arbitrate_quoteSame (s : State) : QuoteSame s s.arbitrate :=
  (arbitrate_frame s).quoteSame_lanes (arbitrate_lanes s)

theorem review_quoteSame (s : State) : QuoteSame s s.review :=
  (arbitrate_quoteSame s).trans (judgeConveyor_frame _).quoteSame

theorem stage_quoteSame (s : State) (l r : Nat) : QuoteSame s (s.stage l r) :=
  ((setOrderState_quoteSame ..).trans (setMerge_frame ..).quoteSame).trans (handStart_frame _).quoteSame

theorem markUnpaid_quoteSame (s : State) (l : Nat) : QuoteSame s (s.markUnpaid l) := (markUnpaid_frame ..).quoteSame

theorem judgePayment_quoteSame (s : State) (l r : Nat) : QuoteSame s (s.judgePayment l r) := by
  unfold State.judgePayment
  exact .ite ((stage_quoteSame ..).trans (review_quoteSame _)) (judgeConveyor_frame _).quoteSame

theorem stageOnBinding_quoteSame (s : State) (l : Nat) : QuoteSame s (s.stageOnBinding l) := by
  unfold State.stageOnBinding
  split
  · split
    · exact markUnpaid_quoteSame ..
    · exact .ite (stage_quoteSame ..) .refl
  · exact .refl

theorem withdraw_quoteSame (s : State) : QuoteSame s s.withdraw := by
  cases grant : s.merge.grant with
  | none =>
    rw [withdraw_none grant]
    exact .refl
  | some g =>
    cases head : s.headOrder g.lane with
    | none =>
      rw [withdraw_empty grant head]
      exact (endGrant_frame ..).quoteSame
    | some r =>
      obtain ⟨-, sales, -⟩ := withdraw_parts grant head
      exact (withdraw_frame s).quoteSame_lanes (by rw [sales]; rfl)

/-- An order that leaves its queue makes no quote. -/
theorem dequeue_quoteSame (s : State) (l r : Nat) : QuoteSame s (s.dequeue l r) := by
  refine ⟨rfl, rfl, rfl, ?_, fun k _ => ?_⟩
  · exact map_set_same (g := LaneSales.quoting) (l := s.sales.lanes) (d := .blank) rfl
  · by_cases hk : k = l
    · subst hk
      by_cases hl : k < s.sales.lanes.length
      · rw [dequeue_lane hl]
        exact List.length_erase_le
      · have same : (s.dequeue k r).sales.lanes = s.sales.lanes := List.set_eq_of_length_le (Nat.le_of_not_lt hl)
        have lane : (s.dequeue k r).lane k = s.lane k := by unfold State.lane; rw [same]
        exact Nat.le_of_eq (congrArg (fun v : LaneSales => v.queue.length) lane)
    · exact Nat.le_of_eq (congrArg (fun v : LaneSales => v.queue.length) (dequeue_lane_ne s r hk))

theorem freeOrder_quoteSame (s : State) (r : Nat) : QuoteSame s (s.freeOrder r) := quoteSame_of_lanes rfl rfl

theorem cascade_quoteSame (s : State) (svc : Nat) : QuoteSame s (s.cascade svc) := by
  have degraded : QuoteSame s (s.setSales { s.sales with
      orders := s.sales.orders.map fun o => if newlyDegraded svc o then { o with degraded := true } else o }) :=
    quoteSame_of_lanes rfl rfl
  unfold State.cascade
  exact .ite .refl (degraded.trans (notifySales_frame ..).quoteSame)

theorem outOfService_quoteSame (s : State) (i : Nat) (r : OutReason) : QuoteSame s (s.outOfService i r) := by
  have set (v : Station) : QuoteSame s ((if Station.working (s.station i) then s.retract i else s).setStation i v) :=
    (QuoteSame.ite (retract_frame ..).quoteSame .refl).trans (setStation_frame ..).quoteSame
  have lost (v : Station) (svc : Nat) (p : Prop) [Decidable p] : QuoteSame s
      (let t := (if Station.working (s.station i) then s.retract i else s).setStation i v
       if p then t.cascade svc else t) := .ite ((set v).trans (cascade_quoteSame ..)) (set v)
  unfold State.outOfService
  cases r
  case management => exact lost ..
  all_goals exact (lost ..).trans (notifyStation_frame ..).quoteSame

theorem writeStation_quoteSame (s : State) (i : Nat) (b : Nat → Byte) : QuoteSame s (s.writeStation i b) := by
  unfold State.writeStation
  exact .ite ((setStation_frame ..).quoteSame.trans (cascade_quoteSame ..)) (setStation_frame ..).quoteSame

/-! ## Halts -/

theorem haltEntry_quoteSame (s : State) (k : CauseKind) (d : CauseDetail) : QuoteSame s (s.haltEntry k d) := by
  have called : QuoteSame s (s.haltCalled k d) := by
    unfold State.haltCalled
    exact (((setHalt_frame ..).quoteSame.trans (enterMode_frame ..).quoteSame).trans (broadcast_frame _).quoteSame).trans
      (setHalt_frame ..).quoteSame
  have stopped : QuoteSame s (s.haltStopped k d) := by
    unfold State.haltStopped
    exact ((((called.trans (driveStop_frame _).quoteSame).trans (haltConveyor_frame _).quoteSame).trans
      (haltRetract_frame _).quoteSame).trans (withdraw_quoteSame _)).trans
      ((closeOpenGates_frame _).quoteSame.trans (flagCars_frame _).quoteSame)
  rw [haltEntry_eq]
  unfold State.haltAwaiting
  exact ((stopped.trans (setHalt_frame ..).quoteSame).trans (notifyHalt_frame ..).quoteSame).trans (endWait_frame _).quoteSame

theorem takeCause_quoteSame (s : State) (k : CauseKind) (d : CauseDetail) : QuoteSame s (s.takeCause k d) := by
  have join : QuoteSame s ((s.setHalt (Halt.latch s.halt k d)).notifyHalt none (some k)) :=
    (setHalt_frame ..).quoteSame.trans (notifyHalt_frame ..).quoteSame
  unfold State.takeCause
  split
  · exact haltEntry_quoteSame ..
  · exact haltEntry_quoteSame ..
  · exact join
  · exact join
  · exact join

theorem lineAsserted_quoteSame (s : State) : QuoteSame s s.lineAsserted := by
  unfold State.lineAsserted
  exact .ite .refl ((setHalt_frame ..).quoteSame.trans (takeCause_quoteSame ..))

theorem takeEstop_quoteSame (s : State) (estop : Bool) : QuoteSame s (s.takeEstop estop) := .ite (lineAsserted_quoteSame s) .refl

theorem takeEarly_quoteSame (s : State) (l : List (CauseKind × CauseDetail)) (e : Option Nat) :
    QuoteSame s (s.takeEarly l e) := by
  unfold State.takeEarly
  split
  · exact (setRaised_frame ..).quoteSame.trans (takeCause_quoteSame ..)
  · exact .refl

theorem haltForced_quoteSame (s : State) : QuoteSame s s.haltForced := by
  have out : QuoteSame s s.haltForcedOut :=
    (setHalt_frame ..).quoteSame.trans (.foldl (fun t i => outOfService_quoteSame t i _) _ _)
  unfold State.haltForced
  exact .ite (out.trans (conveyorStopped_frame _).quoteSame) out

theorem disarm_quoteKept (s : State) : QuoteKept s s.disarm := by
  unfold State.disarm
  exact ((((enterMode_frame ..).quoteSame.kept).trans (.foldl (fun t l => closeLane_quoteKept t l _) _ _)).trans
    (withdraw_quoteSame _).kept).trans ((closeOpenGates_frame _).quoteSame.trans (notifyHalt_frame ..).quoteSame).kept

theorem arm_quoteKept (s : State) : QuoteKept s s.arm := by
  unfold State.arm
  exact (((setTrack_frame ..).quoteSame.kept.trans (.foldl openPresent_quoteKept _ _)).trans
    ((enterMode_frame ..).quoteSame.trans (notifyHalt_frame ..).quoteSame).kept).trans (review_quoteSame _).kept

/-! ## Orders and cars -/

theorem callOff_quoteKept (s : State) (r reason : Nat) : QuoteKept s (s.callOff r reason) := by
  have left : QuoteSame s (s.dequeue (s.order r).lane r) := dequeue_quoteSame ..
  unfold State.callOff
  exact (((QuoteSame.ite (left.trans (endGrant_frame ..).quoteSame) left).kept.trans (returnUse_quoteKept ..)).trans
    (voidReport_frame ..).quoteSame.kept).trans (freeOrder_quoteSame ..).kept

theorem voidOrder_quoteKept (s : State) (r reason : Nat) : QuoteKept s (s.voidOrder r reason) := by
  have void : QuoteKept s ((s.callOff r reason).judgeVoid (s.order r).lane) :=
    (callOff_quoteKept ..).trans (judgeVoid_frame ..).quoteSame.kept
  exact .ite (void.trans (review_quoteSame _).kept) (void.trans (judgeConveyor_frame _).quoteSame.kept)

theorem bound_quoteSame (s : State) (l r : Nat) : QuoteSame s (s.bound l r) := by
  have written : QuoteSame s (s.setOrder r (s.boundRecord r)) := quoteSame_of_lanes rfl rfl
  have taken : QuoteSame s ((s.setOrder r (s.boundRecord r)).dequeue l r) := written.trans (dequeue_quoteSame ..)
  have members : (s.bound l r).members = s.members := ((endGrant_frame ..).same .members (by decide)).trans rfl
  have lanes : (s.bound l r).sales.lanes = ((s.setOrder r (s.boundRecord r)).dequeue l r).sales.lanes :=
    congrArg Sales.lanes (bound_sales s l r)
  exact taken.trans (quoteSame_of_lanes members lanes)

theorem createCar_quoteSame (s : State) : QuoteSame s s.createCar := by
  unfold State.createCar
  split
  next g r _ _ =>
    rw [bindCar_eq]
    exact ((bound_quoteSame s g.lane r).trans (stageOnBinding_quoteSame ..)).trans (review_quoteSame _)
  next =>
    unfold State.unannouncedCar
    exact (((insertCar_frame ..).quoteSame.trans (notifyTrack_frame ..).quoteSame).trans (handStart_frame _).quoteSame).trans
      (judgeConveyor_frame _).quoteSame

theorem frontEdge_quoteSame (s : State) (src : Nat) : QuoteSame s (s.frontEdge src) := by
  have crush (c : Car) : QuoteSame s (s.entryCrush src c) := (raiseCause_frame ..).quoteSame
  unfold State.frontEdge
  refine .ite ((raiseCause_frame ..).quoteSame.trans (notifyTrack_frame ..).quoteSame) ?_
  split
  · exact createCar_quoteSame s
  · exact .ite (crush _) (.ite ((crush _).trans (createCar_quoteSame _)) (createCar_quoteSame s))

theorem leave_quoteSame (s : State) (c : Car) (removed : Bool) : QuoteSame s (s.leave c removed) := by
  have freed (t : State) (tag : Option Nat) : QuoteSame t (t.freeBound tag) := by
    unfold State.freeBound
    split
    · exact freeOrder_quoteSame ..
    · exact .refl
  unfold State.leave
  exact ((((depart_frame ..).quoteSame.trans (toSite_frame ..).quoteSame).trans (setCars_frame ..).quoteSame).trans
    (freed ..)).trans (review_quoteSame _)

/-! ## Command by command -/

theorem taking_quoteSame {c : Instr} {s : State} {g : State → State} (h : ∀ t, QuoteSame t (g t)) :
    Answers (QuoteKept s) (taking c s g) := taking_quoteKept fun t => (h t).kept

theorem reply_quoteSame (s : State) (seq : Byte) (code : Nat) (st : Status) (d : List Byte) : QuoteSame s (s.reply seq code st d) :=
  (reply_frame ..).quoteSame

theorem finishWrite_quoteSame {s w : State} (seq : Byte) (table i : Nat) (v : Verdict) (h : QuoteSame s w) :
    QuoteSame s (s.finishWrite seq table i v w) := by
  unfold State.finishWrite
  split
  · exact h.trans (reply_quoteSame ..)
  · exact reply_quoteSame ..
  · exact reply_quoteSame ..

theorem writing_quoteSame {s : State} (seq : Byte) (args : List Byte) (len size : Nat) {g : Nat → (Nat → Byte) → State}
    (h : ∀ i b, QuoteSame s (g i b)) : QuoteSame s (s.writing seq args len size g) := by
  unfold State.writing
  split
  · exact .ite (reply_quoteSame ..) (.ite (reply_quoteSame ..) (h ..))
  · exact reply_quoteSame ..

theorem tick_quoteSame (s : State) : QuoteSame s s.tick := by
  refine ⟨rfl, rfl, List.map_map.trans (List.map_congr_left fun _ _ => rfl), List.map_map.trans (List.map_congr_left fun _ _ => rfl),
    fun l _ => ?_⟩
  rw [tick_lane]
  exact Nat.le_refl _

theorem judgeFrame_quoteSame (s : State) (p : PortId) (f : Frame) : QuoteSame s (s.judgeFrame p f) := by
  have live (t : State) (a : Nat) (r : NodeRecord) : QuoteSame t (t.noteLive a r) := by
    unfold State.noteLive
    exact .ite (.ite ((notifyNode_frame ..).quoteSame.trans (review_quoteSame _)) (notifyNode_frame ..).quoteSame) .refl
  unfold State.judgeFrame
  split
  · exact (countRefusal_frame ..).quoteSame
  · exact (((setNode_frame ..).quoteSame.trans (noteGap_frame ..).quoteSame).trans (live ..)).trans (route_frame ..).quoteSame

theorem execNodeFrameTake_quoteKept (p : PortId) (s : State) : Answers (QuoteKept s) (execNodeFrameTake p s) := by
  have port (q : Port) : QuoteSame s (s.setPort p q) := (setPort_frame s p q).quoteSame (by cases p <;> decide)
  refine running_answers .refl ?_
  split
  · exact .refl
  · exact .ite .refl (((port _).trans ((judgeResume_frame _ p).quoteSame (by cases p <;> decide))).trans
      (judgeFrame_quoteSame ..)).kept

theorem execStep_quoteKept (src : Nat) (delta : Byte) (early : Option Nat) (s : State) :
    Answers (QuoteKept s) (execStep src delta early s) := by
  refine taking_quoteSame fun t => ?_
  dsimp only
  refine .ite .refl (.ite ((raiseCause_frame ..).quoteSame.trans (notifyTrack_frame ..).quoteSame) ?_)
  unfold State.applyStep
  exact (((((moveCars_frame ..).quoteSame.trans (setCars_frame ..).quoteSame).trans (setRaised_frame ..).quoteSame).trans
    (takeEarly_quoteSame ..)).trans (handMoves_frame ..).quoteSame).trans (review_quoteSame _)

theorem execEntryEyeBlocked_quoteKept (src : Nat) (s : State) : Answers (QuoteKept s) (execEntryEyeBlocked src s) := by
  refine taking_quoteSame fun t => .ite (notifyTrack_frame ..).quoteSame ?_
  have seen : QuoteSame t (t.setMerge { t.merge with entryBlocked := true }) := (setMerge_frame ..).quoteSame
  exact .ite (seen.trans (notifyTrack_frame ..).quoteSame) (seen.trans (frontEdge_quoteSame ..))

theorem execEntryEyeClear_quoteKept (src : Nat) (s : State) : Answers (QuoteKept s) (execEntryEyeClear src s) :=
  taking_quoteSame fun _ => ((setMerge_frame ..).quoteSame.trans (rearEdge_frame _).quoteSame).trans (review_quoteSame _)

theorem execMergeEyeBlocked_quoteKept (lane : Nat) (s : State) : Answers (QuoteKept s) (execMergeEyeBlocked lane s) := by
  refine taking_quoteSame fun t => ?_
  have eye (v : LaneMerge) : QuoteSame t (t.setMergeLane lane v) := (setMerge_frame ..).quoteSame
  dsimp only
  split
  · exact (eye _).trans (markUnpaid_quoteSame ..)
  · exact .ite ((eye _).trans ((stage_quoteSame ..).trans (review_quoteSame _))) (eye _)

theorem execMergeEyeClear_quoteKept (lane : Nat) (s : State) : Answers (QuoteKept s) (execMergeEyeClear lane s) := by
  refine taking_quoteSame fun t => ?_
  have eye (v : LaneMerge) : QuoteSame t (t.setMergeLane lane v) := (setMerge_frame ..).quoteSame
  dsimp only
  split
  · exact eye _
  · exact .ite ((eye _).trans ((setOrderState_quoteSame ..).trans (judgeConveyor_frame _).quoteSame)) (eye _)

theorem execExitEyeClear_quoteKept (src : Nat) (s : State) : Answers (QuoteKept s) (execExitEyeClear src s) := by
  refine taking_quoteSame fun t => ?_
  have eye : QuoteSame t (t.setTrack { t.track with exitBlocked := false }) := (setTrack_frame ..).quoteSame
  dsimp only
  split
  · exact eye.trans (leave_quoteSame ..)
  · exact .ite eye (eye.trans (notifyTrack_frame ..).quoteSame)

theorem execRemoveCar_quoteKept (seq : Byte) (args : List Byte) (s : State) : Answers (QuoteKept s) (execRemoveCar seq args s) := by
  refine taking_quoteSame fun t => ?_
  split
  · exact reply_quoteSame ..
  · refine .ite (reply_quoteSame ..) ?_
    split
    · exact reply_quoteSame ..
    · exact (leave_quoteSame ..).trans (reply_quoteSame ..)

theorem execPaid_quoteKept (lane token tender : Nat) (s : State) : Answers (QuoteKept s) (execPaid lane token tender s) := by
  refine taking_quoteKept fun t => ?_
  have refuse (u : State) (r : Reply) : QuoteKept u (u.refusePayment lane r) := (refusePayment_frame ..).quoteSame.kept
  have void : QuoteKept t (t.voidQuote lane none) := voidQuote_quoteKept ..
  dsimp only
  split
  · exact refuse ..
  next hoffer =>
    obtain ⟨offered, -⟩ := not_or.mp hoffer
    refine .ite (refuse ..) ?_
    split
    · exact void.trans (refuse ..)
    next room =>
      refine .ite (void.trans (refuse ..)) ?_
      unfold State.pay
      split
      · exact .refl
      · rw [makeOrder_eq]
        exact .trans ⟨fun h => paidFor_held h (Classical.not_not.mp offered) (Bool.eq_false_iff.mpr room) _ _ _⟩
          (judgePayment_quoteSame ..).kept

theorem execDriveState_quoteKept (src : Nat) (report : DriveReport) (level : Nat) (roller : Bool) (s : State) :
    Answers (QuoteKept s) (execDriveState src report level roller s) := by
  refine taking_quoteSame fun t => ?_
  have recorded : QuoteSame t ((t.judgeRoller roller).recordReport report level roller) :=
    (judgeRoller_frame ..).quoteSame.trans (recordReport_frame ..).quoteSame
  have running (u : State) : QuoteSame u u.runningReport := by
    unfold State.runningReport
    split
    · exact .ite ((notifyTrack_frame ..).quoteSame.trans (stopConveyor_frame _).quoteSame) .refl
    · exact ((setTrack_frame ..).quoteSame.trans (judgeSpeed_frame _).quoteSame).trans (review_quoteSame _)
    · exact .refl
    · exact .refl
  cases report
  · exact recorded.trans (running _)
  · exact recorded.trans (stoppedReport_frame _).quoteSame
  · exact recorded.trans (raiseCause_frame ..).quoteSame

theorem execCurrent_quoteKept (station value : Nat) (s : State) : Answers (QuoteKept s) (execCurrent station value s) := by
  refine taking_quoteSame fun t => .ite ?_ .refl
  have set (v : Station) : QuoteSame t (t.setStation station v) := (setStation_frame ..).quoteSame
  exact .ite ((set _).trans (backOff_frame ..).quoteSame) (.ite ((set _).trans (outOfService_quoteSame ..)) (set _))

theorem execStationService_quoteKept (seq : Byte) (args : List Byte) (s : State) :
    Answers (QuoteKept s) (execStationService seq args s) := by
  refine taking_quoteSame fun t => ?_
  have out (i : Nat) : QuoteSame t (t.serviceOut i) := by
    unfold State.serviceOut
    exact (QuoteSame.ite (outOfService_quoteSame ..) .refl).trans (stationCmd_frame ..).quoteSame
  split
  · exact .ite (reply_quoteSame ..) (.ite (reply_quoteSame ..) (.ite (reply_quoteSame ..) (.ite ((out _).trans (reply_quoteSame ..))
      (.ite (reply_quoteSame ..) ((setStation_frame ..).quoteSame.trans (reply_quoteSame ..))))))
  · exact reply_quoteSame ..

theorem execNodeSilent_quoteKept (a : Nat) (s : State) : Answers (QuoteKept s) (execNodeSilent a s) := by
  have effect (t : State) (r : NodeRecord) : QuoteKept t (t.silenceEffect a r) := by
    unfold State.silenceEffect
    split
    · exact (raiseCause_frame ..).quoteSame.kept
    · exact (outOfService_quoteSame ..).kept
    · exact closeLane_quoteKept ..
    · exact closeLane_quoteKept ..
    · exact .ite (raiseCause_frame ..).quoteSame.kept .refl
  exact whenDue_quoteKept (((setNode_frame ..).quoteSame.trans (notifyNode_frame ..).quoteSame).kept.trans (effect ..))

theorem execLaneOpen_quoteKept (seq : Byte) (args : List Byte) (s : State) : Answers (QuoteKept s) (execLaneOpen seq args s) := by
  refine taking_quoteKept fun t => ?_
  split
  · exact reply_quoteKept ..
  · exact .ite (reply_quoteKept ..) (.ite (reply_quoteKept ..) (.ite (reply_quoteKept ..) (.ite (reply_quoteKept ..)
      ((setOpen_quoteKept fun h => by cases h).trans (reply_quoteKept ..)))))

theorem execLaneClose_quoteKept (seq : Byte) (args : List Byte) (s : State) : Answers (QuoteKept s) (execLaneClose seq args s) := by
  refine taking_quoteKept fun t => ?_
  have close (l : Nat) : QuoteKept t (t.closeLane l (some .laneClosed)) := closeLane_quoteKept ..
  have purge (u : State) (l : Nat) : QuoteKept u (u.purge l) := .foldl (fun v r => voidOrder_quoteKept v r 2) _ u
  split
  · exact .ite (reply_quoteKept ..) (.ite (reply_quoteKept ..)
      (.trans (.ite ((close _).trans (purge ..)) (close _)) (reply_quoteKept ..)))
  · exact reply_quoteKept ..

theorem execCancelOrder_quoteKept (seq : Byte) (args : List Byte) (s : State) :
    Answers (QuoteKept s) (execCancelOrder seq args s) := by
  refine taking_quoteKept fun t => ?_
  split
  · exact reply_quoteKept ..
  · split
    · exact reply_quoteKept ..
    · exact .ite (reply_quoteKept ..) ((voidOrder_quoteKept ..).trans (reply_quoteKept ..))

theorem execArm_quoteKept (seq : Byte) (args : List Byte) (s : State) : Answers (QuoteKept s) (execArm seq args s) := by
  refine taking_quoteKept fun t => .ite (reply_quoteKept ..) (.ite (reply_quoteKept ..) ?_)
  split
  · exact reply_quoteKept ..
  · exact (arm_quoteKept t).trans (reply_quoteKept ..)

theorem execAdmitWindowExpiry_quoteKept (s : State) : Answers (QuoteKept s) (execAdmitWindowExpiry s) := by
  refine whenDue_quoteKept ?_
  split
  · exact (setMerge_frame ..).quoteSame.kept
  · exact (((withdraw_quoteSame s).trans (notifySales_frame ..).quoteSame).trans (review_quoteSame _)).kept

theorem execHaltWaitExpiry_quoteKept (s : State) : Answers (QuoteKept s) (execHaltWaitExpiry s) := by
  rw [execHaltWaitExpiry_eq]
  exact whenDue_quoteKept ((((haltForced_quoteSame s).trans (setHalt_frame ..).quoteSame).trans (enterMode_frame ..).quoteSame).trans
    (notifyHalt_frame ..).quoteSame).kept

theorem execHoldTimerExpiry_quoteKept (s : State) : Answers (QuoteKept s) (execHoldTimerExpiry s) := by
  have starts (t : State) : QuoteSame t (if t.track.cars = [] then t else t.takeStart) := .ite .refl (takeStart_frame t).quoteSame
  exact whenDue_quoteKept (((((setHalt_frame ..).quoteSame.trans (enterMode_frame ..).quoteSame).trans (starts _)).trans
    (resumeStations_frame _).quoteSame).trans ((notifyHalt_frame ..).quoteSame.trans (review_quoteSame _))).kept

theorem execQuoteLifeExpiry_quoteKept (lane : Nat) (s : State) : Answers (QuoteKept s) (execQuoteLifeExpiry lane s) :=
  whenDue_quoteKept (voidQuote_quoteKept s lane _)

theorem execRaiseCause_quoteKept (k : CauseKind) (d : CauseDetail) (s : State) : Answers (QuoteKept s) (execRaiseCause k d s) :=
  whenDue_quoteKept ((setRaised_frame ..).quoteSame.trans (takeCause_quoteSame ..)).kept

/-- Members and the lanes as a power-on leaves them. -/
theorem fresh_quoteKept {s t : State} (members : t.members = State.reset.members)
    (lanes : t.sales.lanes = State.reset.sales.lanes) : QuoteKept s t := by
  have same : QuoteSame State.reset t := quoteSame_of_lanes members lanes
  have blank : Blank State.reset := fresh_blank rfl rfl
  obtain ⟨shape, -⟩ := powerOn_tableLaw []
  exact ⟨fun _ => ⟨same.booked ((quoteLaw_iff _).mp (blank.quoteLaw shape)).2, fun _ => same.holdLaw blank.holdLaw⟩⟩

theorem execDayReset_quoteKept (seq : Byte) (args : List Byte) (s : State) : Answers (QuoteKept s) (execDayReset seq args s) :=
  taking_quoteKept fun t =>
    .trans (t := t.dayCleared) ⟨fun h => ⟨dayCleared_booked h, dayCleared_holdLaw⟩⟩ (reply_quoteKept t.dayCleared ..)

theorem execMemberFlush_quoteKept (seq : Byte) (args : List Byte) (s : State) :
    Answers (QuoteKept s) (execMemberFlush seq args s) :=
  taking_quoteKept fun t => (QuoteKept.foldl flushRecord_quoteKept _ t).trans (reply_quoteKept ..)


end Sys2Proof.Machine
end

section
/-!
Every command keeps the quotes, the accounts and the references, and a victim is found: the obligation O57.
-/
namespace Sys2Proof.Machine

-- Proofs in order: a thread that waits for another proof counts against the check's memory limit.
set_option Elab.async false

/-! ## The commands together -/

/-- Every command keeps the laws of quotes, accounts and references. -/
theorem exec_quoteKept (c : Instr) (s : State) : Answers (QuoteKept s) (exec c s) := by
  have outside (hc : Part.sales ∉ touches c ∧ Part.members ∉ touches c) : Answers (QuoteKept s) (exec c s) := by
    obtain ⟨t, ht, hf⟩ := exec_frame c s
    exact ⟨t, ht, (hf.quoteSame hc).kept⟩
  cases c
  case powerOnReset estop => exact .next ((fresh_quoteKept (by exact rfl) (by exact rfl)).trans (takeEstop_quoteSame ..).kept)
  case lineReset => exact .next (fresh_quoteKept (by exact rfl) (by exact rfl))
  case lineResetEnd estop => exact .next (.ite ((endReset_frame s).quoteSame.trans (takeEstop_quoteSame ..)).kept .refl)
  case tick => exact running_answers .refl (tick_quoteSame s).kept
  case receiveByte p b => exact outside (by cases p <;> simp [touches, portPart])
  case transmitEnd p => exact outside (by cases p <;> simp [touches, portPart])
  case nodeFrameTake p => exact execNodeFrameTake_quoteKept p s
  case step src delta early => exact execStep_quoteKept src delta early s
  case entryEyeBlocked src => exact execEntryEyeBlocked_quoteKept src s
  case entryEyeClear src => exact execEntryEyeClear_quoteKept src s
  case mergeEyeBlocked lane => exact execMergeEyeBlocked_quoteKept lane s
  case mergeEyeClear lane => exact execMergeEyeClear_quoteKept lane s
  case exitEyeClear src => exact execExitEyeClear_quoteKept src s
  case quote lane plan addons member => exact execQuote_quoteKept lane plan addons member s
  case paid lane token tender => exact execPaid_quoteKept lane token tender s
  case cancel lane token => exact taking_quoteKept fun _ => .ite (voidQuote_quoteKept ..) .refl
  case actStateFault station => exact taking_quoteSame fun _ => .ite (outOfService_quoteSame ..) .refl
  case current station value => exact execCurrent_quoteKept station value s
  case driveState src report level roller => exact execDriveState_quoteKept src report level roller s
  case stopActive src => exact taking_quoteSame fun _ => (setHalt_frame ..).quoteSame.trans (takeCause_quoteSame ..)
  case estopLineAsserted => exact running_answers .refl (lineAsserted_quoteSame s).kept
  case memberData id known tier limit uses => exact execMemberData_quoteKept id known tier limit uses s
  case writeStationEntry seq args =>
    exact taking_quoteSame fun _ => writing_quoteSame _ _ _ _ fun i b =>
      finishWrite_quoteSame _ _ _ _ (writeStation_quoteSame ..)
  case writePlanEntry seq args =>
    exact taking_quoteSame fun _ => writing_quoteSame _ _ _ _ fun i b =>
      finishWrite_quoteSame _ _ _ _ (quoteSame_of_lanes (by exact rfl) (by exact rfl))
  case writeServiceEntry seq args =>
    exact taking_quoteSame fun _ => writing_quoteSame _ _ _ _ fun i b =>
      finishWrite_quoteSame _ _ _ _ (quoteSame_of_lanes (by exact rfl) (by exact rfl))
  case arm seq args => exact execArm_quoteKept seq args s
  case disarm seq args =>
    exact taking_quoteKept fun t =>
      .ite (reply_quoteKept ..) (.ite (reply_quoteKept ..) ((disarm_quoteKept t).trans (reply_quoteKept ..)))
  case forceHalt seq args => exact taking_quoteSame fun _ => (takeCause_quoteSame ..).trans (reply_quoteSame ..)
  case laneOpen seq args => exact execLaneOpen_quoteKept seq args s
  case laneClose seq args => exact execLaneClose_quoteKept seq args s
  case cancelOrder seq args => exact execCancelOrder_quoteKept seq args s
  case stationService seq args => exact execStationService_quoteKept seq args s
  case removeCar seq args => exact execRemoveCar_quoteKept seq args s
  case memberLoad seq args => exact execMemberLoad_quoteKept seq args s
  case memberPin seq args => exact execMemberPin_quoteKept seq args s
  case memberUnpin seq args => exact execMemberUnpin_quoteKept seq args s
  case dayReset seq args => exact execDayReset_quoteKept seq args s
  case memberFlush seq args => exact execMemberFlush_quoteKept seq args s
  case quoteLifeExpiry lane => exact execQuoteLifeExpiry_quoteKept lane s
  case fetchTimerExpiry entry => exact execFetchTimerExpiry_quoteKept entry s
  case admitWindowExpiry => exact execAdmitWindowExpiry_quoteKept s
  case haltWaitExpiry => exact execHaltWaitExpiry_quoteKept s
  case holdTimerExpiry => exact execHoldTimerExpiry_quoteKept s
  case nodeSilent a => exact execNodeSilent_quoteKept a s
  case raiseCause k d => exact execRaiseCause_quoteKept k d s
  all_goals exact outside (by simp [touches, replyParts])

/-! ## The sizes -/

theorem lineReset_shape {s : State} (h : Shape s) : Shape s.lineReset :=
  { h with
    nodes := (List.length_map _).trans h.nodes, lanes := rfl, orders := rfl, records := rfl, fetches := rfl,
    waiting := fresh_waiting, merge := rfl, stations := (List.length_map _).trans h.stations, details := rfl,
    notices := rfl, rxS := rfl, rxF := rfl }

theorem exec_shape (c : Instr) {s : State} (h : Shape s) : Answers Shape (exec c s) :=
  exec_answers_of_orderly (P := Shape) (fun o => o.shape) (fun s _ => And.left (powerOn_tableLaw s.pending))
    (fun _ => lineReset_shape) (fun _ _ _ ht _ => { ht with nodes := List.length_set.trans ht.nodes })
    (fun _ _ _ ht _ => { ht with params := List.length_set.trans ht.params }) c s h

/-! ## The queue of commands is read by no law -/

theorem pending_quoteSame (s : State) (l : List Instr) : QuoteSame s { s with pending := l } := quoteSame_of_lanes rfl rfl

theorem step_quoteKept {s t : State} (h : step s = .next t) : QuoteKept s t := by
  unfold step at h
  split at h
  next c rest _ => exact (pending_quoteSame s rest).kept.trans ((exec_quoteKept c { s with pending := rest }).elim h)
  next =>
    cases h
    exact .refl

theorem step_shape {s t : State} (shape : Shape s) (h : step s = .next t) : Shape t :=
  step_keeps (P := Shape) (fun _ _ hs => { hs with }) (fun c _ => exec_shape c) shape h

/-! ## A victim is found (R86) -/

/-- The accounts that the OFFERED quotes carry. -/
def State.offeredIds (s : State) : List Nat := [0, 1, 2].filterMap fun l => (s.slot l).member

/-- The cached records that a quote holds. -/
def State.heldRecords (s : State) : List Nat := s.members.recency.filter fun n => (s.memberRec n).refs != 0

/-- At most three records have a reference: their accounts are among the lanes' own. -/
theorem heldRecords_length {s : State} (book : Booked s) (hold : HoldLaw s) : s.heldRecords.length ≤ 3 := by
  have cached {n : Nat} (hn : n ∈ s.heldRecords) : n < 32 ∧ (s.memberRec n).state ≠ .free := by
    obtain ⟨lt, state⟩ := (hold.listed n).mp (List.mem_filter.mp hn).1
    exact ⟨lt, by rw [state]; exact fun h => nomatch h⟩
  have distinct : (s.heldRecords.map fun n => (s.memberRec n).id).Nodup := by
    refine nodup_map_of_inj (hold.once.filter _) fun a ha b hb same => ?_
    obtain ⟨lta, usedA⟩ := cached ha
    obtain ⟨ltb, usedB⟩ := cached hb
    exact book.accounts a b lta ltb usedA usedB same
  have offered : (s.heldRecords.map fun n => (s.memberRec n).id) ⊆ s.offeredIds := by
    intro id hid
    obtain ⟨n, hn, rfl⟩ := List.mem_map.mp hid
    obtain ⟨lt, used⟩ := cached hn
    have refs : (s.memberRec n).refs ≠ 0 := bne_iff_ne.mp (List.mem_filter.mp hn).2
    rw [hold.refs n lt used] at refs
    obtain ⟨l, hl⟩ := List.exists_mem_of_length_pos (Nat.pos_of_ne_zero refs)
    obtain ⟨lane, test⟩ := List.mem_filter.mp hl
    rw [Bool.and_eq_true, beq_iff_eq, beq_iff_eq] at test
    exact List.mem_filterMap.mpr ⟨l, lane, test.2⟩
  calc s.heldRecords.length = (s.heldRecords.map fun n => (s.memberRec n).id).length := (List.length_map _).symm
    _ ≤ s.offeredIds.length := List.Nodup.length_le_of_subset distinct offered
    _ ≤ 3 := List.length_filterMap_le ..

/-- With no record free, the pinned records and the recency list together are all of them. -/
theorem recency_length {s : State} (book : Booked s) (hold : HoldLaw s)
    (full : ∀ n, n < 32 → (s.memberRec n).state ≠ .free) : 24 ≤ s.members.recency.length := by
  have pinned : ((List.range 32).filter fun n => (s.memberRec n).state == .pinned).length ≤ 8 := by
    have range : s.members.records = (List.range 32).map s.memberRec := by
      refine List.ext_getElem (by rw [book.records, List.length_map, List.length_range]) fun n hn _ => ?_
      rw [List.getElem_map, List.getElem_range]
      exact (getD_of_lt _ _ hn).symm
    have pins := book.pins
    unfold State.pinned at pins
    rw [range, List.countP_map, List.countP_eq_length_filter] at pins
    exact pins
  have covered : List.range 32 ⊆ ((List.range 32).filter fun n => (s.memberRec n).state == .pinned) ++ s.members.recency := by
    intro n hn
    have lt := List.mem_range.mp hn
    rw [List.mem_append, List.mem_filter, hold.listed, beq_iff_eq]
    cases state : (s.memberRec n).state with
    | free => exact absurd state (full n lt)
    | cached => exact .inr ⟨lt, rfl⟩
    | pinned => exact .inl ⟨hn, rfl⟩
  have all := List.Nodup.length_le_of_subset List.nodup_range covered
  rw [List.length_append, List.length_range] at all
  omega

/-- Some cached record is held by no quote, when no record is free. -/
theorem exists_unheld {s : State} (book : Booked s) (hold : HoldLaw s) (full : ∀ n, n < 32 → (s.memberRec n).state ≠ .free) :
    ∃ n ∈ s.members.recency, (s.memberRec n).refs = 0 := by
  refine Classical.byContradiction fun none => ?_
  have all : s.heldRecords = s.members.recency :=
    List.filter_eq_self.mpr fun n hn => bne_iff_ne.mpr fun zero => none ⟨n, hn, zero⟩
  have few := heldRecords_length book hold
  rw [all] at few
  have many := recency_length book hold full
  omega

theorem victim_found {s : State} (book : Booked s) (hold : HoldLaw s) : ∃ v, v < 32 ∧ s.victim = some v ∧
    ((s.memberRec v).state = .free ∨ (s.memberRec v).state = .cached ∧ (s.memberRec v).refs = 0) := by
  unfold State.victim
  cases free : (List.range 32).find? fun n => (s.memberRec n).state == .free with
  | some v =>
    exact ⟨v, List.mem_range.mp (List.mem_of_find?_eq_some free), rfl, .inl (by simpa using List.find?_some free)⟩
  | none =>
    have full (n : Nat) (hn : n < 32) : (s.memberRec n).state ≠ .free := fun isFree =>
      List.find?_eq_none.mp free n (List.mem_range.mpr hn) (beq_iff_eq.mpr isFree)
    obtain ⟨n, hn, zero⟩ := exists_unheld book hold full
    cases unheld : s.members.recency.reverse.find? fun n => (s.memberRec n).refs == 0 with
    | none => exact absurd (beq_iff_eq.mpr zero) (List.find?_eq_none.mp unheld n (List.mem_reverse.mpr hn))
    | some v =>
      obtain ⟨lt, cached⟩ := (hold.listed v).mp (List.mem_reverse.mp (List.mem_of_find?_eq_some unheld))
      exact ⟨v, lt, rfl, .inr ⟨cached, by simpa using List.find?_some unheld⟩⟩

/-- Settles O57: every command keeps quotes, accounts and references, and at most 8 pinned records and 3 quotes leave a victim. -/
theorem quoteLawIsKept : Obligations.QuoteLawIsKept := by
  refine ⟨fun s t _ law h => ?_, fun s t _ law hold h => ?_, fun s law hold => ?_⟩
  · obtain ⟨shape, book⟩ := (quoteLaw_iff s).mp law
    exact (quoteLaw_iff t).mpr ⟨step_shape shape h, ((step_quoteKept h).held book).booked⟩
  · exact ((step_quoteKept h).held ((quoteLaw_iff s).mp law).2).hold hold
  · exact victim_found ((quoteLaw_iff s).mp law).2 hold

end Sys2Proof.Machine
end

section
/-!
Orders voided (R65 to R68): what a void sends and leaves; the obligations O23 and O24.
-/
namespace Sys2Proof.Machine

-- Proofs in order: a thread that waits for another proof counts against the check's memory limit.
set_option Elab.async false

/-! ## What Port S is sent -/

/-- Answers rest on Port F, on the kiosks' addresses and on the slots' tokens. -/
theorem answerLanes_portF {s t : State} (nodes : t.nodes = s.nodes) (portF : t.portF = s.portF)
    (tokens : ∀ l, (t.slot l).token = (s.slot l).token) (answer : Nat → Option (Reply × Nat)) :
    (t.answerLanes answer).portF = (s.answerLanes answer).portF := by
  have fold : ∀ (ls : List Nat) {u v : State}, v.nodes = u.nodes → v.portF = u.portF →
      (ls.foldl (fun w l => match answer l with
        | some (r, price) => w.quoteReply l r (some (t.slot l).token) price
        | none => w) v).portF =
      (ls.foldl (fun w l => match answer l with
        | some (r, price) => w.quoteReply l r (some (s.slot l).token) price
        | none => w) u).portF := by
    intro ls
    induction ls with
    | nil => exact fun _ h => h
    | cons l ls ih =>
      intro u v nodes portF
      rw [List.foldl_cons, List.foldl_cons]
      cases answer l with
      | none => exact ih nodes portF
      | some a =>
        obtain ⟨r, price⟩ := a
        have sent (w : State) (k : Option Nat) : (w.quoteReply l r k price).nodes = w.nodes := (quoteReply_frame ..).same .nodes (by decide)
        refine ih ?_ ?_
        · rw [sent, sent, nodes]
        · rw [tokens]
          exact quoteReply_portF _ _ _ _ _ _ nodes portF
  exact fold _ nodes portF

/-- The accounts stand at the same records. -/
theorem memberIndex_of_keys {s t : State} (keys : ∀ n, (t.memberRec n).state = (s.memberRec n).state ∧ (t.memberRec n).id = (s.memberRec n).id)
    (id : Nat) : t.memberIndex id = s.memberIndex id := by
  unfold State.memberIndex
  simp only [(keys _).1, (keys _).2]

theorem memberIndex_of_members {s t : State} (h : t.members = s.members) (id : Nat) : t.memberIndex id = s.memberIndex id := by
  unfold State.memberIndex State.memberRec
  rw [h]

/-- A record written with its state and its account as they were moves no account. -/
theorem memberIndex_setMember {s : State} {n : Nat} {m : Member} (state : m.state = (s.memberRec n).state)
    (account : m.id = (s.memberRec n).id) (id : Nat) : (s.setMember n m).memberIndex id = s.memberIndex id := by
  refine memberIndex_of_keys (fun a => ?_) id
  by_cases hn : n < s.members.records.length
  · obtain ⟨own, others⟩ := memberRec_of_set (t := s.setMember n m) hn rfl
    by_cases ha : a = n
    · subst ha
      rw [own]
      exact ⟨state, account⟩
    · rw [others a ha]
      exact ⟨rfl, rfl⟩
  · rw [setMember_beyond m (Nat.le_of_not_lt hn)]
    exact ⟨rfl, rfl⟩

theorem returnUse_memberIndex (s : State) (m : Option Nat) (id : Nat) : (s.returnUse m).memberIndex id = s.memberIndex id := by
  unfold State.returnUse
  split
  · split
    · exact memberIndex_setMember (by exact rfl) (by exact rfl) id
    · exact memberIndex_of_members ((toSite_frame ..).same .members (by decide)) id
  · rfl

theorem releaseRef_memberIndex (s : State) (m : Option Nat) (id : Nat) : (s.releaseRef m).memberIndex id = s.memberIndex id := by
  unfold State.releaseRef
  split
  · unfold State.modMember
    split
    · exact memberIndex_setMember (by exact rfl) (by exact rfl) id
    · rfl
  · rfl

theorem letGo_memberIndex (s : State) (l id : Nat) : (s.letGo l).memberIndex id = s.memberIndex id := by
  unfold State.letGo
  split
  · exact releaseRef_memberIndex ..
  · unfold State.leaveFetch
    split <;> rfl
  · rfl

theorem voidQuote_memberIndex (s : State) (l : Nat) (r : Option Reply) (id : Nat) :
    (s.voidQuote l r).memberIndex id = s.memberIndex id := by
  by_cases h : (s.slot l).state = .empty
  · rw [voidQuote_empty r h]
  · cases r with
    | none =>
      rw [voidQuote_silent h]
      exact letGo_memberIndex ..
    | some r =>
      rw [voidQuote_held r h]
      exact (memberIndex_of_members ((quoteReply_frame ..).same .members (by decide)) id).trans (letGo_memberIndex ..)

theorem closeLane_memberIndex (s : State) (l : Nat) (r : Option Reply) (id : Nat) :
    (s.closeLane l r).memberIndex id = s.memberIndex id := by
  cases h : (s.lane l).isOpen with
  | true =>
    rw [closeLane_open r h]
    exact voidQuote_memberIndex ..
  | false => rw [closeLane_closed r h]

/-! ## A void's report (R66, R89) -/

/-- A returned use touches Port S only where no record holds its account. -/
theorem returnUse_portS {s t : State} (portS : t.portS = s.portS) (index : ∀ id, t.memberIndex id = s.memberIndex id)
    (m : Option Nat) : (t.returnUse m).portS = (s.returnUse m).portS := by
  unfold State.returnUse
  split
  next id =>
    rw [index]
    split
    · exact portS
    · exact toSite_portS _ _ _ _ portS
  next => exact portS

theorem returnUse_members {s t : State} (h : t.members = s.members) (m : Option Nat) :
    (t.returnUse m).members = (s.returnUse m).members := by
  unfold State.returnUse
  split
  next id =>
    rw [memberIndex_of_members h]
    split
    · unfold State.setMember State.memberRec
      simp only [State.setMembers_members, h]
    · exact ((toSite_frame ..).same .members (by decide)).trans (h.trans ((toSite_frame ..).same .members (by decide)).symm)
  next => exact h

/-- The account of a returned use, where a record holds it. -/
theorem returnUse_memberRec {s : State} (h : s.members.records.length = 32) {id n : Nat} (hn : s.memberIndex id = some n) :
    (s.returnUse (some id)).memberRec n = { s.memberRec n with uses := (s.memberRec n).uses - 1, dirty := true } := by
  obtain ⟨lt, -⟩ := memberIndex_some hn
  unfold State.returnUse
  dsimp only
  rw [hn]
  exact getD_set_eq _ _ _ _ (by rw [h]; exact lt)

/-- What a REPORT VOID tells of an order. -/
def Order.reported (o : Order) : Nat × Nat × Nat × Nat × Nat × Option Nat := (o.tag, o.lane, o.plan, o.price, o.tender, o.member)

theorem voidReport_of {o p : Order} (h : o.reported = p.reported) (s : State) (n : Nat) : s.voidReport o n = s.voidReport p n := by
  simp only [Order.reported, Prod.mk.injEq] at h
  obtain ⟨tag, lane, plan, price, tender, member⟩ := h
  unfold State.voidReport
  rw [tag, lane, plan, price, tender, member]

/-! ## An order called off (R65) -/

/-- An order out of its queue, its grant ended. -/
def State.unqueued (s : State) (r : Nat) : State :=
  let t := s.dequeue (s.order r).lane r
  if (s.order r).state = .granted then t.endGrant (s.order r).lane else t

theorem unqueued_frame (s : State) (r : Nat) : SameExcept [.sales, .merge, .portF, .mgmt] s (s.unqueued r) := by
  have left := (dequeue_frame s (s.order r).lane r).within (m := [.sales, .merge, .portF, .mgmt]) (by decide)
  exact .ite (left.trans ((endGrant_frame ..).within (by decide))) left

theorem callOff_eq (s : State) (r reason : Nat) : s.callOff r reason =
    (((s.unqueued r).returnUse (s.order r).member).voidReport (s.order r) reason).freeOrder r := rfl

theorem callOff_portS (s : State) (r reason : Nat) : (s.callOff r reason).portS =
    ((s.returnUse (s.order r).member).voidReport (s.order r) reason).portS := by
  rw [callOff_eq, (freeOrder_frame ..).same .portS (by decide)]
  exact toSite_portS _ _ _ _ (returnUse_portS ((unqueued_frame s r).same .portS (by decide))
    (memberIndex_of_members ((unqueued_frame s r).same .members (by decide))) _)

theorem callOff_members (s : State) (r reason : Nat) : (s.callOff r reason).members = (s.returnUse (s.order r).member).members := by
  rw [callOff_eq, (freeOrder_frame ..).same .members (by decide), (voidReport_frame ..).same .members (by decide)]
  exact returnUse_members ((unqueued_frame s r).same .members (by decide)) _

theorem callOff_order {s : State} {r : Nat} (hr : r < s.sales.orders.length) (reason : Nat) : (s.callOff r reason).order r = .blank :=
  (order_of_sales (callOff_sales s r reason) r).trans (freeOrder_order (s := s.dequeue (s.order r).lane r) hr)

theorem callOff_order_ne {s : State} {r q : Nat} (hq : q ≠ r) (reason : Nat) : (s.callOff r reason).order q = s.order q :=
  (order_of_sales (callOff_sales s r reason) q).trans (freeOrder_order_ne _ hq)

theorem callOff_free (s : State) (r reason : Nat) : (s.callOff r reason).sales.free = r :: s.sales.free :=
  congrArg Sales.free (callOff_sales s r reason)

theorem callOff_lane (s : State) (r reason : Nat) : (s.callOff r reason).lane (s.order r).lane =
    { s.lane (s.order r).lane with queue := (s.lane (s.order r).lane).queue.erase r } := by
  have lane : (s.callOff r reason).lane (s.order r).lane = (s.dequeue (s.order r).lane r).lane (s.order r).lane :=
    lane_of_sales (t := s.callOff r reason) (s := (s.dequeue (s.order r).lane r).freeOrder r) (callOff_sales s r reason) _
  by_cases hl : (s.order r).lane < s.sales.lanes.length
  · rw [lane]
    exact lane_setLane _ hl
  · have beyond : s.lane (s.order r).lane = .blank := getD_of_le _ _ (Nat.le_of_not_lt hl)
    rw [lane, State.dequeue, State.setLane, State.lane, State.setSales_sales, List.set_eq_of_length_le (Nat.le_of_not_lt hl), beyond]
    exact beyond

/-- The record of a tag in use. -/
theorem orderOfTag_some {s : State} {tag r : Nat} (h : s.orderOfTag tag = some r) :
    r < 40 ∧ (s.order r).state ≠ .free ∧ (s.order r).tag = tag := by
  have test := List.find?_some h
  rw [Bool.and_eq_true, bne_iff_ne, beq_iff_eq] at test
  exact ⟨List.mem_range.mp (List.mem_of_find?_eq_some h), test⟩

theorem exec_cancelOrder {seq tag : Byte} {rest : List Byte} {s : State} (h : Taken (.cancelOrder seq (tag :: rest)) s) :
    let u := s.without (.cancelOrder seq (tag :: rest))
    exec (.cancelOrder seq (tag :: rest)) s = .next (match s.orderOfTag tag.toNat with
      | none => u.reply seq 10 .notFound []
      | some r => if (s.order r).state = .bound then u.reply seq 10 .wrongMode [] else (u.voidOrder r 1).reply seq 10 .ok []) :=
  (taking_eq _ h rfl).trans rfl

/-- Settles O23: the order of the tag is called off, and what follows it turns on its grant. -/
theorem cancelOrderVoidsTheOrder : Obligations.CancelOrderVoidsTheOrder := by
  intro seq tag rest s shape taken
  have hexec := exec_cancelOrder taken
  dsimp only at hexec ⊢
  refine ⟨fun hnone => by rw [hexec, hnone], fun r hr => ⟨fun bound => by rw [hexec, hr]; exact congrArg _ (if_pos bound),
    fun unbound => ?_⟩⟩
  obtain ⟨lt, -, -⟩ := orderOfTag_some hr
  rw [hr] at hexec
  have hexec := hexec.trans (congrArg _ (if_neg unbound))
  generalize hv : s.without (.cancelOrder seq (tag :: rest)) = v at hexec ⊢
  have order : s.order r = v.order r := by rw [← hv]; rfl
  have lane (l : Nat) : s.lane l = v.lane l := by rw [← hv]; rfl
  have members : s.members = v.members := by rw [← hv]; rfl
  have merge : s.merge = v.merge := by rw [← hv]; rfl
  have portS : s.portS = v.portS := by rw [← hv]; rfl
  have sales : s.sales = v.sales := by rw [← hv]; rfl
  have void (granted : Prop) [Decidable granted] (t u : State) : (if granted then t else u).reply seq 10 .ok [] =
      if granted then t.reply seq 10 .ok [] else u.reply seq 10 .ok [] := by split <;> rfl
  refine ⟨v.callOff r 1, fun granted => ?_, fun waiting => ?_, callOff_order (by rw [← sales, shape.orders]; exact lt) 1,
    by rw [callOff_free, sales], ?_, fun granted => ?_, fun waiting => ?_, fun id n member index => ?_, ?_⟩
  · rw [hexec, State.voidOrder, ← order]
    rw [if_pos granted]
  · rw [hexec, State.voidOrder, ← order]
    rw [if_neg waiting]
  · rw [order, callOff_lane, lane]
  · rw [callOff_merge, ← order, if_pos granted, endGrant_merge]
    exact ⟨rfl, rfl⟩
  · rw [callOff_merge, ← order, if_neg waiting, merge]
    rfl
  · have records : v.members.records.length = 32 := by rw [← members]; exact shape.records
    have index : v.memberIndex id = some n := (memberIndex_of_members members.symm id).trans index
    have own : s.memberRec n = v.memberRec n := congrArg (fun m : Members => m.records.getD n .blank) members
    rw [own, ← returnUse_memberRec records index, ← member, order]
    exact congrArg (fun m : Members => m.records.getD n .blank) (callOff_members v r 1)
  · rw [callOff_portS, ← order]
    exact toSite_portS _ _ _ _ (returnUse_portS portS.symm (memberIndex_of_members members.symm) _)

/-! ## An order voided (R65, R99, R102) -/

/-- The arbiter makes a head order GRANTED, or leaves Sales as it is. -/
theorem arbitrate_sales (s : State) : s.arbitrate.sales = s.sales ∨ ∃ r, s.arbitrate.sales = (s.setOrderState r .granted).sales := by
  unfold State.arbitrate
  split
  · split
    · exact .inl rfl
    next l _ =>
      split
      · cases head : s.headOrder l with
        | none =>
          unfold State.grantLane
          rw [head]
          exact .inl rfl
        | some r =>
          rw [grantLane_eq head]
          exact .inr ⟨r, (openGate_frame ..).same .sales (by decide)⟩
      · exact .inl rfl
      · exact .inl rfl
      · exact .inl rfl
  · exact .inl rfl

theorem arbitrate_sales_free (s : State) : s.arbitrate.sales.free = s.sales.free := by
  obtain same | ⟨r, same⟩ := arbitrate_sales s <;> rw [same]
  rfl

/-- An order's state is none of what is reported of it. -/
theorem setOrderState_reported (s : State) (r q : Nat) (st : OrderState) :
    ((s.setOrderState r st).order q).reported = (s.order q).reported := by
  by_cases hq : q = r
  · subst hq
    by_cases hlt : q < s.sales.orders.length
    · rw [State.setOrderState, order_setOrder _ hlt]
      rfl
    · have same : (s.setOrderState q st).sales.orders = s.sales.orders := List.set_eq_of_length_le (Nat.le_of_not_lt hlt)
      unfold State.order
      rw [same]
  · exact congrArg Order.reported (getD_set_ne _ _ _ _ _ hq)

theorem arbitrate_reported (s : State) (q : Nat) : (s.arbitrate.order q).reported = (s.order q).reported := by
  obtain same | ⟨r, same⟩ := arbitrate_sales s
  · rw [order_of_sales same]
  · rw [order_of_sales same]
    exact setOrderState_reported ..

/-- What comes after the call-off leaves the lanes, the free list and what is reported of the orders. -/
theorem voidOrder_after (s : State) (r reason : Nat) :
    (s.voidOrder r reason).sales.lanes = (s.callOff r reason).sales.lanes ∧
    (s.voidOrder r reason).sales.free = (s.callOff r reason).sales.free ∧
    ∀ q, ((s.voidOrder r reason).order q).reported = ((s.callOff r reason).order q).reported := by
  have judged (t : State) : t.judgeConveyor.sales = t.sales := (judgeConveyor_frame t).same .sales (by decide)
  have void : ((s.callOff r reason).judgeVoid (s.order r).lane).sales = (s.callOff r reason).sales :=
    (judgeVoid_frame ..).same .sales (by decide)
  refine ⟨voidOrder_lanes s r reason, ?_⟩
  unfold State.voidOrder
  dsimp only
  split
  · refine ⟨?_, fun q => ?_⟩
    · rw [State.review, judged, arbitrate_sales_free, void]
    · rw [State.review, order_of_sales (judged _), arbitrate_reported, order_of_sales void]
  · refine ⟨?_, fun q => ?_⟩
    · rw [judged, void]
    · rw [order_of_sales (judged _), order_of_sales void]

theorem voidOrder_outside (s : State) (r reason : Nat) : (s.voidOrder r reason).portS = (s.callOff r reason).portS ∧
    (s.voidOrder r reason).members = (s.callOff r reason).members := by
  have void := judgeVoid_frame (s.callOff r reason) (s.order r).lane
  have reviewed : SameExcept (.merge :: reviewParts) (s.callOff r reason) (s.voidOrder r reason) := by
    unfold State.voidOrder
    exact .ite ((void.within (by decide)).trans ((review_frame _).within (by decide)))
      ((void.within (by decide)).trans ((judgeConveyor_frame _).within (by decide)))
  exact ⟨reviewed.same .portS (by decide), reviewed.same .members (by decide)⟩

/-! ## A lane purged (R68) -/

/-- A lane's queue voided from its head: the lane is empty, and every record is on the free list. -/
theorem foldl_voidOrder {l : Nat} (hl : l < 3) (reason : Nat) : ∀ (rs : List Nat) {s : State}, PoolLaw s → (s.lane l).queue = rs →
    (rs.foldl (fun t r => t.voidOrder r reason) s).lane l = { s.lane l with queue := [] } ∧
    ∀ r, r ∈ rs ∨ r ∈ s.sales.free → r ∈ (rs.foldl (fun t r => t.voidOrder r reason) s).sales.free := by
  intro rs
  induction rs with
  | nil =>
    intro s _ hq
    have same : s.lane l = { s.lane l with queue := [] } := by rw [← hq]
    exact ⟨same, fun r hr => hr.resolve_left List.not_mem_nil⟩
  | cons r rs ih =>
    intro s h hq
    obtain ⟨lanes, free, -⟩ := voidOrder_after s r reason
    have mem : r ∈ (s.lane l).queue := hq ▸ List.mem_cons_self
    have lane : (s.voidOrder r reason).lane l = { s.lane l with queue := rs } := by
      have called := callOff_lane s r reason
      rw [h.home l hl r mem, hq, List.erase_cons_head] at called
      exact (congrArg (fun v : List LaneSales => v.getD l .blank) lanes).trans called
    obtain ⟨empty, freed⟩ := ih (voidOrder_held h (mem_queued.mpr ⟨l, hl, mem⟩) reason).pool (by rw [lane])
    refine ⟨by rw [List.foldl_cons, empty, lane], fun q hqr => freed q ?_⟩
    rw [free, callOff_free, List.mem_cons]
    rw [List.mem_cons] at hqr
    exact hqr.elim (fun h => h.elim (fun h => .inr (.inl h)) .inl) fun h => .inr (.inr h)

/-- What the voids of a list send: a use returned and a report for each, by what the orders said before. -/
theorem foldl_voidOrder_portS (o : Nat → Order) (reason : Nat) : ∀ (rs : List Nat) {s t : State}, rs.Nodup → t.portS = s.portS →
    (∀ id, t.memberIndex id = s.memberIndex id) → (∀ r ∈ rs, (t.order r).reported = (o r).reported) →
    (rs.foldl (fun t r => t.voidOrder r reason) t).portS =
      (rs.foldl (fun (v : State) r => (v.returnUse (o r).member).voidReport (o r) reason) s).portS := by
  intro rs
  induction rs with
  | nil => exact fun _ h _ _ => h
  | cons r rs ih =>
    intro s t nodup portS index said
    obtain ⟨hr, nodup⟩ := List.nodup_cons.mp nodup
    obtain ⟨-, -, after⟩ := voidOrder_after t r reason
    obtain ⟨sent, members⟩ := voidOrder_outside t r reason
    have told := said r List.mem_cons_self
    have member : (t.order r).member = (o r).member := congrArg (fun x => x.2.2.2.2.2) told
    refine ih nodup ?_ (fun id => ?_) fun q hq => ?_
    · rw [sent, callOff_portS, voidReport_of told, member]
      exact toSite_portS _ _ _ _ (returnUse_portS portS index _)
    · rw [memberIndex_of_members (members.trans (callOff_members ..)), returnUse_memberIndex, index]
      exact ((memberIndex_of_members ((voidReport_frame ..).same .members (by decide)) id).trans (returnUse_memberIndex ..)).symm
    · rw [after, callOff_order_ne fun heq : q = r => hr (heq ▸ hq)]
      exact said q (List.mem_cons_of_mem _ hq)

/-! ## The lane requests (R50, R51, R68) -/

theorem exec_laneOpen {seq b : Byte} {rest : List Byte} {s : State} (h : Taken (.laneOpen seq (b :: rest)) s) (index : ¬2 < b.toNat)
    (mode : s.halt.mode ≠ .offline) (present : s.present b.toNat = true)
    (heard : s.laneSilent .kiosk b.toNat = false ∧ s.laneSilent .gate b.toNat = false) :
    let u := s.without (.laneOpen seq (b :: rest))
    exec (.laneOpen seq (b :: rest)) s =
      .next ((u.setLane b.toNat { u.lane b.toNat with isOpen := true }).reply seq 8 .ok []) := by
  obtain ⟨kiosk, gate⟩ := heard
  have silent : ¬(s.laneSilent .kiosk b.toNat || s.laneSilent .gate b.toNat) = true := by rw [kiosk, gate]; decide
  refine ((taking_eq _ h rfl).trans ?_)
  refine congrArg _ ((if_neg index).trans ((if_neg mode).trans ((if_neg ?_).trans (if_neg silent))))
  exact fun absent => Bool.false_ne_true (absent.symm.trans present)

theorem exec_laneClose {seq b : Byte} {purge : Bool} {rest : List Byte} {s : State}
    (h : Taken (.laneClose seq (b :: flag purge :: rest)) s) (index : ¬2 < b.toNat) :
    let t := (s.without (.laneClose seq (b :: flag purge :: rest))).closeLane b.toNat (some .laneClosed)
    exec (.laneClose seq (b :: flag purge :: rest)) s = .next ((if purge then t.purge b.toNat else t).reply seq 9 .ok []) := by
  refine (taking_eq _ h rfl).trans ?_
  cases purge
  · exact congrArg _ (if_neg index)
  · exact congrArg _ (if_neg index)

/-- The lane closed without a purge. -/
theorem closeLane_closes {s : State} {l : Nat} (hl : l < s.sales.lanes.length) (r : Option Reply) :
    ((s.closeLane l r).lane l).isOpen = false ∧
    ((s.lane l).isOpen = true → ((s.closeLane l r).slot l).state = .empty ∧
      ((s.slot l).state ≠ .empty → ((s.closeLane l r).slot l).life = none)) ∧
    ((s.closeLane l r).lane l).queue = (s.lane l).queue := by
  rw [State.slot, closeLane_lane hl]
  cases h : (s.lane l).isOpen with
  | true => exact ⟨rfl, fun _ => ⟨Slot.voided_state _, Slot.voided_life⟩, rfl⟩
  | false => exact ⟨h, (fun h => nomatch h), rfl⟩

/-- Settles O24: the order of the checks, and the purge by induction on the queue. -/
theorem laneRequestsOpenAndClose : Obligations.LaneRequestsOpenAndClose := by
  refine ⟨fun seq b rest s taken index mode present kiosk gate => exec_laneOpen taken (by omega) mode present ⟨kiosk, gate⟩, ?_⟩
  intro seq b purge rest s shape pool index taken
  have hexec := exec_laneClose taken (by omega)
  have hl : b.toNat < 3 := by omega
  dsimp only at hexec ⊢
  have handed := setHanded_frame s (s.handed.erase (handoverOf (.laneClose seq (b :: flag purge :: rest))))
  generalize hv : s.without (.laneClose seq (b :: flag purge :: rest)) = v at hexec
  have sales : v.sales = s.sales := by rw [← hv]; rfl
  have lane (l : Nat) : v.lane l = s.lane l := lane_of_sales sales l
  have slot (l : Nat) : v.slot l = s.slot l := congrArg LaneSales.slot (lane l)
  have portS : v.portS = s.portS := by rw [← hv]; rfl
  have members : v.members = s.members := by rw [← hv]; rfl
  have closed := closeLane_closes (s := v) (l := b.toNat) (by rw [sales, shape.lanes]; exact hl) (some .laneClosed)
  rw [lane, slot] at closed
  obtain ⟨isOpen, empty, queue⟩ := closed
  have closePool : PoolLaw (v.closeLane b.toNat (some .laneClosed)) :=
    (closeLane_poolSame ..).poolLaw (hv ▸ handed.poolSame.poolLaw pool)
  have sent : (v.closeLane b.toNat (some .laneClosed)).portS = s.portS := ((closeLane_frame ..).same .portS (by decide)).trans portS
  cases purge with
  | false =>
    refine ⟨_, hexec, isOpen, empty, fun _ => ⟨queue, ?_, sent, ?_⟩, fun h => nomatch h⟩
    · exact (closeLane_orders ..).trans (by rw [sales])
    · refine (closeLane_portF v hl .laneClosed).trans ?_
      simp only [lane, slot]
      refine (answerLanes_portF (s := s) (t := v) (by rw [← hv]; rfl) (by rw [← hv]; rfl) (fun l => by rw [slot]) _).trans ?_
      exact congrArg (fun a => (s.answerLanes a).portF) (funext fun m => by
        by_cases hm : m = b.toNat
        · rw [hm]
        · rw [if_neg fun h => hm h.1, if_neg fun h => hm h.1])
  | true =>
    obtain ⟨voided, freed⟩ := foldl_voidOrder hl 2 _ closePool rfl
    rw [if_pos rfl] at hexec
    have purged := (purge_kept (v.closeLane b.toNat (some .laneClosed)) hl).held closePool
    have same : ((v.closeLane b.toNat (some .laneClosed)).purge b.toNat).slot b.toNat =
        (v.closeLane b.toNat (some .laneClosed)).slot b.toNat := (congrArg LaneSales.slot voided).trans rfl
    have waits := (lane b.toNat ▸ queue : ((v.closeLane b.toNat (some .laneClosed)).lane b.toNat).queue = (s.lane b.toNat).queue)
    refine ⟨_, hexec, (congrArg LaneSales.isOpen voided).trans isOpen, ?_, (fun h => nomatch h),
      fun _ => ⟨congrArg LaneSales.queue voided, fun r hr => ?_, ?_⟩⟩
    · rw [same]
      exact empty
    · have back := freed r (.inl (waits ▸ hr))
      have lt := purged.pool.small r (List.mem_append_left _ back)
      exact ⟨(purged.pool.free r lt).mpr back, back⟩
    · have order (r : Nat) : ((v.closeLane b.toNat (some .laneClosed)).order r) = s.order r := by
        unfold State.order
        rw [closeLane_orders, sales]
      rw [State.purge, waits]
      exact foldl_voidOrder_portS s.order 2 _ (pool.queue_nodup hl) sent
        (fun id => (closeLane_memberIndex ..).trans (memberIndex_of_members members id)) fun r _ => by rw [order]

end Sys2Proof.Machine
end

section
/-!
Payments (R58, R59, R64): what a payment makes of the pool, the lane and the account; the obligation O21.
-/
namespace Sys2Proof.Machine

-- Proofs in order: a thread that waits for another proof counts against the check's memory limit.
set_option Elab.async false

/-! ## The next tag (R64) -/

/-- The tags between the last one given and the next one are in use. -/
theorem nextTag_first {used : List Nat} (c : Nat) (h : used.length < 256) : ∃ k, 1 ≤ k ∧ k ≤ 256 ∧ nextTag used c = (c + k) % 256 ∧
    nextTag used c ∉ used ∧ ∀ j, 1 ≤ j → j < k → (c + j) % 256 ∈ used := by
  have fresh := nextTag_fresh c h
  unfold nextTag at fresh ⊢
  cases hf : ((List.range 256).map fun i => (c + 1 + i) % 256).find? (fun t => t ∉ used) with
  | none =>
    rw [hf] at fresh
    have first := List.find?_eq_none.mp hf ((c + 1) % 256) (List.mem_map.mpr ⟨0, by simp, by simp⟩)
    exact absurd (decide_eq_true fresh) first
  | some t =>
    rw [hf] at fresh
    obtain ⟨-, i, hi, rfl, before⟩ := List.find?_eq_some_iff_getElem.mp hf
    rw [List.length_map, List.length_range] at hi
    refine ⟨i + 1, by omega, by omega, ?_, fresh, fun j low high => ?_⟩
    · rw [Option.getD_some, List.getElem_map, List.getElem_range]
      congr 1
      omega
    · have taken := before (j - 1) (by omega)
      rw [List.getElem_map, List.getElem_range, show c + 1 + (j - 1) = c + j by omega] at taken
      simpa using taken

/-! ## The use spent and the reference released (R59, R88) -/

theorem spendUse_memberIndex (s : State) (m : Option Nat) (id : Nat) : (s.spendUse m).memberIndex id = s.memberIndex id := by
  unfold State.spendUse
  split
  · unfold State.modMember
    split
    · exact memberIndex_setMember (by exact rfl) (by exact rfl) id
    · rfl
  · rfl

/-- The account's record after a payment from it. -/
theorem spent_memberRec {s : State} (h : s.members.records.length = 32) {id n : Nat} (hn : s.memberIndex id = some n) :
    ((s.spendUse (some id)).releaseRef (some id)).memberRec n =
      { s.memberRec n with uses := (s.memberRec n).uses + 1, dirty := true, refs := (s.memberRec n).refs - 1 } := by
  have lt : n < s.members.records.length := by rw [h]; exact memberIndex_lt hn
  have spent : s.spendUse (some id) = s.setMember n { s.memberRec n with uses := (s.memberRec n).uses + 1, dirty := true } :=
    modMember_some (fun r => { r with uses := r.uses + 1, dirty := true }) hn
  have again := (spendUse_memberIndex s (some id) id).trans hn
  rw [releaseRef_held again, spent, memberRec_setMember _ (List.length_set.symm ▸ lt),
    memberRec_setMember _ lt]

/-! ## The order made (R59) -/

/-- A payment's order enlisted and its quote settled, the kiosk not yet told. -/
def State.settled (s : State) (l r tag tender : Nat) : State :=
  (((s.enlisted l r tag tender).spendUse (s.slot l).member).releaseRef (s.slot l).member).emptySlot l

theorem paidFor_eq (s : State) (l r tag tender : Nat) : s.paidFor l r tag tender =
    (s.settled l r tag tender).toField ((s.settled l r tag tender).kioskAddr l) 0x29 [1, byte tag] := rfl

theorem settled_sales (s : State) (l r tag tender : Nat) :
    (s.settled l r tag tender).sales = ((s.enlisted l r tag tender).emptySlot l).sales := by
  refine Eq.trans ?_ (paidFor_sales s l r tag tender)
  rw [paidFor_eq]
  exact ((toField_frame ..).same .sales (by decide)).symm

theorem settled_members (s : State) (l r tag tender : Nat) : (s.settled l r tag tender).members =
    ((s.spendUse (s.slot l).member).releaseRef (s.slot l).member).members :=
  releaseRef_congr (spendUse_congr (s := s) (t := s.enlisted l r tag tender) rfl _) _

theorem settled_order {s : State} {r : Nat} (hr : r < s.sales.orders.length) (l tag tender : Nat) :
    (s.settled l r tag tender).order r = s.orderOf l tag tender :=
  (order_of_sales (settled_sales s l r tag tender) r).trans (enlisted_order tag tender hr)

theorem settled_lane {s : State} {l : Nat} (hl : l < s.sales.lanes.length) (r tag tender : Nat) :
    (s.settled l r tag tender).lane l =
      { s.lane l with queue := (s.lane l).queue ++ [r], slot := { s.slot l with state := .empty, life := none } } := by
  have length : (s.enlisted l r tag tender).sales.lanes.length = s.sales.lanes.length := List.length_set
  have own : (s.enlisted l r tag tender).lane l = { s.lane l with queue := (s.lane l).queue ++ [r] } := getD_set_eq _ _ _ _ hl
  rw [lane_of_sales (settled_sales s l r tag tender), emptySlot_lane (by rw [length]; exact hl), State.slot, own]
  rfl

theorem paidFor_merge (s : State) (l r tag tender : Nat) : (s.paidFor l r tag tender).merge = s.merge := by
  unfold State.paidFor
  exact ((toField_frame ..).same .merge (by decide)).trans (((releaseRef_frame ..).same .merge (by decide)).trans
    ((spendUse_frame ..).same .merge (by decide)))

/-- The order of a payment is staged where it stands alone before a car that waits unpaid (R99). -/
theorem paidFor_stages {s : State} {l : Nat} (hl : l < s.sales.lanes.length) (r tag tender : Nat) :
    (s.paidFor l r tag tender).stagesPayment l r = true ↔
      (s.lane l).queue = [] ∧ (s.mergeLane l).eye = true ∧ (s.mergeLane l).unpaid = true := by
  obtain ⟨-, queue, -⟩ := paidFor_lane hl r tag tender
  have merge : (s.paidFor l r tag tender).mergeLane l = s.mergeLane l := by
    unfold State.mergeLane
    rw [paidFor_merge]
  unfold State.stagesPayment
  rw [queue, merge, Bool.and_eq_true, Bool.and_eq_true, beq_iff_eq, List.append_eq_singleton_iff]
  constructor
  · rintro ⟨⟨⟨empty, -⟩ | ⟨-, h⟩, eye⟩, unpaid⟩
    · exact ⟨empty, eye, unpaid⟩
    · cases h
  · exact fun ⟨empty, eye, unpaid⟩ => ⟨⟨.inl ⟨empty, rfl⟩, eye⟩, unpaid⟩

/-! ## PAID (R58) -/

section
variable {lane token tender : Nat} {s : State}

theorem exec_paid (h : Taken (.paid lane token tender) s) : exec (.paid lane token tender) s = .next (
    let u := s.without (.paid lane token tender)
    if (s.slot lane).state ≠ .offered ∨ (s.slot lane).token ≠ token then u.refusePayment lane .quoteExpired
    else if tender ≠ 1 ∧ tender ≠ 2 ∧ tender ≠ 3 then u.refusePayment lane .badTender
    else if s.atLimit (s.slot lane).member then (u.voidQuote lane none).refusePayment lane .memberLimit
    else if s.available (s.slot lane).plan = false ∨ s.allCovered (s.slot lane).addons = false then
      (u.voidQuote lane none).refusePayment lane .planClosed
    else u.pay lane tender) := (taking_eq _ h rfl).trans rfl

theorem exec_paid_unquoted (h : Taken (.paid lane token tender) s) (closed : ¬((s.slot lane).state = .offered ∧ (s.slot lane).token = token)) :
    exec (.paid lane token tender) s = .next ((s.without (.paid lane token tender)).refusePayment lane .quoteExpired) := by
  rw [exec_paid h]
  exact congrArg _ (if_pos (Classical.not_and_iff_not_or_not.mp closed))

/-- The checks after the quote's own. -/
theorem exec_paid_quoted (h : Taken (.paid lane token tender) s) (isOpen : (s.slot lane).state = .offered ∧ (s.slot lane).token = token) :
    exec (.paid lane token tender) s = .next (
      let u := s.without (.paid lane token tender)
      if tender ≠ 1 ∧ tender ≠ 2 ∧ tender ≠ 3 then u.refusePayment lane .badTender
      else if s.atLimit (s.slot lane).member then (u.voidQuote lane none).refusePayment lane .memberLimit
      else if s.available (s.slot lane).plan = false ∨ s.allCovered (s.slot lane).addons = false then
        (u.voidQuote lane none).refusePayment lane .planClosed
      else u.pay lane tender) := by
  rw [exec_paid h]
  exact congrArg _ (if_neg fun closed => closed.elim (· isOpen.1) (· isOpen.2))

theorem exec_paid_tendered (h : Taken (.paid lane token tender) s) (isOpen : (s.slot lane).state = .offered ∧ (s.slot lane).token = token)
    (tendered : 1 ≤ tender ∧ tender ≤ 3) : exec (.paid lane token tender) s = .next (
      let u := s.without (.paid lane token tender)
      if s.atLimit (s.slot lane).member then (u.voidQuote lane none).refusePayment lane .memberLimit
      else if s.available (s.slot lane).plan = false ∨ s.allCovered (s.slot lane).addons = false then
        (u.voidQuote lane none).refusePayment lane .planClosed
      else u.pay lane tender) := by
  rw [exec_paid_quoted h isOpen]
  exact congrArg _ (if_neg fun bad => by omega)

end

/-- The record at its daily limit. -/
theorem atLimit_of_full {s : State} {id n : Nat} (hn : s.memberIndex id = some n) (full : (s.memberRec n).limit ≤ (s.memberRec n).uses) :
    s.atLimit (some id) = true := by
  unfold State.atLimit
  dsimp only
  rw [hn]
  exact decide_eq_true full

/-- A payment refused with its quote voided: the refusal goes to the lane's kiosk. -/
theorem refused_voided {s : State} (shape : Shape s) {lane : Nat} (hl : lane < 3) (offered : (s.slot lane).state = .offered)
    (c : Instr) (r : Reply) : ∃ v : State, QuoteVoided lane s v ∧ v.portF = s.portF ∧
      ((s.without c).voidQuote lane none).refusePayment lane r = v.toField (s.kioskAddr lane) 0x29 [replyCode r, 0] := by
  have held : ((s.without c).slot lane).state ≠ .empty := by
    rw [show (s.without c).slot lane = s.slot lane from rfl, offered]
    decide
  have voided : QuoteVoided lane s ((s.without c).voidQuote lane none) := by
    rw [voidQuote_silent held]
    exact letGo_emptySlot_voided (shape.without c) hl
  refine ⟨_, voided, voidQuote_portF_silent .., ?_⟩
  have nodes : ((s.without c).voidQuote lane none).nodes = s.nodes := (voidQuote_frame (s.without c) lane none).same .nodes (by decide)
  rw [State.refusePayment, State.kioskAddr, State.laneAddr, State.findNode]
  simp only [State.node, nodes]
  rfl

/-- Settles O21: the order made is read off the pool, the lane and the account; the refusals by the order of the checks. -/
theorem paymentMakesAnOrder : Obligations.PaymentMakesAnOrder := by
  refine ⟨?_, ?_, fun used c h => nextTag_first c h⟩
  · intro lane token tender r rest s hl shape taken offered quoted low high limit available covered free hr q tag stages
    have hexec := exec_paid_tendered taken ⟨offered, quoted⟩ ⟨low, high⟩
    dsimp only at hexec
    rw [if_neg (Bool.eq_false_iff.mp limit), if_neg fun h => h.elim (fun h => by rw [available] at h; cases h)
      fun h => by rw [covered] at h; cases h] at hexec
    generalize hv : s.without (.paid lane token tender) = v at hexec
    have sales : v.sales = s.sales := by rw [← hv]; rfl
    have members : v.members = s.members := by rw [← hv]; rfl
    have slot : v.slot lane = s.slot lane := by rw [← hv]; rfl
    have laneSame : v.lane lane = s.lane lane := by rw [← hv]; rfl
    have merge : v.mergeLane lane = s.mergeLane lane := by rw [← hv]; rfl
    have length : lane < v.sales.lanes.length := by rw [sales, shape.lanes]; exact hl
    have paid : v.pay lane tender = (v.paidFor lane r tag tender).judgePayment lane r := by
      unfold State.pay
      rw [sales, free]
      dsimp only
      rw [makeOrder_eq, show v.orderTags = s.orderTags by rw [State.orderTags, sales]; rfl]
    have staged := paidFor_stages length r tag tender
    rw [laneSame, merge] at staged
    refine ⟨v.settled lane r tag tender, ⟨fun h => ?_, fun h => ?_⟩, ?_, ?_, ?_, ?_, fun id n member index => ?_, fun member => ?_⟩
    · rw [hexec, paid, State.judgePayment, if_pos (staged.mpr h), paidFor_eq]
    · rw [hexec, paid, State.judgePayment, if_neg (mt staged.mp h), paidFor_eq]
    · refine (congrArg Sales.free (settled_sales v lane r tag tender)).trans ?_
      refine (congrArg (fun x : Sales => x.free.erase r) sales).trans ?_
      rw [free]
      exact List.erase_cons_head ..
    · exact congrArg Sales.tag (settled_sales v lane r tag tender)
    · rw [settled_order (by rw [sales, shape.orders]; exact hr), State.orderOf, slot]
      have plan (n : Nat) : v.plan n = s.plan n := by rw [State.plan, sales]; rfl
      simp only [plan]
      rfl
    · rw [settled_lane length, laneSame, slot]
    · have index' : v.memberIndex id = some n := (memberIndex_of_members members id).trans index
      have own : v.memberRec n = s.memberRec n := congrArg (fun m : Members => m.records.getD n .blank) members
      refine (congrArg (fun m : Members => m.records.getD n .blank) (settled_members v lane r tag tender)).trans ?_
      rw [slot, show (s.slot lane).member = some id from member]
      exact (spent_memberRec (by rw [members]; exact shape.records) index').trans (by rw [own])
    · rw [settled_members, slot, show (s.slot lane).member = none from member]
      exact members
  · intro lane token tender s hl shape taken
    dsimp only
    refine ⟨fun closed => exec_paid_unquoted taken closed, fun isOpen bad => ?_, fun isOpen tendered id n member index full => ?_,
      fun isOpen tendered limit lost => ?_⟩
    · refine (exec_paid_quoted taken isOpen).trans ?_
      exact congrArg _ (if_pos (by omega))
    · obtain ⟨v, voided, portF, refused⟩ := refused_voided shape hl isOpen.1 (.paid lane token tender) .memberLimit
      refine ⟨v, voided, portF, ?_⟩
      rw [exec_paid_tendered taken isOpen tendered, ← show _ = v.toField (s.kioskAddr lane) 0x29 [24, 0] from refused]
      exact congrArg _ (if_pos (by rw [member]; exact atLimit_of_full index full))
    · obtain ⟨v, voided, portF, refused⟩ := refused_voided shape hl isOpen.1 (.paid lane token tender) .planClosed
      refine ⟨v, voided, portF, ?_⟩
      rw [exec_paid_tendered taken isOpen tendered, ← show _ = v.toField (s.kioskAddr lane) 0x29 [19, 0] from refused]
      exact congrArg _ ((if_neg (Bool.eq_false_iff.mp limit)).trans (if_pos lost))

end Sys2Proof.Machine
end

section
/-!
The QUOTE's checks and its answers (R52 to R55, R76, R77): the obligations O19 and O20.
-/
namespace Sys2Proof.Machine

-- Proofs in order: a thread that waits for another proof counts against the check's memory limit.
set_option Elab.async false

/-! ## The checks of R53 -/

/-- A plan that is sold: OPEN, its base set covered (R49). -/
def State.sells (s : State) (plan : Nat) : Prop :=
  plan ≤ 11 ∧ (s.plan plan).state = .isOpen ∧ ∀ n, n < 16 → hasService (s.plan plan).base n = true → s.covered n = true

theorem allCovered_iff {s : State} {set : ServiceSet} :
    s.allCovered set = true ↔ ∀ n, n < 16 → hasService set n = true → s.covered n = true := serviceList_all

theorem sells_iff {s : State} {plan : Nat} : s.sells plan ↔ ¬(11 < plan ∨ s.available plan = false) := by
  unfold State.sells State.available
  rw [not_or, Nat.not_lt, Bool.not_eq_false, Bool.and_eq_true, beq_iff_eq, allCovered_iff]

/-- One set lies within another. -/
theorem within_iff {a b : ServiceSet} : a &&& b = a ↔ ∀ n, n < 16 → hasService a n = true → hasService b n = true := by
  constructor
  · intro h n _ ha
    have both : hasService (a &&& b) n = true := by rw [h]; exact ha
    unfold hasService at both
    rw [BitVec.getLsbD_and, Bool.and_eq_true] at both
    exact both.2
  · intro h
    refine BitVec.eq_of_getLsbD_eq fun n hn => ?_
    rw [BitVec.getLsbD_and]
    cases ha : a.getLsbD n with
    | false => rfl
    | true => rw [show b.getLsbD n = true from h n hn ha]; rfl

section
variable {s : State} {l plan : Nat} {a : ServiceSet}

theorem quoteRefusal_laneFull (full : ¬(s.lane l).queue.length ≤ 5) : s.quoteRefusal l plan a = some .laneFull :=
  if_pos (by show 6 < _; omega)

theorem quoteRefusal_roomy (room : (s.lane l).queue.length ≤ 5) : s.quoteRefusal l plan a =
    if 11 < plan ∨ s.available plan = false then some .planClosed
    else if a &&& (s.plan plan).addons ≠ a then some .addonNotAllowed
    else if s.allCovered a = false then some .addonUnavailable
    else none := if_neg (by show ¬6 < _; omega)

theorem quoteRefusal_planClosed (room : (s.lane l).queue.length ≤ 5) (unsold : ¬s.sells plan) :
    s.quoteRefusal l plan a = some .planClosed :=
  (quoteRefusal_roomy room).trans (if_pos (Classical.not_not.mp (mt sells_iff.mpr unsold)))

theorem quoteRefusal_sold (room : (s.lane l).queue.length ≤ 5) (sold : s.sells plan) : s.quoteRefusal l plan a =
    if a &&& (s.plan plan).addons ≠ a then some .addonNotAllowed
    else if s.allCovered a = false then some .addonUnavailable
    else none := (quoteRefusal_roomy room).trans (if_neg (sells_iff.mp sold))

theorem quoteRefusal_addonNotAllowed (room : (s.lane l).queue.length ≤ 5) (sold : s.sells plan)
    (beyond : ¬∀ n, n < 16 → hasService a n = true → hasService (s.plan plan).addons n = true) :
    s.quoteRefusal l plan a = some .addonNotAllowed := (quoteRefusal_sold room sold).trans (if_pos (mt within_iff.mp beyond))

theorem quoteRefusal_allowed (room : (s.lane l).queue.length ≤ 5) (sold : s.sells plan)
    (allowed : ∀ n, n < 16 → hasService a n = true → hasService (s.plan plan).addons n = true) : s.quoteRefusal l plan a =
    if s.allCovered a = false then some .addonUnavailable else none :=
  (quoteRefusal_sold room sold).trans (if_neg (not_not_intro (within_iff.mpr allowed)))

theorem quoteRefusal_addonUnavailable (room : (s.lane l).queue.length ≤ 5) (sold : s.sells plan)
    (allowed : ∀ n, n < 16 → hasService a n = true → hasService (s.plan plan).addons n = true)
    (lost : ¬∀ n, n < 16 → hasService a n = true → s.covered n = true) :
    s.quoteRefusal l plan a = some .addonUnavailable :=
  (quoteRefusal_allowed room sold allowed).trans (if_pos (Bool.eq_false_iff.mpr (mt allCovered_iff.mp lost)))

theorem quoteRefusal_none (room : (s.lane l).queue.length ≤ 5) (sold : s.sells plan)
    (allowed : ∀ n, n < 16 → hasService a n = true → hasService (s.plan plan).addons n = true)
    (given : ∀ n, n < 16 → hasService a n = true → s.covered n = true) : s.quoteRefusal l plan a = none :=
  (quoteRefusal_allowed room sold allowed).trans (if_neg (Bool.not_eq_false _ ▸ allCovered_iff.mpr given))

end

/-! ## What a quote finds after the void of the lane's last one (R53) -/

/-- The lane's quote voided, its token counter, its queue and the rest of the unit as they were. -/
structure Cleared (s t : State) (l : Nat) : Prop where
  lane : t.lane l = { s.lane l with slot := (s.slot l).voided }
  others : ∀ k, k ≠ l → t.lane k = s.lane k
  orders : t.sales.orders = s.sales.orders
  free : t.sales.free = s.sales.free
  plan : ∀ n, t.plan n = s.plan n
  service : ∀ n, t.service n = s.service n
  covered : ∀ n, t.covered n = s.covered n
  nodes : t.nodes = s.nodes
  mgmt : t.mgmt = s.mgmt
  portS : t.portS = s.portS
  portF : t.portF = s.portF
  shape : Shape t

theorem voidQuote_mgmt_silent (s : State) (l : Nat) : (s.voidQuote l none).mgmt = s.mgmt := by
  by_cases h : (s.slot l).state = .empty
  · rw [voidQuote_empty none h]
  · rw [voidQuote_silent h]
    exact (letGo_frame s l).same .mgmt (by decide)

theorem voidQuote_cleared {s : State} (shape : Shape s) {l : Nat} (hl : l < 3) (c : Instr) :
    Cleared s ((s.without c).voidQuote l none) l := by
  have frame := voidQuote_frame (s.without c) l none
  have sales := voidQuote_sales (s.without c) l none
  have kept {α : Type} (f : Sales → α) (hf : ∀ v : Sales, ∀ ls, f { v with lanes := ls } = f v) :
      f ((s.without c).voidQuote l none).sales = f s.sales := by
    rw [sales]
    split
    · rfl
    · exact hf ..
  exact {
    lane := voidQuote_lane (s := s.without c) (shape.lanes.symm ▸ hl) none
    others := fun k hk => voidQuote_lane_ne (s.without c) hk none
    orders := kept Sales.orders fun _ _ => rfl
    free := kept Sales.free fun _ _ => rfl
    plan := fun n => kept (fun v => v.plans.getD n .blank) fun _ _ => rfl
    service := fun n => kept (fun v => v.services.getD n .blank) fun _ _ => rfl
    covered := fun n => covered_of_stations (frame.same .stations (by decide)) n
    nodes := frame.same .nodes (by decide)
    mgmt := voidQuote_mgmt_silent ..
    portS := frame.same .portS (by decide)
    portF := voidQuote_portF_silent ..
    shape := (voidQuote_orderly (s.without c) l none).shape (shape.without c) }

section
variable {s t : State} {l : Nat}

theorem Cleared.slot (h : Cleared s t l) : (t.slot l).state = .empty := by
  rw [State.slot, h.lane]
  exact Slot.voided_state _

theorem Cleared.token (h : Cleared s t l) : (t.lane l).token = (s.lane l).token := by rw [h.lane]

theorem Cleared.queue (h : Cleared s t l) : (t.lane l).queue = (s.lane l).queue := by rw [h.lane]

theorem Cleared.sells (h : Cleared s t l) (plan : Nat) : t.sells plan ↔ s.sells plan := by
  unfold State.sells
  simp only [h.plan, h.covered]

theorem Cleared.addonPrice (h : Cleared s t l) (a : ServiceSet) : t.addonPrice a = s.addonPrice a := by
  unfold State.addonPrice
  simp only [h.service]

theorem Cleared.param (h : Cleared s t l) (p : Config.Param) : t.param p = s.param p := by
  unfold State.param
  rw [h.mgmt]

/-- A QUOTE that passes the five checks (R53). -/
theorem Cleared.refusal_none (h : Cleared s t l) {plan : Nat} {a : ServiceSet} (room : (s.lane l).queue.length ≤ 5)
    (sold : s.sells plan)
    (addons : ∀ n, n < 16 → hasService a n = true → hasService (s.plan plan).addons n = true ∧ s.covered n = true) :
    t.quoteRefusal l plan a = none :=
  quoteRefusal_none (h.queue ▸ room) ((h.sells plan).mpr sold) (fun n hn ha => h.plan plan ▸ (addons n hn ha).1)
    fun n hn ha => h.covered n ▸ (addons n hn ha).2

end

/-! ## QUOTE (R53, R54) -/

section
variable {lane plan member : Nat} {addons : ServiceSet} {s : State}

theorem exec_quote (h : Taken (.quote lane plan addons member) s) : exec (.quote lane plan addons member) s = .next (
    let u := s.without (.quote lane plan addons member)
    if s.halt.mode = .offline then u.quoteReply lane .tunnelOffline none 0
    else if (s.lane lane).isOpen = false then u.quoteReply lane .laneClosed none 0
    else
      match (u.voidQuote lane none).quoteRefusal lane plan addons with
      | some r => (u.voidQuote lane none).quoteReply lane r none 0
      | none =>
        if member = 0 then (u.voidQuote lane none).quoteCash lane plan addons
        else (u.voidQuote lane none).quoteMember lane plan addons member) := (taking_eq _ h rfl).trans rfl

theorem exec_quote_judged (h : Taken (.quote lane plan addons member) s) (mode : s.halt.mode ≠ .offline)
    (isOpen : (s.lane lane).isOpen = true) : exec (.quote lane plan addons member) s = .next (
      let t := (s.without (.quote lane plan addons member)).voidQuote lane none
      match t.quoteRefusal lane plan addons with
      | some r => t.quoteReply lane r none 0
      | none => if member = 0 then t.quoteCash lane plan addons else t.quoteMember lane plan addons member) := by
  rw [exec_quote h]
  exact (congrArg _ ((if_neg mode).trans (if_neg fun closed => by rw [isOpen] at closed; cases closed))).trans rfl

theorem exec_quote_refused (h : Taken (.quote lane plan addons member) s) (mode : s.halt.mode ≠ .offline)
    (isOpen : (s.lane lane).isOpen = true) {r : Reply}
    (refusal : ((s.without (.quote lane plan addons member)).voidQuote lane none).quoteRefusal lane plan addons = some r) :
    exec (.quote lane plan addons member) s =
      .next (((s.without (.quote lane plan addons member)).voidQuote lane none).quoteReply lane r none 0) := by
  rw [exec_quote_judged h mode isOpen]
  dsimp only
  rw [refusal]

theorem exec_quote_passed (h : Taken (.quote lane plan addons member) s) (mode : s.halt.mode ≠ .offline)
    (isOpen : (s.lane lane).isOpen = true)
    (refusal : ((s.without (.quote lane plan addons member)).voidQuote lane none).quoteRefusal lane plan addons = none) :
    exec (.quote lane plan addons member) s = .next (
      let t := (s.without (.quote lane plan addons member)).voidQuote lane none
      if member = 0 then t.quoteCash lane plan addons else t.quoteMember lane plan addons member) := by
  rw [exec_quote_judged h mode isOpen]
  dsimp only
  rw [refusal]

end

/-- A quote's fields, its state and its life timer written into the lane. -/
theorem fillSlot_setSlot_lane {s : State} {l : Nat} (hl : l < s.sales.lanes.length) (plan : Nat) (a : ServiceSet) (price : Nat)
    (m : Option Nat) (st : SlotState) (life : Timer) :
    let w := s.fillSlot l plan a price m
    (w.setSlot l { w.slot l with state := st, life := life }).lane l = { s.lane l with
      token := ((s.lane l).token + 1) % 256
      slot := { state := st, token := ((s.lane l).token + 1) % 256, plan := plan, addons := a, price := price, member := m, life := life } } := by
  have own : (s.fillSlot l plan a price m).lane l = { s.lane l with
      token := ((s.lane l).token + 1) % 256
      slot := { s.slot l with token := ((s.lane l).token + 1) % 256, plan := plan, addons := a, price := price, member := m } } :=
    lane_setLane _ hl
  have length : (s.fillSlot l plan a price m).sales.lanes.length = s.sales.lanes.length := List.length_set
  intro w
  have written : (w.setSlot l { w.slot l with state := st, life := life }).lane l =
      { w.lane l with slot := { w.slot l with state := st, life := life } } := lane_setLane _ (by rw [length]; exact hl)
  rw [written, show w.slot l = (w.lane l).slot from rfl, show w.lane l = _ from own]

/-- The state from which an offer is sent. -/
def State.offering (s : State) (l plan : Nat) (a : ServiceSet) (price : Nat) (m : Option Nat) : State :=
  let w := s.fillSlot l plan a price m
  w.setSlot l { w.slot l with state := .offered, life := some (w.param .quoteLife) }

/-- The state from which a quote left PENDING is answered. -/
def State.pended (s : State) (l plan : Nat) (a : ServiceSet) (price : Nat) (m : Option Nat) : State :=
  let w := s.fillSlot l plan a price m
  w.setSlot l { w.slot l with state := .pending }

section
variable {s : State} {l : Nat} (hl : l < s.sales.lanes.length) (plan : Nat) (a : ServiceSet) (price : Nat) (m : Option Nat)
include hl

theorem offering_lane : (s.offering l plan a price m).lane l = { s.lane l with
    token := ((s.lane l).token + 1) % 256
    slot := { state := .offered, token := ((s.lane l).token + 1) % 256, plan := plan, addons := a, price := price, member := m
              life := some (s.param .quoteLife) } } := fillSlot_setSlot_lane hl plan a price m .offered _

theorem pended_lane : (s.pended l plan a price m).lane l = { s.lane l with
    token := ((s.lane l).token + 1) % 256
    slot := { state := .pending, token := ((s.lane l).token + 1) % 256, plan := plan, addons := a, price := price, member := m
              life := ((s.fillSlot l plan a price m).slot l).life } } := fillSlot_setSlot_lane hl plan a price m .pending _

theorem fillSlot_offerSlot : (s.fillSlot l plan a price m).offerSlot l =
    (s.offering l plan a price m).quoteReply l .offered (some (((s.lane l).token + 1) % 256)) price := by
  have slot := congrArg LaneSales.slot (offering_lane hl plan a price m)
  have sent : (s.fillSlot l plan a price m).offerSlot l = (s.offering l plan a price m).quoteReply l .offered
      (some ((s.offering l plan a price m).slot l).token) ((s.offering l plan a price m).slot l).price := rfl
  rw [sent, show (s.offering l plan a price m).slot l = _ from slot]

theorem fillSlot_pendSlot : (s.fillSlot l plan a price m).pendSlot l =
    (s.pended l plan a price m).quoteReply l .pending (some (((s.lane l).token + 1) % 256)) 0 := by
  have slot := congrArg LaneSales.slot (pended_lane hl plan a price m)
  have sent : (s.fillSlot l plan a price m).pendSlot l = (s.pended l plan a price m).quoteReply l .pending
      (some ((s.pended l plan a price m).slot l).token) 0 := rfl
  rw [sent, show (s.pended l plan a price m).slot l = _ from slot]

end

theorem offering_lane_ne (s : State) {l k : Nat} (hk : k ≠ l) (plan : Nat) (a : ServiceSet) (price : Nat) (m : Option Nat) :
    (s.offering l plan a price m).lane k = s.lane k := (lane_setLane_ne _ _ hk).trans (lane_setLane_ne _ _ hk)

/-- Settles O19: the checks in their order, each from the lane with its last quote voided, and the offer's own fields. -/
theorem cashQuoteIsOffered : Obligations.CashQuoteIsOffered := by
  refine ⟨fun lane plan addons member s hl shape taken => ?_, ?_⟩
  · dsimp only
    have cleared := voidQuote_cleared shape hl (.quote lane plan addons member)
    have told {r : Reply} (h : exec (.quote lane plan addons member) s =
        .next (((s.without (.quote lane plan addons member)).voidQuote lane none).quoteReply lane r none 0)) :
        ∃ v : State, exec (.quote lane plan addons member) s = .next (v.quoteReply lane r none 0) ∧
          (v.slot lane).state = .empty ∧ (v.lane lane).token = (s.lane lane).token ∧ (v.lane lane).queue = (s.lane lane).queue ∧
          (∀ l, l ≠ lane → v.lane l = s.lane l) ∧ v.sales.orders = s.sales.orders ∧ v.portF = s.portF :=
      ⟨_, h, cleared.slot, cleared.token, cleared.queue, cleared.others, cleared.orders, cleared.portF⟩
    refine ⟨fun offline => ?_, fun mode closed => ?_, fun mode isOpen => ⟨fun full => told ?_, fun room unsold => told ?_,
      fun room sold beyond => told ?_, fun room sold allowed lost => told ?_, fun room sold allowed given cash dear => told ?_⟩⟩
    · rw [exec_quote taken]
      exact congrArg _ (if_pos offline)
    · rw [exec_quote taken]
      exact congrArg _ ((if_neg mode).trans (if_pos closed))
    · exact exec_quote_refused taken mode isOpen (quoteRefusal_laneFull (by rw [cleared.queue]; exact full))
    · exact exec_quote_refused taken mode isOpen
        (quoteRefusal_planClosed (by rw [cleared.queue]; exact room) (mt (cleared.sells plan).mp unsold))
    · exact exec_quote_refused taken mode isOpen (quoteRefusal_addonNotAllowed (by rw [cleared.queue]; exact room)
        ((cleared.sells plan).mpr sold) (by rw [cleared.plan]; exact beyond))
    · exact exec_quote_refused taken mode isOpen (quoteRefusal_addonUnavailable (by rw [cleared.queue]; exact room)
        ((cleared.sells plan).mpr sold) (by rw [cleared.plan]; exact allowed) (by simp only [cleared.covered]; exact lost))
    · rw [exec_quote_passed taken mode isOpen (cleared.refusal_none room sold fun n hn ha => ⟨allowed n hn ha, given n hn ha⟩)]
      refine congrArg _ ((if_pos cash).trans (if_pos ?_))
      rw [cleared.plan, cleared.addonPrice]
      exact dear
  · intro lane plan addons s hl shape taken mode isOpen room low planOpen base allowed
    dsimp only
    intro affordable
    have cleared := voidQuote_cleared shape hl (.quote lane plan addons 0)
    have passed := exec_quote_passed taken mode isOpen (cleared.refusal_none room ⟨low, planOpen, base⟩ allowed)
    dsimp only at passed
    generalize (s.without (.quote lane plan addons 0)).voidQuote lane none = t at cleared passed
    have length : lane < t.sales.lanes.length := by rw [cleared.shape.lanes]; exact hl
    have price : (t.plan plan).price + t.addonPrice addons = (s.plan plan).price + s.addonPrice addons := by
      rw [cleared.plan, cleared.addonPrice]
    have cash : t.quoteCash lane plan addons =
        (t.fillSlot lane plan addons ((s.plan plan).price + s.addonPrice addons) none).offerSlot lane := by
      unfold State.quoteCash
      rw [price]
      exact if_neg (Nat.not_lt.mpr affordable)
    rw [if_pos rfl, cash, fillSlot_offerSlot length, cleared.token] at passed
    refine ⟨_, passed, ?_, fun l hne => (offering_lane_ne t hne ..).trans (cleared.others l hne), cleared.orders, cleared.free⟩
    rw [offering_lane length, cleared.token, cleared.param, cleared.lane]

/-! ## Quotes with a member (R55, R76, R77) -/

theorem memberRefusal_limit {m : Member} {tier : Nat} (h : m.limit ≤ m.uses) : memberRefusal m tier = some .memberLimit := if_pos h

theorem memberRefusal_tier {m : Member} {tier : Nat} (room : m.uses < m.limit) (h : m.tier < tier) :
    memberRefusal m tier = some .memberTier := (if_neg (Nat.not_le.mpr room)).trans (if_pos h)

theorem memberRefusal_none {m : Member} {tier : Nat} (room : m.uses < m.limit) (h : tier ≤ m.tier) :
    memberRefusal m tier = none := (if_neg (Nat.not_le.mpr room)).trans (if_neg (Nat.not_lt.mpr h))

theorem lookup_hit {s : State} {id n : Nat} (h : s.memberIndex id = some n) (l tier : Nat) :
    s.lookup l id tier = s.lookupHit n tier := by
  unfold State.lookup
  rw [h]

theorem lookup_miss {s : State} {id : Nat} (h : s.memberIndex id = none) (l tier : Nat) :
    s.lookup l id tier = s.lookupMiss l id tier := by
  unfold State.lookup
  rw [h]

/-- The slot and the token counter of a lane as a quote fills them. -/
structure QuoteFilled (s u : State) (lane plan : Nat) (a : ServiceSet) (price id : Nat) (st : SlotState) : Prop where
  state : (u.slot lane).state = st
  token : (u.slot lane).token = ((s.lane lane).token + 1) % 256
  plan : (u.slot lane).plan = plan
  addons : (u.slot lane).addons = a
  price : (u.slot lane).price = price
  member : (u.slot lane).member = some id
  counter : (u.lane lane).token = ((s.lane lane).token + 1) % 256

section
variable {s : State} {l : Nat} (hl : l < s.sales.lanes.length) (plan : Nat) (a : ServiceSet) (price id : Nat)
include hl

theorem offering_filled : QuoteFilled s (s.offering l plan a price (some id)) l plan a price id .offered ∧
    ((s.offering l plan a price (some id)).slot l).life = some (s.param .quoteLife) := by
  have lane := offering_lane hl plan a price (some id)
  have slot := congrArg LaneSales.slot lane
  exact ⟨⟨congrArg Slot.state slot, congrArg Slot.token slot, congrArg Slot.plan slot, congrArg Slot.addons slot,
    congrArg Slot.price slot, congrArg Slot.member slot, congrArg LaneSales.token lane⟩, congrArg Slot.life slot⟩

theorem pended_filled : QuoteFilled s (s.pended l plan a price (some id)) l plan a price id .pending := by
  have lane := pended_lane hl plan a price (some id)
  have slot := congrArg LaneSales.slot lane
  exact ⟨congrArg Slot.state slot, congrArg Slot.token slot, congrArg Slot.plan slot, congrArg Slot.addons slot,
    congrArg Slot.price slot, congrArg Slot.member slot, congrArg LaneSales.token lane⟩

end

theorem offering_members (s : State) (l plan : Nat) (a : ServiceSet) (price : Nat) (m : Option Nat) :
    (s.offering l plan a price m).members = s.members := rfl

theorem pended_members (s : State) (l plan : Nat) (a : ServiceSet) (price : Nat) (m : Option Nat) :
    (s.pended l plan a price m).members = s.members := rfl

/-- The fields as they stand where the lane was as before the void. -/
theorem QuoteFilled.of_lane {s t u : State} {lane plan : Nat} {a : ServiceSet} {price id : Nat} {st : SlotState}
    (h : QuoteFilled t u lane plan a price id st) (same : (t.lane lane).token = (s.lane lane).token) :
    QuoteFilled s u lane plan a price id st := by
  obtain ⟨state, token, hplan, addons, hprice, member, counter⟩ := h
  rw [same] at token counter
  exact ⟨state, token, hplan, addons, hprice, member, counter⟩

section
variable {t : State} {lane plan id tier : Nat} {a : ServiceSet} {price : Nat}

/-- A refusal by the Member Cache: the lane stays as the void left it. -/
theorem quoteAnswered_refused {u : State} {r : Reply} (h : t.lookup lane id tier = (u, .refused r)) :
    quoteAnswered (t.lookup lane id tier) lane plan a price id = u.quoteReply lane r none 0 := by
  rw [h]
  rfl

theorem quoteAnswered_accepted {u : State} (h : t.lookup lane id tier = (u, .accepted)) (hl : lane < u.sales.lanes.length) :
    quoteAnswered (t.lookup lane id tier) lane plan a price id = (u.offering lane plan a price (some id)).quoteReply lane .offered
      (some (((u.lane lane).token + 1) % 256)) price := by
  rw [h]
  exact fillSlot_offerSlot hl plan a price (some id)

theorem quoteAnswered_waiting {u : State} (h : t.lookup lane id tier = (u, .waiting)) (hl : lane < u.sales.lanes.length) :
    quoteAnswered (t.lookup lane id tier) lane plan a price id = (u.pended lane plan a price (some id)).quoteReply lane .pending
      (some (((u.lane lane).token + 1) % 256)) 0 := by
  rw [h]
  exact fillSlot_pendSlot hl plan a price (some id)

end

/-- Settles O20: the Member Cache's answer, case by case, and what the QUOTE makes of it. -/
theorem memberQuoteIsAnswered : Obligations.MemberQuoteIsAnswered := by
  intro lane plan addons id s hl shape hid taken mode isOpen room low planOpen base allowed
  dsimp only
  have cleared := voidQuote_cleared shape hl (.quote lane plan addons id)
  have passed := exec_quote_passed taken mode isOpen (cleared.refusal_none room ⟨low, planOpen, base⟩ allowed)
  dsimp only at passed
  rw [if_neg hid] at passed
  generalize (s.without (.quote lane plan addons id)).voidQuote lane none = t at cleared passed ⊢
  rw [quoteMember_eq, cleared.addonPrice, cleared.plan] at passed
  have length : lane < t.sales.lanes.length := by rw [cleared.shape.lanes]; exact hl
  have node : t.node 0 = s.node 0 := congrArg (fun ns : List NodeRecord => ns.getD 0 _) cleared.nodes
  have asked (affordable : s.addonPrice addons ≤ 65535) := passed.trans (congrArg _ (if_neg (Nat.not_lt.mpr affordable)))
  have refused {u : State} {r : Reply} (affordable : s.addonPrice addons ≤ 65535)
      (h : t.lookup lane id (s.plan plan).tier = (u, .refused r)) (sales : u.sales = t.sales) :
      ∃ u : State, exec (.quote lane plan addons id) s = .next (u.quoteReply lane r none 0) ∧
        (u.slot lane).state = .empty ∧ (u.lane lane).token = (s.lane lane).token := by
    refine ⟨u, (asked affordable).trans (congrArg _ (quoteAnswered_refused h)), ?_, ?_⟩
    · rw [State.slot, lane_of_sales sales]
      exact cleared.slot
    · rw [lane_of_sales sales]
      exact cleared.token
  have joined {u : State} (affordable : s.addonPrice addons ≤ 65535)
      (h : t.lookup lane id (s.plan plan).tier = (u, .waiting)) (sales : u.sales = t.sales) :
      exec (.quote lane plan addons id) s = .next ((u.pended lane plan addons (s.addonPrice addons) (some id)).quoteReply lane
        .pending (some (((s.lane lane).token + 1) % 256)) 0) ∧
      QuoteFilled s (u.pended lane plan addons (s.addonPrice addons) (some id)) lane plan addons (s.addonPrice addons) id .pending := by
    have lengthNow : lane < u.sales.lanes.length := by rw [sales]; exact length
    have token : (u.lane lane).token = (s.lane lane).token := by rw [lane_of_sales sales, cleared.token]
    refine ⟨(asked affordable).trans (congrArg _ ?_), (pended_filled lengthNow ..).of_lane token⟩
    rw [quoteAnswered_waiting h lengthNow, token]
  refine ⟨fun dear => ⟨passed.trans (congrArg _ (if_pos dear)), cleared.slot, cleared.token⟩, fun affordable n found => ?_,
    fun affordable unknown => ⟨fun silent => ?_, fun heard n pending => ?_, fun heard unasked n free => ?_,
      fun heard unasked full => ?_⟩⟩
  · have hit := lookup_hit found lane (s.plan plan).tier
    refine ⟨fun full => ?_, fun room low => ?_, fun room high => ?_⟩
    · exact refused affordable (hit.trans (lookupHit_refused (memberRefusal_limit full))) (found_sales t n)
    · exact refused affordable (hit.trans (lookupHit_refused (memberRefusal_tier room low))) (found_sales t n)
    · have accepted := hit.trans (lookupHit_accepted (memberRefusal_none room high))
      have sales : ((t.found n).setMember n (t.memberRec n).referred).sales = t.sales := found_sales t n
      have mgmt : ((t.found n).setMember n (t.memberRec n).referred).mgmt = s.mgmt := by
        refine Eq.trans ?_ cleared.mgmt
        unfold State.found
        split <;> rfl
      have records : (t.found n).members.records = t.members.records := by
        unfold State.found
        split <;> rfl
      have lengthNow : lane < ((t.found n).setMember n (t.memberRec n).referred).sales.lanes.length := by rw [sales]; exact length
      have token : (((t.found n).setMember n (t.memberRec n).referred).lane lane).token = (s.lane lane).token := by
        rw [lane_of_sales sales, cleared.token]
      obtain ⟨fields, life⟩ := offering_filled lengthNow plan addons (s.addonPrice addons) id
      obtain ⟨state, slotToken, hplan, haddons, hprice, member, counter⟩ := fields.of_lane token
      refine ⟨_, (asked affordable).trans (congrArg _ ((quoteAnswered_accepted accepted lengthNow).trans (by rw [token]))),
        ⟨state, slotToken, hplan, haddons, hprice, member, counter⟩, ?_, ?_⟩
      · rw [life, State.param, mgmt]
        rfl
      · rw [State.memberRec, offering_members]
        exact memberRec_setMember (s := t.found n) _ (by
          rw [records, cleared.shape.records]
          exact memberIndex_lt found)
  · exact refused affordable ((lookup_miss unknown ..).trans (lookupMiss_silent (by rw [node]; exact silent) ..)) rfl
  · have answer := (lookup_miss unknown lane (s.plan plan).tier).trans (lookupMiss_joined (by rw [node, heard]; decide) pending ..)
    obtain ⟨hexec, state, token, hplan, haddons, hprice, member, counter⟩ := joined affordable answer rfl
    refine ⟨_, hexec, ⟨state, token, hplan, haddons, hprice, member, counter⟩, ?_⟩
    rw [State.fetch, pended_members]
    exact fetch_setFetch _ (by rw [cleared.shape.fetches]; exact fetchIndex_lt pending)
  · have answer := (lookup_miss unknown lane (s.plan plan).tier).trans
      (lookupMiss_asked (by rw [node, heard]; decide) unasked free ..)
    have sent := toSite_frame (t.setFetch n (t.newFetch lane id (s.plan plan).tier)) Config.kMemberFetch (be24 id)
    obtain ⟨hexec, state, token, hplan, haddons, hprice, member, counter⟩ := joined affordable answer (sent.same .sales (by decide))
    refine ⟨_, hexec, ⟨state, token, hplan, haddons, hprice, member, counter⟩, ?_, toSite_portS _ _ _ _ cleared.portS⟩
    have wait : t.newFetch lane id (s.plan plan).tier = {
        id := some id
        waiting := (List.replicate 3 none).set lane (some (s.plan plan).tier)
        timer := some (s.param .fetchWait) } := by
      rw [State.newFetch, cleared.param]
      rfl
    rw [← wait, State.fetch, pended_members,
      show (State.toSite _ Config.kMemberFetch (be24 id)).members = _ from sent.same .members (by decide)]
    exact fetch_setFetch _ (by rw [cleared.shape.fetches]; exact List.mem_range.mp (List.mem_of_find?_eq_some free))
  · exact refused affordable ((lookup_miss unknown ..).trans (lookupMiss_busy (by rw [node, heard]; decide) unasked full ..)) rfl

end Sys2Proof.Machine
end

section
/-!
Waiting lanes answered, in lane order (R76, R81 to R83, R90): what each lane's kiosk is sent and what its slot becomes.
-/
namespace Sys2Proof.Machine

-- Proofs in order: a thread that waits for another proof counts against the check's memory limit.
set_option Elab.async false

/-! ## Lanes answered one after another -/

/-- The lanes of a list answered, each with the token of its slot. -/
def State.answered (s : State) (answer : Nat → Option (Reply × Nat)) (done : List Nat) : State :=
  done.foldl (fun u l => match answer l with
    | some (r, price) => u.quoteReply l r (some (s.slot l).token) price
    | none => u) s

theorem answered_lanes (s : State) (answer : Nat → Option (Reply × Nat)) : s.answered answer [0, 1, 2] = s.answerLanes answer := rfl

theorem answered_frame (s : State) (answer : Nat → Option (Reply × Nat)) (done : List Nat) :
    SameExcept [.portF, .mgmt] s (s.answered answer done) := by
  refine SameExcept.foldl (fun t a => ?_) _ s
  split
  · exact quoteReply_frame ..
  · exact .refl

theorem answered_some {s : State} {answer : Nat → Option (Reply × Nat)} {l price : Nat} {r : Reply} (h : answer l = some (r, price))
    (done : List Nat) : s.answered answer (done ++ [l]) = (s.answered answer done).quoteReply l r (some (s.slot l).token) price := by
  unfold State.answered
  rw [List.foldl_append, List.foldl_cons, List.foldl_nil, h]

theorem answered_none {s : State} {answer : Nat → Option (Reply × Nat)} {l : Nat} (h : answer l = none) (done : List Nat) :
    s.answered answer (done ++ [l]) = s.answered answer done := by
  unfold State.answered
  rw [List.foldl_append, List.foldl_cons, List.foldl_nil, h]

/-- Some lanes have been answered, their slots as they are to be; the other slots stand. -/
structure Settling (s u : State) (answer : Nat → Option (Reply × Nat)) (after : Nat → Slot) (done : List Nat) : Prop where
  nodes : u.nodes = s.nodes
  lanes : u.sales.lanes.length = 3
  portF : u.portF = (s.answered answer done).portF
  slots : ∀ l, l < 3 → u.slot l = if l ∈ done ∧ answer l ≠ none then after l else s.slot l

/-- One lane's kiosk has been answered and its slot written; the other slots stand. -/
structure LaneAnswered (u v : State) (l : Nat) (r : Reply) (price : Nat) (q : Slot) : Prop where
  nodes : v.nodes = u.nodes
  length : v.sales.lanes.length = u.sales.lanes.length
  portF : v.portF = (u.quoteReply l r (some (u.slot l).token) price).portF
  slot : v.slot l = q
  others : ∀ k, k ≠ l → v.slot k = u.slot k

section
variable {s u v : State} {answer : Nat → Option (Reply × Nat)} {after : Nat → Slot} {done : List Nat} {l : Nat}

theorem Settling.start (nodes : u.nodes = s.nodes) (lanes : u.sales.lanes.length = 3) (portF : u.portF = s.portF)
    (slots : ∀ l, u.slot l = s.slot l) (answer : Nat → Option (Reply × Nat)) (after : Nat → Slot) : Settling s u answer after [] :=
  ⟨nodes, lanes, portF, fun l _ => (slots l).trans (if_neg fun h => List.not_mem_nil h.1).symm⟩

/-- A lane not yet answered has its slot as it was. -/
theorem Settling.slot (h : Settling s u answer after done) (hl : l < 3) (new : l ∉ done) : u.slot l = s.slot l :=
  (h.slots l hl).trans (if_neg fun k => new k.1)

theorem Settling.tell {r : Reply} {price : Nat} (h : Settling s u answer after done) (hl : l < 3) (new : l ∉ done)
    (told : answer l = some (r, price)) (a : LaneAnswered u v l r price (after l)) : Settling s v answer after (done ++ [l]) := by
  refine ⟨a.nodes.trans h.nodes, a.length.trans h.lanes, ?_, fun k hk => ?_⟩
  · rw [a.portF, answered_some told, h.slot hl new]
    exact quoteReply_portF _ _ _ _ _ _ (h.nodes.trans ((answered_frame s answer done).same .nodes (by decide)).symm) h.portF
  · by_cases hkl : k = l
    · subst hkl
      rw [a.slot, if_pos ⟨List.mem_append_right _ List.mem_cons_self, by rw [told]; exact Option.some_ne_none _⟩]
    · rw [a.others k hkl, h.slots k hk]
      have mem : k ∈ done ++ [l] ↔ k ∈ done := by
        rw [List.mem_append, List.mem_singleton]
        exact or_iff_left hkl
      simp only [mem]

theorem Settling.pass (h : Settling s u answer after done) (silent : answer l = none) : Settling s u answer after (done ++ [l]) := by
  refine ⟨h.nodes, h.lanes, by rw [answered_none silent]; exact h.portF, fun k hk => ?_⟩
  rw [h.slots k hk]
  by_cases hkl : k = l
  · subst hkl
    rw [if_neg fun h => h.2 silent, if_neg fun h => h.2 silent]
  · have mem : k ∈ done ++ [l] ↔ k ∈ done := by
      rw [List.mem_append, List.mem_singleton]
      exact or_iff_left hkl
    simp only [mem]

end

/-- What holds before the waiting lanes are taken and is carried from lane to lane holds after them. -/
theorem forWaiting_rule {R : List Nat → State → Prop} {s : State} {w : List (Option Nat)} {g : State → Nat → Nat → State}
    (start : R [] s) (pass : ∀ l done u, w.getD l none = none → R done u → R (done ++ [l]) u)
    (take : ∀ l done u tier, l < 3 → l ∉ done → w.getD l none = some tier → R done u → R (done ++ [l]) (g u l tier)) :
    R [0, 1, 2] (s.forWaiting w g) := by
  have one (l : Nat) (done : List Nat) (u : State) (hl : l < 3) (new : l ∉ done) (h : R done u) : R (done ++ [l])
      (match w.getD l none with
        | some tier => g u l tier
        | none => u) := by
    split
    next tier hw => exact take l done u tier hl new hw h
    next hw => exact pass l done u hw h
  exact one 2 [0, 1] _ (by decide) (by decide) (one 1 [0] _ (by decide) (by decide) (one 0 [] s (by decide) (by decide) start))

/-! ## Lanes refused (R81, R83) -/

/-- A slot left EMPTY. -/
def Slot.emptied (q : Slot) : Slot := { q with state := .empty, life := none }

theorem reply_slot (s : State) (l k : Nat) (r : Reply) (t : Option Nat) (price : Nat) : (s.quoteReply l r t price).slot k = s.slot k :=
  congrArg LaneSales.slot (lane_of_sales (quoteReply_sales ..) k)

theorem setSlot_slot {s : State} {l : Nat} (hl : l < s.sales.lanes.length) (q : Slot) : (s.setSlot l q).slot l = q :=
  congrArg LaneSales.slot (lane_setLane _ hl)

theorem setSlot_slot_ne (s : State) {l k : Nat} (hk : k ≠ l) (q : Slot) : (s.setSlot l q).slot k = s.slot k :=
  congrArg LaneSales.slot (lane_setLane_ne s _ hk)

/-- A slot written and the kiosk answered. -/
theorem setSlot_answered {s : State} {l : Nat} (hl : l < s.sales.lanes.length) (q : Slot) (r : Reply) (price : Nat) :
    LaneAnswered s ((s.setSlot l q).quoteReply l r (some (s.slot l).token) price) l r price q where
  nodes := (quoteReply_frame ..).same .nodes (by decide)
  length := by
    rw [quoteReply_sales]
    exact List.length_set
  portF := quoteReply_portF s (s.setSlot l q) l r _ price rfl rfl
  slot := by rw [reply_slot, setSlot_slot hl]
  others k hk := by rw [reply_slot, setSlot_slot_ne s hk]

theorem refusePending_answered {s : State} {l : Nat} (hl : l < s.sales.lanes.length) (r : Reply) :
    LaneAnswered s (s.refusePending l r) l r 0 (s.slot l).emptied := setSlot_answered hl _ r 0

/-- The waiting lanes refused, the accounts as they were (R81, R83). -/
theorem refused_settled {s u : State} (r : Reply) (w : List (Option Nat)) (nodes : u.nodes = s.nodes) (lanes : u.sales.lanes.length = 3)
    (portF : u.portF = s.portF) (slots : ∀ l, u.slot l = s.slot l) :
    WaitersRefused r w s (u.forWaiting w fun v l _ => v.refusePending l r) ∧
      (u.forWaiting w fun v l _ => v.refusePending l r).members = u.members := by
  have run := forWaiting_rule (s := u) (w := w) (g := fun v l _ => v.refusePending l r)
    (R := fun done v => Settling s v (fun l => (w.getD l none).map fun _ => (r, 0)) (fun l => (s.slot l).emptied) done ∧
      v.members = u.members)
    ⟨.start nodes lanes portF slots _ _, rfl⟩
    (fun l done v hw ⟨h, members⟩ => ⟨h.pass (by rw [hw]; rfl), members⟩)
    (fun l done v tier hl new hw ⟨h, members⟩ => ⟨h.tell hl new (by rw [hw]; rfl)
      (h.slot hl new ▸ refusePending_answered (by rw [h.lanes]; exact hl) r),
      ((refusePending_frame ..).same .members (by decide)).trans members⟩)
  obtain ⟨⟨-, -, portF, slots⟩, members⟩ := run
  refine ⟨⟨portF, fun l hl => ?_⟩, members⟩
  rw [slots l hl]
  have mem : l ∈ [0, 1, 2] := by
    rw [List.mem_cons, List.mem_cons, List.mem_singleton]
    omega
  cases hw : w.getD l none with
  | none => rw [if_neg fun h => h.2 rfl, if_pos rfl]
  | some tier => rw [if_pos ⟨mem, Option.some_ne_none _⟩, if_neg (Option.some_ne_none _)]; rfl

/-! ## Lanes judged against an account (R76, R82) -/

/-- The checks of a hit are the outcome for its account. -/
theorem memberRefusal_outcome (m : Member) (need : Nat) : memberRefusal m need =
    if outcomeFor m.tier m.limit m.uses need = .offered then none else some (outcomeFor m.tier m.limit m.uses need) := by
  unfold memberRefusal outcomeFor
  split
  · rfl
  · split <;> rfl

/-- Clamping the uses to the limit changes no outcome. -/
theorem outcomeFor_clamped (tier limit uses need : Nat) : outcomeFor tier limit (min uses limit) need = outcomeFor tier limit uses need := by
  unfold outcomeFor
  have same : limit ≤ min uses limit ↔ limit ≤ uses := by omega
  simp only [same]

theorem resolveLane_refused {s : State} {v l need : Nat} {r : Reply} (h : memberRefusal (s.memberRec v) need = some r) :
    s.resolveLane v l need = s.refusePending l r := by
  unfold State.resolveLane
  rw [h]

theorem resolveLane_offered {s : State} {v l need : Nat} (h : memberRefusal (s.memberRec v) need = none) :
    s.resolveLane v l need = (s.setMember v (s.memberRec v).referred).offerSlot l := by
  unfold State.resolveLane
  rw [h]
  rfl

/-- A slot that offers its quote, the life timer loaded. -/
def Slot.offering (q : Slot) (life : Nat) : Slot := { q with state := .offered, life := some life }

theorem offerSlot_answered {s : State} {l : Nat} (hl : l < s.sales.lanes.length) :
    LaneAnswered s (s.offerSlot l) l .offered (s.slot l).price ((s.slot l).offering (s.param .quoteLife)) := by
  have slot : (s.setSlot l ((s.slot l).offering (s.param .quoteLife))).slot l = _ := setSlot_slot hl _
  have sent : s.offerSlot l = (s.setSlot l ((s.slot l).offering (s.param .quoteLife))).quoteReply l .offered
      (some ((s.setSlot l ((s.slot l).offering (s.param .quoteLife))).slot l).token)
      ((s.setSlot l ((s.slot l).offering (s.param .quoteLife))).slot l).price := rfl
  rw [sent, slot]
  exact setSlot_answered hl _ .offered (s.slot l).price

/-- What waiting lanes judged against an account leave of its record and of the Member Cache. -/
structure Judged (u v : State) (n refs : Nat) : Prop where
  rec_ : v.memberRec n = { u.memberRec n with refs := (u.memberRec n).refs + refs }
  records : v.members.records.length = u.members.records.length
  recency : v.members.recency = u.members.recency
  fetches : v.members.fetches = u.members.fetches
  params : v.mgmt.params = u.mgmt.params

theorem Judged.same {u v w : State} {n refs : Nat} (h : Judged u v n refs) (members : w.members = v.members)
    (params : w.mgmt.params = v.mgmt.params) : Judged u w n refs :=
  ⟨(congrArg (fun m : Members => m.records.getD n .blank) members).trans h.rec_, by rw [members]; exact h.records,
    by rw [members]; exact h.recency, by rw [members]; exact h.fetches, params.trans h.params⟩

theorem Judged.referred {u v w : State} {n refs : Nat} (h : Judged u v n refs) (hn : n < u.members.records.length)
    (members : w.members = (v.setMember n (v.memberRec n).referred).members) (params : w.mgmt.params = v.mgmt.params) :
    Judged u w n (refs + 1) := by
  have own : (v.setMember n (v.memberRec n).referred).memberRec n = (v.memberRec n).referred :=
    memberRec_setMember _ (by rw [h.records]; exact hn)
  refine ⟨(congrArg (fun m : Members => m.records.getD n .blank) members).trans (own.trans ?_), ?_, by rw [members]; exact h.recency,
    by rw [members]; exact h.fetches, params.trans h.params⟩
  · rw [h.rec_]
    rfl
  · rw [members]
    exact List.length_set.trans h.records

/-- What a lane that waits for an account is told. -/
def verdict (tier limit uses : Nat) (s : State) (l need : Nat) : Reply × Nat :=
  let r := outcomeFor tier limit uses need
  (r, if r = .offered then (s.slot l).price else 0)

/-- What a lane's slot becomes where its quote waits for an account. -/
def judgedSlot (tier limit uses : Nat) (s : State) (w : List (Option Nat)) (l : Nat) : Slot :=
  match w.getD l none with
  | some need => if outcomeFor tier limit uses need = .offered then (s.slot l).offering (s.param .quoteLife) else (s.slot l).emptied
  | none => s.slot l

theorem judgedSlot_some {tier limit uses : Nat} {s : State} {w : List (Option Nat)} {l need : Nat} (h : w.getD l none = some need) :
    judgedSlot tier limit uses s w l =
      if outcomeFor tier limit uses need = .offered then (s.slot l).offering (s.param .quoteLife) else (s.slot l).emptied := by
  unfold judgedSlot
  rw [h]

/-- The account accepts the lane's waiting quote. -/
def accepts (tier limit uses : Nat) (w : List (Option Nat)) (l : Nat) : Bool :=
  (w.getD l none).any fun need => outcomeFor tier limit uses need == .offered

theorem accepts_none {tier limit uses : Nat} {w : List (Option Nat)} {l : Nat} (h : w.getD l none = none) :
    accepts tier limit uses w l = false := by
  unfold accepts
  rw [h]
  rfl

theorem accepts_some {tier limit uses : Nat} {w : List (Option Nat)} {l need : Nat} (h : w.getD l none = some need) :
    accepts tier limit uses w l = (outcomeFor tier limit uses need == .offered) := by
  unfold accepts
  rw [h]
  rfl

/-- One lane judged: answered by the outcome, the record referred to once more where it accepts. -/
theorem resolveLane_judged {s u v : State} {w : List (Option Nat)} {n l need tier limit uses : Nat} {done : List Nat}
    (outcome : ∀ need, memberRefusal (u.memberRec n) need =
      if outcomeFor tier limit uses need = .offered then none else some (outcomeFor tier limit uses need))
    (hn : n < u.members.records.length) (params : u.mgmt.params = s.mgmt.params) (hl : l < 3) (new : l ∉ done)
    (hw : w.getD l none = some need)
    (h : Settling s v (fun l => (w.getD l none).map (verdict tier limit uses s l)) (judgedSlot tier limit uses s w) done)
    (j : Judged u v n (done.countP (accepts tier limit uses w))) :
    Settling s (v.resolveLane n l need) (fun l => (w.getD l none).map (verdict tier limit uses s l)) (judgedSlot tier limit uses s w)
        (done ++ [l]) ∧
      Judged u (v.resolveLane n l need) n ((done ++ [l]).countP (accepts tier limit uses w)) := by
  have refusal : memberRefusal (v.memberRec n) need = memberRefusal (u.memberRec n) need := by rw [j.rec_]; rfl
  have lengthV : l < v.sales.lanes.length := by rw [h.lanes]; exact hl
  have slot := h.slot hl new
  have told : (w.getD l none).map (verdict tier limit uses s l) = some (verdict tier limit uses s l need) := by
    rw [hw]
    rfl
  have count : (done ++ [l]).countP (accepts tier limit uses w) =
      done.countP (accepts tier limit uses w) + if outcomeFor tier limit uses need = .offered then 1 else 0 := by
    rw [List.countP_append, List.countP_singleton, accepts_some hw]
    simp only [beq_iff_eq]
  have paramsKept : (v.resolveLane n l need).mgmt.params = v.mgmt.params := (resolveLane_orderly v n l need).params
  rw [outcome] at refusal
  rw [count]
  by_cases offered : outcomeFor tier limit uses need = .offered
  · rw [if_pos offered] at refusal
    rw [if_pos offered]
    have answered := offerSlot_answered (s := v.setMember n (v.memberRec n).referred) lengthV
    rw [show (v.setMember n (v.memberRec n).referred).slot l = s.slot l from slot,
      show (v.setMember n (v.memberRec n).referred).param .quoteLife = s.param .quoteLife from
        congrArg (fun ps : List Nat => ps.getD _ 0) (j.params.trans params)] at answered
    have sent : LaneAnswered v (v.resolveLane n l need) l .offered (s.slot l).price (judgedSlot tier limit uses s w l) := by
      rw [judgedSlot_some hw, if_pos offered, resolveLane_offered refusal]
      exact ⟨answered.nodes, answered.length, answered.portF.trans (quoteReply_portF _ _ _ _ _ _ rfl rfl), answered.slot, answered.others⟩
    refine ⟨h.tell hl new ?_ sent, j.referred hn ?_ paramsKept⟩
    · rw [told, verdict, offered]
      rfl
    · rw [resolveLane_offered refusal]
      exact (offerSlot_frame ..).same .members (by decide)
  · rw [if_neg offered] at refusal
    rw [if_neg offered]
    have sent : LaneAnswered v (v.resolveLane n l need) l (outcomeFor tier limit uses need) 0 (judgedSlot tier limit uses s w l) := by
      rw [judgedSlot_some hw, if_neg offered, resolveLane_refused refusal, ← slot]
      exact refusePending_answered lengthV _
    refine ⟨h.tell hl new ?_ sent, j.same ?_ paramsKept⟩
    · rw [told, verdict]
      exact congrArg (fun p => some (_, p)) (if_neg offered)
    · rw [resolveLane_refused refusal]
      exact (refusePending_frame ..).same .members (by decide)

/-- The waiting lanes judged against the account of a record, the rest of the Member Cache as it was (R76, R82). -/
theorem judged_settled {s u : State} {n tier limit uses : Nat} (w : List (Option Nat))
    (outcome : ∀ need, memberRefusal (u.memberRec n) need =
      if outcomeFor tier limit uses need = .offered then none else some (outcomeFor tier limit uses need))
    (hn : n < u.members.records.length) (nodes : u.nodes = s.nodes) (lanes : u.sales.lanes.length = 3) (portF : u.portF = s.portF)
    (slots : ∀ l, u.slot l = s.slot l) (params : u.mgmt.params = s.mgmt.params) :
    WaitersJudged tier limit uses w s (u.forWaiting w fun v l need => v.resolveLane n l need) ∧
      Judged u (u.forWaiting w fun v l need => v.resolveLane n l need) n (acceptedOf tier limit uses w) := by
  have run := forWaiting_rule (s := u) (w := w) (g := fun v l need => v.resolveLane n l need)
    (R := fun done v =>
      Settling s v (fun l => (w.getD l none).map (verdict tier limit uses s l)) (judgedSlot tier limit uses s w) done ∧
        Judged u v n (done.countP (accepts tier limit uses w)))
    ⟨.start nodes lanes portF slots _ _, rfl, rfl, rfl, rfl, rfl⟩
    (fun l done v hw ⟨h, j⟩ => ⟨h.pass (by rw [hw]; rfl), by
      rw [List.countP_append, List.countP_singleton, accepts_none hw]
      exact j⟩)
    (fun l done v need hl new hw ⟨h, j⟩ => resolveLane_judged outcome hn params hl new hw h j)
  obtain ⟨⟨-, -, portF, slots⟩, j⟩ := run
  refine ⟨⟨portF, fun l hl => ?_⟩, j⟩
  have mem : l ∈ [0, 1, 2] := by
    rw [List.mem_cons, List.mem_cons, List.mem_singleton]
    omega
  refine ⟨fun hw => ?_, fun need hw => ?_⟩
  · exact (slots l hl).trans (if_neg fun h => h.2 (by rw [hw]; rfl))
  · have own : (u.forWaiting w fun v l need => v.resolveLane n l need).slot l = judgedSlot tier limit uses s w l :=
      (slots l hl).trans (if_pos ⟨mem, by rw [hw]; exact Option.some_ne_none _⟩)
    rw [judgedSlot_some hw] at own
    exact ⟨fun offered => own.trans (if_pos offered), fun refused => own.trans (if_neg refused)⟩

end Sys2Proof.Machine
end

section
/-!
The fetch's answers and its expiry (R79 to R87): the obligation O25.
-/
namespace Sys2Proof.Machine

-- Proofs in order: a thread that waits for another proof counts against the check's memory limit.
set_option Elab.async false

/-! ## The victim's write-back (R86, R87) -/

/-- What Port S is sent where a record is displaced: a dirty one's uses. -/
def State.displacing (s : State) (v : Nat) : Port :=
  if (s.memberRec v).state ≠ .free ∧ (s.memberRec v).dirty = true then (s.writeBack (s.memberRec v)).portS else s.portS

theorem evict_portS {s t : State} {v : Nat} (rec_ : t.memberRec v = s.memberRec v) (portS : t.portS = s.portS) :
    (t.evict v).portS = s.displacing v := by
  unfold State.evict State.displacing
  rw [rec_]
  dsimp only
  split
  · exact toSite_portS _ _ _ _ portS
  · exact portS

theorem evict_params (s : State) (v : Nat) : (s.evict v).mgmt.params = s.mgmt.params := (evict_orderly s v).params

/-! ## MEMBER_DATA (R79, R81, R82, R84, R85) -/

theorem badMemberData_iff {id known tier limit uses : Nat} : badMemberData id known tier limit uses = true ↔
    id = 0 ∨ 1 < known ∨ known = 1 ∧ (7 < tier ∨ 15 < limit ∨ 15 < uses) := by
  have other : known ≠ 0 ∧ known ≠ 1 ↔ 1 < known := by omega
  unfold badMemberData
  simp only [Bool.or_eq_true, Bool.and_eq_true, beq_iff_eq, bne_iff_ne, decide_eq_true_eq, other, or_assoc]

section
variable {id known tier limit uses : Nat} {s : State}

theorem exec_memberData (h : Taken (.memberData id known tier limit uses) s) : exec (.memberData id known tier limit uses) s = .next (
    let u := s.without (.memberData id known tier limit uses)
    if badMemberData id known tier limit uses then u.notifyMember 4 id
    else match s.fetchIndex id with
      | some n => if known = 1 then u.fetchFill n id tier limit uses else u.fetchRefuse n .memberUnknown
      | none => u.unsolicited id known tier limit uses) := (taking_eq _ h rfl).trans rfl

theorem exec_memberData_awaited (h : Taken (.memberData id known tier limit uses) s)
    (good : ¬badMemberData id known tier limit uses = true) {n : Nat} (hn : s.fetchIndex id = some n) :
    exec (.memberData id known tier limit uses) s = .next (
      let u := s.without (.memberData id known tier limit uses)
      if known = 1 then u.fetchFill n id tier limit uses else u.fetchRefuse n .memberUnknown) := by
  rw [exec_memberData h, hn]
  exact congrArg _ (if_neg good)

theorem exec_memberData_unawaited (h : Taken (.memberData id known tier limit uses) s)
    (good : ¬badMemberData id known tier limit uses = true) (hn : s.fetchIndex id = none) :
    exec (.memberData id known tier limit uses) s =
      .next ((s.without (.memberData id known tier limit uses)).unsolicited id known tier limit uses) := by
  rw [exec_memberData h, hn]
  exact congrArg _ (if_neg good)

end

/-- A fetch given up: the fetch FREE, its lanes refused, the records as they were (R81, R83). -/
theorem fetchRefuse_refuses {s u : State} (shape : Shape u) {n : Nat} (hn : n < 4) (r : Reply) (nodes : u.nodes = s.nodes)
    (portF : u.portF = s.portF) (slots : ∀ l, u.slot l = s.slot l) (members : u.members = s.members) :
    (u.fetchRefuse n r).fetch n = .blank ∧ (u.fetchRefuse n r).members.records = s.members.records ∧
      WaitersRefused r (s.fetch n).waiting s (u.fetchRefuse n r) := by
  have waiting : u.fetch n = s.fetch n := congrArg (fun m : Members => m.fetches.getD n .blank) members
  obtain ⟨refused, after⟩ := refused_settled (s := s) (u := u.setFetch n .blank) r (s.fetch n).waiting nodes shape.lanes portF slots
  unfold State.fetchRefuse
  rw [waiting]
  refine ⟨?_, ?_, refused⟩
  · rw [State.fetch, after]
    exact fetch_setFetch _ (shape.fetches.symm ▸ hn)
  · rw [after]
    show u.members.records = s.members.records
    rw [members]

/-- What a lane's refusal leaves of the notices of the Member Cache. -/
theorem fetchRefuse_noticed {s : State} {d : NoticeDetail} (n : Nat) (r : Reply) (h : Noticed .member d s) :
    Noticed .member d (s.fetchRefuse n r) :=
  forWaiting_rule (R := fun _ v => Noticed .member d v) h (fun _ _ _ _ k => k) fun l _ u _ _ _ _ k =>
    (quoteReply_noticeSame (s := u.emptySlot l) (by rintro (h | h) <;> cases h) ..).noticed k

/-- A victim's record filled for a known account, from a fetch that is free again (R82, R86). -/
theorem fetchFill_eq {s : State} {n v : Nat} (victim : s.victim = some v) (id tier limit uses : Nat) :
    s.fetchFill n id tier limit uses = ((s.setFetch n .blank).stored v id tier limit uses).forWaiting (s.fetch n).waiting
      fun u l need => u.resolveLane v l need := by
  have same : (s.setFetch n .blank).victim = some v := (victim_congr rfl rfl).trans victim
  unfold State.fetchFill
  dsimp only
  rw [same]
  rfl

theorem stored_frame (s : State) (v id tier limit uses : Nat) :
    SameExcept [.members, .portS, .mgmt] s (s.stored v id tier limit uses) :=
  ((evict_frame s v).trans ((setMember_frame ..).within (by decide))).trans ((toFront_frame ..).within (by decide))

theorem stored_memberRec {s : State} {v : Nat} (hv : v < s.members.records.length) (id tier limit uses : Nat) :
    (s.stored v id tier limit uses).memberRec v = filled .cached id tier limit uses := by
  unfold State.memberRec
  rw [stored_members]
  exact getD_set_eq _ _ _ _ hv

/-- An account accepted or refused by what MEMBER_DATA says of it, its uses clamped (R76, R85). -/
theorem filled_outcome (st : MemberState) (id tier limit uses need : Nat) : memberRefusal (filled st id tier limit uses) need =
    if outcomeFor tier limit uses need = .offered then none else some (outcomeFor tier limit uses need) := by
  rw [memberRefusal_outcome, show outcomeFor (filled st id tier limit uses).tier (filled st id tier limit uses).limit
    (filled st id tier limit uses).uses need = outcomeFor tier limit uses need from outcomeFor_clamped ..]

/-- A fetch answered by a known account (R82). -/
theorem fetchFill_answers {s u : State} (shape : Shape u) {n v : Nat} (hn : n < 4) (hv : v < 32) (victim : s.victim = some v)
    (id tier limit uses : Nat) (nodes : u.nodes = s.nodes) (portF : u.portF = s.portF) (portS : u.portS = s.portS)
    (mgmt : u.mgmt = s.mgmt) (slots : ∀ l, u.slot l = s.slot l) (members : u.members = s.members) :
    let t := u.fetchFill n id tier limit uses
    t.fetch n = .blank ∧ t.members.recency.head? = some v ∧
      t.memberRec v = { filled .cached id tier limit uses with refs := acceptedOf tier limit uses (s.fetch n).waiting } ∧
      t.portS = s.displacing v ∧ WaitersJudged tier limit uses (s.fetch n).waiting s t := by
  have waiting : u.fetch n = s.fetch n := congrArg (fun m : Members => m.fetches.getD n .blank) members
  have victimNow : u.victim = some v := (victim_congr (by rw [members]) (by rw [members])).trans victim
  have length : v < (u.setFetch n .blank).members.records.length := shape.records.symm ▸ hv
  have own := stored_memberRec length id tier limit uses
  have frame := stored_frame (u.setFetch n .blank) v id tier limit uses
  have sales : ((u.setFetch n .blank).stored v id tier limit uses).sales = u.sales := frame.same .sales (by decide)
  have stored := stored_members (u.setFetch n .blank) v id tier limit uses
  have sent : ((u.setFetch n .blank).stored v id tier limit uses).portS = s.displacing v :=
    evict_portS (t := u.setFetch n .blank) (by show u.memberRec v = s.memberRec v; rw [State.memberRec, members]; rfl) portS
  have params : ((u.setFetch n .blank).stored v id tier limit uses).mgmt.params = s.mgmt.params :=
    (evict_params (u.setFetch n .blank) v).trans (congrArg Mgmt.params mgmt)
  rw [fetchFill_eq victimNow, waiting]
  generalize (u.setFetch n .blank).stored v id tier limit uses = w at own frame sales stored sent params
  obtain ⟨judged, j⟩ := judged_settled (s := s) (u := w) (n := v) (tier := tier) (limit := limit) (uses := uses) (s.fetch n).waiting
    (by rw [own]; exact filled_outcome .cached id tier limit uses) (by rw [stored]; exact List.length_set.symm ▸ length)
    ((frame.same .nodes (by decide)).trans nodes) (by rw [sales]; exact shape.lanes) ((frame.same .portF (by decide)).trans portF)
    (fun l => (congrArg LaneSales.slot (lane_of_sales sales l)).trans (slots l)) params
  refine ⟨?_, ?_, ?_, ?_, judged⟩
  · rw [State.fetch, j.fetches, stored]
    exact fetch_setFetch _ (shape.fetches.symm ▸ hn)
  · rw [j.recency, stored]
    rfl
  · rw [j.rec_, own]
    exact congrArg (fun k => { filled .cached id tier limit uses with refs := k }) (Nat.zero_add _)
  · exact ((forWaiting_frame _ _ _ fun t a b => resolveLane_frame t _ a b).same .portS (by decide)).trans sent

/-! ## Data that no fetch awaits (R84) -/

theorem unsolicited_known {s : State} {id n : Nat} (h : s.memberIndex id = some n) (tier limit uses : Nat) :
    s.unsolicited id 1 tier limit uses =
      s.setMember n { s.memberRec n with tier := tier, limit := limit, uses := min uses limit, dirty := false } := by
  unfold State.unsolicited
  rw [h]
  rfl

theorem unsolicited_unknown {s : State} {id n : Nat} (h : s.memberIndex id = some n) (tier limit uses : Nat) :
    s.unsolicited id 0 tier limit uses = (s.withdrawMember n).notifyMember 2 id := by
  unfold State.unsolicited
  rw [h]
  rfl

theorem unsolicited_none {s : State} {id : Nat} (h : s.memberIndex id = none) (known tier limit uses : Nat) :
    s.unsolicited id known tier limit uses = s.notifyMember 3 id := by
  unfold State.unsolicited
  rw [h]

/-- A record withdrawn: FREE where it is CACHED and no quote holds it, else with no uses left. -/
theorem withdrawMember_memberRec {s : State} {n : Nat} (hn : n < s.members.records.length) : (s.withdrawMember n).memberRec n =
    if (s.memberRec n).state = .cached ∧ (s.memberRec n).refs = 0 then .blank
    else { s.memberRec n with limit := 0, uses := 0, dirty := false } := by
  unfold State.withdrawMember
  dsimp only
  split
  · exact memberRec_setMember _ hn
  · exact memberRec_setMember _ hn

theorem notifyMember_noticed {s : State} (h : s.mgmt.notices.length = 8) (n id : Nat) :
    Noticed .member { reason n with arg := some id } (s.notifyMember n id) := notify_noticed s .member _ h

theorem exec_fetchTimerExpiry {n : Nat} {s : State} (reset : s.inReset = false) (due : (s.fetch n).timer = some 0) :
    exec (.fetchTimerExpiry n) s = .next ((s.notifyMember 1 ((s.fetch n).id.getD 0)).fetchRefuse n .memberUnavailable) := by
  have hexec : exec (.fetchTimerExpiry n) s = execFetchTimerExpiry n s := rfl
  rw [hexec, execFetchTimerExpiry, whenDue_eq _ reset (by rw [due]; rfl)]

/-- Settles O25: the branches of MEMBER_DATA and the fetch's expiry, each with its lanes answered. -/
theorem memberDataAnswersTheFetch : Obligations.MemberDataAnswersTheFetch := by
  refine ⟨fun id known tier limit uses s shape taken => ?_, fun n s hn shape reset due => ?_⟩
  · dsimp only
    rw [← badMemberData_iff]
    have bare := shape.without (.memberData id known tier limit uses)
    have index : (s.without (.memberData id known tier limit uses)).memberIndex id = s.memberIndex id := rfl
    refine ⟨fun bad => ?_, fun good unknown n hn => ?_, fun good isKnown n v hn victim hv => ?_, fun good hn => ⟨fun absent => ?_, fun n found => ?_⟩⟩
    · rw [exec_memberData taken]
      exact congrArg _ (if_pos bad)
    · subst unknown
      exact ⟨_, exec_memberData_awaited taken good hn, fetchRefuse_refuses bare (fetchIndex_lt hn) .memberUnknown rfl rfl (fun _ => rfl) rfl⟩
    · obtain ⟨free, front, rec_, sent, judged⟩ := fetchFill_answers bare (fetchIndex_lt hn) hv victim id tier limit uses rfl rfl rfl rfl
        (fun _ => rfl) rfl
      refine ⟨_, (exec_memberData_awaited taken good hn).trans (congrArg _ (if_pos isKnown)), free, front, ?_⟩
      rw [rec_]
      exact ⟨rfl, rfl, rfl, rfl, rfl, rfl, rfl, sent, judged⟩
    · rw [exec_memberData_unawaited taken good hn]
      exact congrArg _ (unsolicited_none (index.trans absent) ..)
    · have length : n < (s.without (.memberData id known tier limit uses)).members.records.length := shape.records.symm ▸ memberIndex_lt found
      refine ⟨_, exec_memberData_unawaited taken good hn, fun isKnown => ?_, fun unknown => ?_⟩
      · subst isKnown
        rw [unsolicited_known (index.trans found)]
        exact memberRec_setMember _ length
      · subst unknown
        have withdrawn := withdrawMember_memberRec length
        have notices : ((s.without (.memberData id 0 tier limit uses)).withdrawMember n).mgmt = s.mgmt :=
          (withdrawMember_frame ..).same .mgmt (by decide)
        rw [unsolicited_unknown (index.trans found)]
        refine ⟨notifyMember_noticed (by rw [notices]; exact shape.notices) 2 id, fun cached unheld => ?_, fun held => ?_⟩
        · exact withdrawn.trans (if_pos ⟨cached, unheld⟩)
        · refine withdrawn.trans (if_neg fun ⟨cached, unheld⟩ => ?_)
          obtain pinned | referred := held
          · exact absurd (cached.symm.trans pinned) (by decide)
          · exact referred unheld
  · have noted := notifyMember_noticed (s := s) shape.notices 1 ((s.fetch n).id.getD 0)
    obtain ⟨free, records, refused⟩ := fetchRefuse_refuses (s := s) (u := s.notifyMember 1 ((s.fetch n).id.getD 0))
      ((notify_orderly ..).shape shape) hn .memberUnavailable rfl rfl (fun _ => rfl) rfl
    exact ⟨_, exec_fetchTimerExpiry reset due, free, records, fetchRefuse_noticed n _ noted, refused⟩

end Sys2Proof.Machine
end

section
/-!
The member requests (R74, R76, R90, R91): the obligation O26.
-/
namespace Sys2Proof.Machine

-- Proofs in order: a thread that waits for another proof counts against the check's memory limit.
set_option Elab.async false

/-! ## A fetch resolved by a load (R90) -/

/-- The lanes that wait for an account. -/
def State.awaiting (s : State) (id : Nat) : List (Option Nat) := (s.fetchIndex id).elim [] fun k => (s.fetch k).waiting

theorem loadResolve_some {s : State} {id k : Nat} (h : s.fetchIndex id = some k) (n : Nat) : s.loadResolve n id =
    (s.setFetch k .blank).forWaiting (s.fetch k).waiting fun u l need => u.resolveLane n l need := by
  unfold State.loadResolve
  rw [h]

theorem loadResolve_none {s : State} {id : Nat} (h : s.fetchIndex id = none) (n : Nat) : s.loadResolve n id =
    s.forWaiting [] fun u l need => u.resolveLane n l need := by
  unfold State.loadResolve
  rw [h]
  rfl

/-- What a load makes of the lanes that waited for its account, its record in place. -/
structure Loaded (s w t : State) (n id tier limit uses : Nat) : Prop where
  judged : WaitersJudged tier limit uses (s.awaiting id) s t
  rec_ : t.memberRec n = { w.memberRec n with refs := (w.memberRec n).refs + acceptedOf tier limit uses (s.awaiting id) }
  recency : t.members.recency = w.members.recency
  free : ∀ k, s.fetchIndex id = some k → t.fetch k = .blank
  portS : t.portS = w.portS

theorem loadResolve_loaded {s w : State} {n tier limit uses : Nat} (id : Nat) (shape : Shape w)
    (outcome : ∀ need, memberRefusal (w.memberRec n) need =
      if outcomeFor tier limit uses need = .offered then none else some (outcomeFor tier limit uses need))
    (hn : n < 32) (nodes : w.nodes = s.nodes) (portF : w.portF = s.portF) (slots : ∀ l, w.slot l = s.slot l)
    (params : w.mgmt.params = s.mgmt.params) (fetches : w.members.fetches = s.members.fetches) :
    Loaded s w (w.loadResolve n id) n id tier limit uses := by
  have fetch (k : Nat) : w.fetch k = s.fetch k := congrArg (fun fs : List Fetch => fs.getD k .blank) fetches
  have index : w.fetchIndex id = s.fetchIndex id := by
    unfold State.fetchIndex
    simp only [fetch]
  have length : n < w.members.records.length := shape.records.symm ▸ hn
  have sent := (loadResolve_frame w n id).same .portS (by decide)
  cases asked : s.fetchIndex id with
  | none =>
    have run := loadResolve_none (index.trans asked) n
    obtain ⟨judged, j⟩ := judged_settled (s := s) [] outcome length nodes shape.lanes portF slots params
    rw [← run] at judged j
    exact ⟨by rw [State.awaiting, asked]; exact judged, by rw [State.awaiting, asked]; exact j.rec_, j.recency,
      fun k hk => absurd (asked.symm.trans hk) (Option.some_ne_none k).symm, sent⟩
  | some k =>
    have run := loadResolve_some (index.trans asked) n
    obtain ⟨judged, j⟩ := judged_settled (s := s) (u := w.setFetch k .blank) (n := n) (s.fetch k).waiting outcome length nodes
      shape.lanes portF slots params
    rw [← fetch, ← run] at judged j
    rw [fetch] at judged j
    refine ⟨by rw [State.awaiting, asked]; exact judged, by rw [State.awaiting, asked]; exact j.rec_, j.recency, fun i hi => ?_, sent⟩
    obtain rfl := Option.some.inj (asked.symm.trans hi)
    rw [State.fetch, j.fetches]
    exact fetch_setFetch _ (shape.fetches.symm ▸ fetchIndex_lt asked)

/-! ## MEMBER_LOAD (R90) -/

/-- The state in which a load leaves its record. -/
def loadedState (pin : Bool) : MemberState := if pin then .pinned else .cached

section
variable {s : State} {id tier limit uses : Nat} {pin : Bool}

theorem load_held_eq {n : Nat} (h : s.memberIndex id = some n)
    (room : ¬(pin = true ∧ (s.memberRec n).state = .cached ∧ Config.pinLimit ≤ s.pinned)) :
    s.load id tier limit uses pin = ((s.loadHeld n tier limit uses pin).loadResolve n id, .ok) := by
  unfold State.load
  rw [h]
  exact if_neg room

theorem load_new_eq {v : Nat} (h : s.memberIndex id = none) (victim : s.victim = some v)
    (room : ¬(pin = true ∧ Config.pinLimit ≤ s.pinned)) :
    s.load id tier limit uses pin = ((s.loadNew v id tier limit uses pin).loadResolve v id, .ok) := by
  unfold State.load
  rw [h]
  dsimp only
  rw [if_neg room, victim]

theorem load_busy (full : Config.pinLimit ≤ s.pinned) (cached : ∀ n, s.memberIndex id = some n → (s.memberRec n).state = .cached) :
    s.load id tier limit uses true = (s, .busy) := by
  unfold State.load
  cases h : s.memberIndex id with
  | some n => exact if_pos ⟨rfl, cached n h, full⟩
  | none => exact if_pos ⟨rfl, full⟩

theorem loadHeld_members (n : Nat) : (s.loadHeld n tier limit uses pin).members =
    { s.members with
      records := s.members.records.set n { s.memberRec n with
        tier := tier, limit := limit, uses := uses, dirty := false, state := loadedState pin }
      recency := if pin then s.members.recency.erase n else n :: s.members.recency.erase n } := by
  cases pin <;> rfl

end

/-- A load's verdicts are its account's, its uses within its limit. -/
theorem refusal_of_account {m : Member} {tier limit uses : Nat} (htier : m.tier = tier) (hlimit : m.limit = limit) (huses : m.uses = uses)
    (need : Nat) : memberRefusal m need =
      if outcomeFor tier limit uses need = .offered then none else some (outcomeFor tier limit uses need) := by
  subst htier hlimit huses
  exact memberRefusal_outcome m need

section
variable {seq a b d tier limit uses : Byte} {pin : Bool} {rest : List Byte} {s : State}

theorem exec_memberLoad (h : Taken (.memberLoad seq (a :: b :: d :: tier :: limit :: uses :: flag pin :: rest)) s)
    (account : a.toNat * 65536 + b.toNat * 256 + d.toNat ≠ 0) (htier : tier.toNat ≤ 7) (hlimit : limit.toNat ≤ 15)
    (huses : uses.toNat ≤ limit.toNat) :
    let c := Instr.memberLoad seq (a :: b :: d :: tier :: limit :: uses :: flag pin :: rest)
    let answer := (s.without c).load (a.toNat * 65536 + b.toNat * 256 + d.toNat) tier.toNat limit.toNat uses.toNat pin
    exec c s = .next (answer.1.reply seq 13 answer.2 []) := by
  have bit : (flag pin).toNat ≤ 1 ∧ (flag pin == 1) = pin := by cases pin <;> decide
  obtain ⟨one, same⟩ := bit
  have good : ¬(ofBe24 a b d = 0 ∨ 7 < tier.toNat ∨ 15 < limit.toNat ∨ limit.toNat < uses.toNat ∨ 1 < (flag pin).toNat) := by
    have : ofBe24 a b d ≠ 0 := account
    omega
  refine (taking_eq _ h rfl).trans (congrArg _ ((if_neg good).trans ?_))
  rw [same]
  rfl

end

/-- Settles O26, the loads: a record replaced or a victim's filled, then the fetch resolved. -/
theorem memberLoad_places (seq a b d tier limit uses : Byte) (pin : Bool) (rest : List Byte) (s : State) (shape : Shape s)
    (taken : Taken (.memberLoad seq (a :: b :: d :: tier :: limit :: uses :: flag pin :: rest)) s)
    (account : a.toNat * 65536 + b.toNat * 256 + d.toNat ≠ 0) (htier : tier.toNat ≤ 7) (hlimit : limit.toNat ≤ 15)
    (huses : uses.toNat ≤ limit.toNat) :
    let c := Instr.memberLoad seq (a :: b :: d :: tier :: limit :: uses :: flag pin :: rest)
    let id := a.toNat * 65536 + b.toNat * 256 + d.toNat
    (∀ n, s.memberIndex id = some n → pin = false ∨ (s.memberRec n).state = .pinned ∨ s.pinned < 8 →
      ∃ w u : State, exec c s = .next (u.reply seq 13 .ok []) ∧ Loaded s w u n id tier.toNat limit.toNat uses.toNat ∧
        w.memberRec n = { s.memberRec n with
          tier := tier.toNat, limit := limit.toNat, uses := uses.toNat, dirty := false, state := loadedState pin } ∧
        (pin = false → w.members.recency.head? = some n) ∧ w.portS = s.portS) ∧
    (∀ v, s.memberIndex id = none → s.victim = some v → v < 32 → pin = false ∨ s.pinned < 8 →
      ∃ w u : State, exec c s = .next (u.reply seq 13 .ok []) ∧ Loaded s w u v id tier.toNat limit.toNat uses.toNat ∧
        w.memberRec v = filled (loadedState pin) id tier.toNat limit.toNat uses.toNat ∧
        (pin = false → w.members.recency.head? = some v) ∧ w.portS = s.displacing v) := by
  intro c id
  have hexec := exec_memberLoad taken account htier hlimit huses
  dsimp only at hexec
  have bare := shape.without c
  refine ⟨fun n found room => ?_, fun v absent victim hv room => ?_⟩
  · have free : ¬(pin = true ∧ ((s.without c).memberRec n).state = .cached ∧ Config.pinLimit ≤ (s.without c).pinned) := by
      rintro ⟨hpin, cached, full⟩
      rcases room with h | h | h
      · rw [h] at hpin; cases hpin
      · exact absurd ((show (s.memberRec n).state = .cached from cached).symm.trans h) (by decide)
      · exact absurd h (Nat.not_lt.mpr full)
    rw [load_held_eq (s := s.without c) found free] at hexec
    have members := loadHeld_members (s := s.without c) (tier := tier.toNat) (limit := limit.toNat) (uses := uses.toNat) (pin := pin) n
    have frame := loadHeld_frame (s.without c) n tier.toNat limit.toNat uses.toNat pin
    have held := (loadHeld_orderly (s.without c) n tier.toNat limit.toNat uses.toNat pin).shape bare
    have own : ((s.without c).loadHeld n tier.toNat limit.toNat uses.toNat pin).memberRec n = { s.memberRec n with
        tier := tier.toNat, limit := limit.toNat, uses := uses.toNat, dirty := false, state := loadedState pin } := by
      rw [State.memberRec, members]
      exact getD_set_eq _ _ _ _ (shape.records.symm ▸ memberIndex_lt found)
    refine ⟨_, _, hexec, loadResolve_loaded (s := s) id held ?_ (memberIndex_lt found) ((frame.same .nodes (by decide)).trans rfl)
      ((frame.same .portF (by decide)).trans rfl)
      (fun l => congrArg LaneSales.slot ((lane_of_sales (frame.same .sales (by decide)) l).trans rfl))
      (congrArg Mgmt.params ((frame.same .mgmt (by decide)).trans rfl)) (by rw [members]; rfl), own, fun hpin => ?_,
      (frame.same .portS (by decide)).trans rfl⟩
    · rw [own]
      exact refusal_of_account rfl rfl rfl
    · subst hpin
      rw [members]
      rfl
  · have free : ¬(pin = true ∧ Config.pinLimit ≤ (s.without c).pinned) := by
      rintro ⟨hpin, full⟩
      rcases room with h | h
      · rw [h] at hpin; cases hpin
      · exact absurd h (Nat.not_lt.mpr full)
    rw [load_new_eq (s := s.without c) absent victim free] at hexec
    have members := loadNew_members (s.without c) v id tier.toNat limit.toNat uses.toNat pin
    have frame := loadNew_frame (s.without c) v id tier.toNat limit.toNat uses.toNat pin
    have orderly := loadNew_orderly (s.without c) v id tier.toNat limit.toNat uses.toNat pin
    have own : ((s.without c).loadNew v id tier.toNat limit.toNat uses.toNat pin).memberRec v =
        filled (loadedState pin) id tier.toNat limit.toNat uses.toNat := by
      rw [State.memberRec, members]
      exact getD_set_eq _ _ _ _ (shape.records.symm ▸ hv)
    have sent : ((s.without c).loadNew v id tier.toNat limit.toNat uses.toNat pin).portS = s.displacing v := by
      refine Eq.trans ?_ (evict_portS (s := s) (t := s.without c) (v := v) rfl rfl)
      cases pin <;> rfl
    refine ⟨_, _, hexec, loadResolve_loaded (s := s) id (orderly.shape bare) ?_ hv ((frame.same .nodes (by decide)).trans rfl)
      ((frame.same .portF (by decide)).trans rfl)
      (fun l => congrArg LaneSales.slot ((lane_of_sales (frame.same .sales (by decide)) l).trans rfl))
      (orderly.params.trans rfl) (by rw [members]; rfl), own, fun hpin => ?_, sent⟩
    · rw [own]
      exact filled_outcome (loadedState pin) id tier.toNat limit.toNat uses.toNat
    · subst hpin
      rw [members]
      rfl

/-! ## MEMBER_PIN and MEMBER_UNPIN (R91) -/

section
variable {seq a b d : Byte} {rest : List Byte} {n : Nat} {s : State}

theorem exec_memberPin (found : s.memberIndex (a.toNat * 65536 + b.toNat * 256 + d.toNat) = some n)
    (h : Taken (.memberPin seq (a :: b :: d :: rest)) s) : exec (.memberPin seq (a :: b :: d :: rest)) s = .next (
      let u := s.without (.memberPin seq (a :: b :: d :: rest))
      if (s.memberRec n).state = .pinned then u.reply seq 14 .ok []
      else if Config.pinLimit ≤ s.pinned then u.reply seq 14 .busy []
      else ((u.setMember n { s.memberRec n with state := .pinned }).offList n).reply seq 14 .ok []) := by
  have found : (s.without (.memberPin seq (a :: b :: d :: rest))).memberIndex (ofBe24 a b d) = some n := found
  refine (taking_eq _ h rfl).trans (congrArg _ ?_)
  show (match (s.without (.memberPin seq (a :: b :: d :: rest))).memberIndex (ofBe24 a b d) with
    | none => _
    | some n => _) = _
  rw [found]
  rfl

theorem exec_memberUnpin (found : s.memberIndex (a.toNat * 65536 + b.toNat * 256 + d.toNat) = some n)
    (h : Taken (.memberUnpin seq (a :: b :: d :: rest)) s) : exec (.memberUnpin seq (a :: b :: d :: rest)) s = .next (
      let u := s.without (.memberUnpin seq (a :: b :: d :: rest))
      if (s.memberRec n).state = .pinned then
        ((u.setMember n { s.memberRec n with state := .cached }).toFront n).reply seq 15 .ok []
      else u.reply seq 15 .ok []) := by
  have found : (s.without (.memberUnpin seq (a :: b :: d :: rest))).memberIndex (ofBe24 a b d) = some n := found
  refine (taking_eq _ h rfl).trans (congrArg _ ?_)
  show (match (s.without (.memberUnpin seq (a :: b :: d :: rest))).memberIndex (ofBe24 a b d) with
    | none => _
    | some n => _) = _
  rw [found]
  rfl

end

/-- Settles O26: the loads with their fetch resolved, a ninth pin refused, and the pins moved on and off the list. -/
theorem memberRequestsPlaceRecords : Obligations.MemberRequestsPlaceRecords := by
  refine ⟨fun seq a b d tier limit uses pin rest s shape => ?_, fun seq a b d rest n s shape => ?_⟩
  · dsimp only
    intro taken account htier hlimit huses
    obtain ⟨replaced, placed⟩ := memberLoad_places seq a b d tier limit uses pin rest s shape taken account htier hlimit huses
    refine ⟨fun n found room => ?_, fun v absent victim hv room => ?_, fun hpin full cached => ?_⟩
    · obtain ⟨w, u, hexec, loaded, own, front, sent⟩ := replaced n found room
      obtain ⟨-, -, named⟩ := memberIndex_some found
      have rec_ := loaded.rec_
      rw [own] at rec_
      exact ⟨u, hexec, ⟨congrArg Member.state rec_, (congrArg Member.id rec_).trans named, congrArg Member.tier rec_,
        congrArg Member.limit rec_, congrArg Member.uses rec_, congrArg Member.dirty rec_, congrArg Member.refs rec_, loaded.judged,
        fun hpin => by rw [loaded.recency]; exact front hpin, loaded.free⟩, loaded.portS.trans sent⟩
    · obtain ⟨w, u, hexec, loaded, own, front, sent⟩ := placed v absent victim hv room
      have rec_ := loaded.rec_
      rw [own] at rec_
      exact ⟨u, hexec, ⟨congrArg Member.state rec_, congrArg Member.id rec_, congrArg Member.tier rec_,
        congrArg Member.limit rec_, (congrArg Member.uses rec_).trans (Nat.min_eq_left huses), congrArg Member.dirty rec_, congrArg Member.refs rec_, loaded.judged,
        fun hpin => by rw [loaded.recency]; exact front hpin, loaded.free⟩, loaded.portS.trans sent⟩
    · subst hpin
      have hexec := exec_memberLoad taken account htier hlimit huses
      dsimp only at hexec
      rw [load_busy (s := s.without _) full cached] at hexec
      exact hexec
  · dsimp only
    intro found
    refine ⟨fun taken => ⟨fun pinned => ?_, fun cached room => ?_, fun cached full => ?_⟩, fun taken => ⟨fun pinned => ?_, fun cached => ?_⟩⟩
    · rw [exec_memberPin found taken]
      exact congrArg _ (if_pos pinned)
    · rw [exec_memberPin found taken]
      exact congrArg _ ((if_neg (by rw [cached]; decide)).trans (if_neg (Nat.not_le.mpr room)))
    · rw [exec_memberPin found taken]
      exact congrArg _ ((if_neg (by rw [cached]; decide)).trans (if_pos full))
    · rw [exec_memberUnpin found taken]
      exact congrArg _ (if_pos pinned)
    · rw [exec_memberUnpin found taken]
      exact congrArg _ (if_neg (by rw [cached]; decide))

end Sys2Proof.Machine
end

section
/-!
Sightings of cars (R134 to R136): the near-miss, the ordering guard and the correction; the obligations O36 and O37.
-/
namespace Sys2Proof.Machine

-- Proofs in order: a thread that waits for another proof counts against the check's memory limit.
set_option Elab.async false

/-! ## The ordering guard (R135) -/

/-- The car ahead of place `j` that a correction to a travel would bring too close; an unknown rear counts as at 0. -/
def State.hitsAhead (s : State) (j pos : Nat) (y : Car) : Prop :=
  0 < j ∧ s.track.cars[j - 1]? = some y ∧
    ((y.length.map fun n : Nat => (y.front : Int) - n).getD 0) - s.param .collisionGap ≤ (pos : Int)

/-- The car behind place `j` that a correction of a car of known length would bring too close. -/
def State.hitsBehind (s : State) (j pos : Nat) (x y : Car) : Prop :=
  s.track.cars[j + 1]? = some y ∧ ∃ n, x.length = some n ∧ (pos : Int) - n - s.param .collisionGap ≤ (y.front : Int)

/-- A car ahead stands too near to a travel. -/
def State.nearAhead (s : State) (pos : Nat) (y : Car) : Bool :=
  !decide ((pos : Int) < (Car.rear y).getD 0 - (s.param .collisionGap : Int))

/-- A car behind stands too near to the rear of a car corrected to a travel. -/
def State.nearBehind (s : State) (pos : Nat) (x y : Car) : Bool :=
  match x.length with
  | some l => !decide ((y.front : Int) < (pos : Int) - (l : Int) - (s.param .collisionGap : Int))
  | none => false

theorem crushing_eq (s : State) (j pos : Nat) (x : Car) : s.crushing j pos x =
    (((if j = 0 then none else s.track.cars[j - 1]?).filter (s.nearAhead pos)).or
      (s.track.cars[j + 1]?.filter (s.nearBehind pos x))).map (·.tag) := rfl

theorem hitsAhead_iff {s : State} {j pos : Nat} {y : Car} : s.hitsAhead j pos y ↔
    (if j = 0 then none else s.track.cars[j - 1]?).filter (s.nearAhead pos) = some y := by
  have near : s.nearAhead pos y = true ↔
      ((y.length.map fun n : Nat => (y.front : Int) - n).getD 0) - s.param .collisionGap ≤ (pos : Int) := by
    unfold State.nearAhead
    rw [Bool.not_eq_true', decide_eq_false_iff_not, Int.not_lt]
    rfl
  unfold State.hitsAhead
  rw [Option.filter_eq_some_iff, near]
  by_cases hj : j = 0
  · rw [if_pos hj]
    exact ⟨fun h => absurd h.1 (by omega), fun h => nomatch h.1⟩
  · rw [if_neg hj]
    exact and_iff_right (Nat.pos_of_ne_zero hj)

theorem hitsBehind_iff {s : State} {j pos : Nat} {x y : Car} : s.hitsBehind j pos x y ↔
    s.track.cars[j + 1]?.filter (s.nearBehind pos x) = some y := by
  have near : s.nearBehind pos x y = true ↔ ∃ n, x.length = some n ∧ (pos : Int) - n - s.param .collisionGap ≤ (y.front : Int) := by
    unfold State.nearBehind
    cases x.length with
    | none => exact ⟨(fun h => nomatch h), fun ⟨_, h, _⟩ => nomatch h⟩
    | some l =>
      dsimp only
      rw [Bool.not_eq_true', decide_eq_false_iff_not, Int.not_lt]
      exact ⟨fun h => ⟨l, rfl, h⟩, fun ⟨n, hn, h⟩ => by rw [Option.some.inj hn]; exact h⟩
  unfold State.hitsBehind
  rw [Option.filter_eq_some_iff, near]

theorem crushing_ahead {s : State} {j pos : Nat} {x y : Car} (h : s.hitsAhead j pos y) : s.crushing j pos x = some y.tag := by
  rw [crushing_eq, hitsAhead_iff.mp h]
  rfl

theorem crushing_behind {s : State} {j pos : Nat} {x y : Car} (clear : ∀ z, ¬s.hitsAhead j pos z) (h : s.hitsBehind j pos x y) :
    s.crushing j pos x = some y.tag := by
  have none_ := Option.eq_none_iff_forall_ne_some.mpr fun z hz => clear z (hitsAhead_iff.mpr hz)
  rw [crushing_eq, none_, hitsBehind_iff.mp h]
  rfl

theorem crushing_clear {s : State} {j pos : Nat} {x : Car} (ahead : ∀ z, ¬s.hitsAhead j pos z) (behind : ∀ z, ¬s.hitsBehind j pos x z) :
    s.crushing j pos x = none := by
  have noneAhead := Option.eq_none_iff_forall_ne_some.mpr fun z hz => ahead z (hitsAhead_iff.mpr hz)
  have noneBehind := Option.eq_none_iff_forall_ne_some.mpr fun z hz => behind z (hitsBehind_iff.mpr hz)
  rw [crushing_eq, noneAhead, noneBehind]
  rfl

/-! ## A near-miss (R134) -/

/-- A sighted car's record, one near-miss more where the error is beyond TRACK_TOL. -/
def Car.seen (c : Car) (near : Bool) : Car := { c with nearMiss := if near then min 15 (c.nearMiss + 1) else c.nearMiss }

/-- A near-miss is noticed, and nothing is where there is none. -/
structure NearNoted (s w : State) (near : Bool) (k tag : Nat) (e : Int) : Prop where
  noticed : near = true → Noticed .track { reason 11 with tag := some tag, arg := some (k * 256 + (e % 256).toNat) } w
  unnoticed : near = false → w.mgmt = s.mgmt

theorem NearNoted.same {s w v : State} {near : Bool} {k tag : Nat} {e : Int} (h : NearNoted s w near k tag e) (mgmt : v.mgmt = w.mgmt) :
    NearNoted s v near k tag e :=
  ⟨fun hn => NoticeSame.noticed (.of_mgmt mgmt) (h.noticed hn), fun hn => mgmt.trans (h.unnoticed hn)⟩

theorem set_getElem?_self {α : Type} {l : List α} {j : Nat} {c : α} (h : l[j]? = some c) : l.set j c = l := by
  obtain ⟨hj, rfl⟩ := List.getElem?_eq_some_iff.mp h
  exact List.set_getElem_self hj

section
variable {s : State} {j : Nat} {c : Car} (hc : s.track.cars[j]? = some c) (k : Nat) (e : Int)
include hc

/-- What a sighting's near-miss makes of the unit. -/
theorem nearMiss_sees (notices : s.mgmt.notices.length = 8) :
    (s.nearMiss j k e c).track = { s.track with cars := s.track.cars.set j (c.seen (decide (s.param .trackTol < e.natAbs))) } ∧
    NearNoted s (s.nearMiss j k e c) (decide (s.param .trackTol < e.natAbs)) k c.tag e := by
  unfold State.nearMiss
  by_cases near : s.param .trackTol < e.natAbs
  · rw [if_pos near, decide_eq_true near]
    exact ⟨rfl, fun _ => notify_noticed _ .track _ notices, fun h => nomatch h⟩
  · rw [if_neg near, decide_eq_false near]
    refine ⟨?_, (fun h => nomatch h), fun _ => rfl⟩
    rw [show c.seen false = c from rfl, set_getElem?_self hc]

end

/-! ## A correction (R134, R135) -/

theorem modify_set {α : Type} (l : List α) (j : Nat) (a : α) (f : α → α) : (l.set j a).modify j f = l.set j (f a) := by
  induction l generalizing j with
  | nil => cases j <;> rfl
  | cons b l ih =>
    cases j with
    | zero => rfl
    | succ j => exact congrArg (b :: ·) (ih j)

section
variable {s : State} {j : Nat} {c : Car} (hc : s.track.cars[j]? = some c) (k pos : Nat) (notices : s.mgmt.notices.length = 8)
include hc notices

/-- A correction that the guard forbids: the near-miss counted, CRUSH raised. -/
theorem correct_crushes {tag : Nat} (h : s.crushing j pos c = some tag) : ∃ w : State, SameExcept [.track, .mgmt] s w ∧
    NearNoted s w (decide (s.param .trackTol < (sightingError pos c).natAbs)) k c.tag (sightingError pos c) ∧
    w.track = { s.track with cars := s.track.cars.set j (c.seen (decide (s.param .trackTol < (sightingError pos c).natAbs))) } ∧
    s.correct j k pos c = w.raiseCause .crush { CauseDetail.empty with car := some c.tag, arg := some tag } := by
  obtain ⟨track, noted⟩ := nearMiss_sees hc k (sightingError pos c) notices
  refine ⟨_, nearMiss_frame s j k (sightingError pos c) c, noted, track, ?_⟩
  unfold State.correct
  rw [h]

/-- A correction that the guard allows: the near-miss counted, the car at its place, the movement handed to Stations where
there is one. -/
theorem correct_moves (h : s.crushing j pos c = none) : ∃ w : State, SameExcept [.track, .mgmt] s w ∧
    NearNoted s w (decide (s.param .trackTol < (sightingError pos c).natAbs)) k c.tag (sightingError pos c) ∧
    w.track = { s.track with
      cars := s.track.cars.set j { c.seen (decide (s.param .trackTol < (sightingError pos c).natAbs)) with front := pos } } ∧
    s.correct j k pos c = if pos = c.front then w else w.handMoves [moveOf c { c with front := pos }] none := by
  obtain ⟨track, noted⟩ := nearMiss_sees hc k (sightingError pos c) notices
  have frame := nearMiss_frame s j k (sightingError pos c) c
  unfold State.correct
  rw [h]
  by_cases still : pos = c.front
  · refine ⟨_, frame, noted, track.trans ?_, (if_pos still).trans (if_pos still).symm⟩
    rw [still]
    rfl
  · refine ⟨(s.nearMiss j k (sightingError pos c) c).setCars ((s.nearMiss j k (sightingError pos c) c).track.cars.modify j
      fun c => { c with front := pos }), frame.trans ((setCars_frame ..).within (by decide)), noted.same rfl, ?_,
      (if_neg still).trans (if_neg still).symm⟩
    rw [State.setCars, State.setTrack_track, track]
    dsimp only
    rw [modify_set]

end

/-! ## The exit eye (R136) -/

theorem exec_exitEyeBlocked {src : Nat} {s : State} (h : Taken (.exitEyeBlocked src) s) : exec (.exitEyeBlocked src) s = .next (
    let v := (s.without (.exitEyeBlocked src)).setTrack { s.track with exitBlocked := true }
    if s.halt.mode = .offline then v else v.judgeExit src) := (taking_eq _ h rfl).trans rfl

section
variable {s : State} {c : Car} {rest : List Car} (src : Nat)

theorem judgeExit_empty (h : s.track.cars = []) : s.judgeExit src = s.trackFault src 8 none := by
  unfold State.judgeExit
  rw [h]
  rfl

theorem judgeExit_head (h : s.track.cars = c :: rest) : s.judgeExit src =
    if s.param .slipLimit < (sightingError (s.param .exitPos) c).natAbs then s.trackFault src 8 (some c.tag)
    else if c.state = .exiting then s.notifyTrack 12 none none
    else s.matchExit c := by
  unfold State.judgeExit
  rw [h]
  rfl

end

/-- Settles O37: the head car's edge is a correction at place 0 under the guard, after which the car is EXITING. -/
theorem exitEyeMatchesTheHead : Obligations.ExitEyeMatchesTheHead := by
  intro src s shape taken
  have hexec := exec_exitEyeBlocked taken
  have handed : SameExcept [.track, .mgmt, .handed] s ((s.without (.exitEyeBlocked src)).setTrack { s.track with exitBlocked := true }) :=
    ((setHanded_frame s _).within (by decide)).trans ((setTrack_frame ..).within (by decide))
  dsimp only at hexec ⊢
  generalize hv : (s.without (.exitEyeBlocked src)).setTrack { s.track with exitBlocked := true } = v at hexec handed ⊢
  have track : v.track = { s.track with exitBlocked := true } := by rw [← hv]; rfl
  have mgmt : v.mgmt = s.mgmt := by rw [← hv]; rfl
  have raised : v.raised = s.raised := by rw [← hv]; rfl
  have param (p : Config.Param) : v.param p = s.param p := by rw [State.param, mgmt]; rfl
  refine ⟨fun offline => hexec.trans (congrArg _ (if_pos offline)), fun mode empty => ?_, fun x rest mode cars => ?_⟩
  · rw [hexec, if_neg mode, judgeExit_empty src (by rw [track]; exact empty)]
    rfl
  · have head : v.track.cars = x :: rest := by rw [track]; exact cars
    have first : v.track.cars[0]? = some x := by rw [head]; rfl
    rw [if_neg mode, judgeExit_head src head, param, param] at hexec
    refine ⟨fun far => ?_, fun near exiting => ?_, fun near coming => ?_⟩
    · exact hexec.trans (congrArg _ ((if_pos far).trans rfl))
    · exact hexec.trans (congrArg _ ((if_neg (Nat.not_lt.mpr near)).trans ((if_pos exiting).trans rfl)))
    · have matched := hexec.trans (congrArg _ ((if_neg (Nat.not_lt.mpr near)).trans (if_neg coming)))
      have notices : v.mgmt.notices.length = 8 := by rw [mgmt]; exact shape.notices
      have behind (y : Car) : v.hitsBehind 0 (s.param .exitPos) x y ↔
          rest.head? = some y ∧ ∃ n, x.length = some n ∧ (s.param .exitPos : Int) - n - s.param .collisionGap ≤ (y.front : Int) := by
        unfold State.hitsBehind
        rw [head, param, List.getElem?_cons_succ, ← List.head?_eq_getElem?]
      have ahead (y : Car) : ¬v.hitsAhead 0 (s.param .exitPos) y := fun h => absurd h.1 (Nat.lt_irrefl 0)
      have noted {w : State} {near : Bool} {e : Int} (h : NearNoted v w near 8 x.tag e) :
          (near = true → Noticed .track { reason 11 with tag := some x.tag, arg := some (8 * 256 + (e % 256).toNat) } w) ∧
            (near = false → w.mgmt = s.mgmt) := ⟨h.noticed, fun hn => (h.unnoticed hn).trans mgmt⟩
      unfold State.matchExit at matched
      dsimp only at matched
      rw [param, show exitEyeIndex = 8 from rfl] at matched
      refine ⟨fun y hits => ?_, fun clear => ?_⟩
      · obtain ⟨w, frame, near, wtrack, crush⟩ := correct_crushes first 8 (s.param .exitPos) notices (crushing_behind ahead ((behind y).mpr hits))
        rw [crush] at matched
        rw [param, track, cars] at wtrack
        rw [param] at near
        refine ⟨_, matched, ?_, noted (near.same rfl), ?_, ?_, ?_⟩
        · exact ((handed.within (by decide)).trans (frame.within (by decide))).trans
            (((raiseCause_frame ..).within (by decide)).trans ((setCars_frame ..).within (by decide)))
        · exact congrArg Track.exitBlocked wtrack
        · have marked := congrArg (fun k : Track => k.cars.modify 0 fun c => { c with state := CarState.exiting }) wtrack
          exact marked.trans rfl
        · exact congrArg (· ++ _) ((frame.same .raised (by decide)).trans raised)
      · obtain ⟨w, frame, near, wtrack, moved⟩ := correct_moves first 8 (s.param .exitPos) notices
          (crushing_clear ahead fun y h => clear y ((behind y).mp h))
        rw [moved] at matched
        rw [param, track, cars] at wtrack
        rw [param] at near
        refine ⟨w, handed.trans (frame.within (by decide)), noted near, congrArg Track.exitBlocked wtrack, ?_, matched⟩
        exact congrArg Track.cars wtrack

/-! ## The check eyes (R133, R134) -/

section
variable {src : Nat} {blocked : Bool} {s : State}

theorem exec_checkEyeEdge (h : Taken (.checkEyeEdge src blocked) s) : exec (.checkEyeEdge src blocked) s = .next (
    let u := s.without (.checkEyeEdge src blocked)
    if blocked = false ∨ s.halt.mode = .offline then u
    else match s.track.eyes.findIdx? fun e => e.1 == src with
      | none => u
      | some k => u.sighting src k ((s.track.eyes[k]?).elim 0 (·.2))) := (taking_eq _ h rfl).trans rfl

theorem exec_checkEyeEdge_idle (h : Taken (.checkEyeEdge src blocked) s)
    (idle : blocked = false ∨ s.halt.mode = .offline ∨ ∀ e ∈ s.track.eyes, e.1 ≠ src) :
    exec (.checkEyeEdge src blocked) s = .next (s.without (.checkEyeEdge src blocked)) := by
  rw [exec_checkEyeEdge h]
  by_cases off : blocked = false ∨ s.halt.mode = .offline
  · exact congrArg _ (if_pos off)
  · have unlisted := (idle.resolve_left fun h => off (.inl h)).resolve_left fun h => off (.inr h)
    have none_ : s.track.eyes.findIdx? (fun e => e.1 == src) = none :=
      List.findIdx?_eq_none_iff.mpr fun e he => beq_eq_false_iff_ne.mpr (unlisted e he)
    rw [if_neg off, none_]

theorem exec_checkEyeEdge_seen {k pos : Nat} (h : Taken (.checkEyeEdge src true) s) (mode : s.halt.mode ≠ .offline)
    (listed : s.track.eyes.findIdx? (fun e => e.1 == src) = some k) (place : s.track.eyes[k]? = some (src, pos)) :
    exec (.checkEyeEdge src true) s = .next ((s.without (.checkEyeEdge src true)).sighting src k pos) := by
  rw [exec_checkEyeEdge h, listed]
  have off : ¬(true = false ∨ s.halt.mode = .offline) := fun h => h.elim (fun h => nomatch h) mode
  refine congrArg _ ((if_neg off).trans ?_)
  dsimp only
  rw [place]
  rfl

end

theorem sighting_unexpected {s : State} {k : Nat} (h : ∀ x ∈ s.track.cars, x.nextEye ≠ k) (src pos : Nat) :
    s.sighting src k pos = s.trackFault src k none := by
  have none_ : s.track.cars.findIdx? (fun c => c.nextEye == k) = none :=
    List.findIdx?_eq_none_iff.mpr fun c hc => beq_eq_false_iff_ne.mpr (h c hc)
  unfold State.sighting
  rw [none_]

/-- The head-most car expected at an eye is the one sighted. -/
theorem sighting_found {s : State} {j k : Nat} {x : Car} (hx : s.track.cars[j]? = some x) (expected : x.nextEye = k)
    (first : ∀ i y, i < j → s.track.cars[i]? = some y → y.nextEye ≠ k) (src pos : Nat) : s.sighting src k pos =
    (if (sightingError pos x).natAbs ≤ max (s.param .trackTol) (s.param .slipLimit) then s.correct j k pos x
      else s.trackFault src k (some x.tag)).setNextEye j k := by
  obtain ⟨hj, value⟩ := List.getElem?_eq_some_iff.mp hx
  have found : s.track.cars.findIdx? (fun c => c.nextEye == k) = some j := by
    refine List.findIdx?_eq_some_iff_getElem.mpr ⟨hj, by rw [value, beq_iff_eq]; exact expected, fun i hi => ?_⟩
    rw [beq_iff_eq]
    exact first i _ hi (List.getElem?_eq_getElem (Nat.lt_trans hi hj))
  unfold State.sighting
  rw [found]
  dsimp only
  rw [hx]

/-- Settles O36: the expected car found from the head, and its correction under the guard. -/
theorem sightingCorrectsTheCar : Obligations.SightingCorrectsTheCar := by
  refine ⟨fun src blocked s taken idle => exec_checkEyeEdge_idle taken idle, fun src k pos s shape taken mode listed place tol => ?_⟩
  have hexec := exec_checkEyeEdge_seen taken mode listed place
  have handed : SameExcept [.handed] s (s.without (.checkEyeEdge src true)) := setHanded_frame s _
  dsimp only
  generalize hv : s.without (.checkEyeEdge src true) = v at hexec handed ⊢
  have track : v.track = s.track := by rw [← hv]; rfl
  have mgmt : v.mgmt = s.mgmt := by rw [← hv]; rfl
  have raised : v.raised = s.raised := by rw [← hv]; rfl
  have param (p : Config.Param) : v.param p = s.param p := by rw [State.param, mgmt]; rfl
  refine ⟨fun unexpected => hexec.trans (congrArg _ (sighting_unexpected (by rw [track]; exact unexpected) ..)), fun j x hx expected first => ?_⟩
  have here : v.track.cars[j]? = some x := by rw [track]; exact hx
  rw [sighting_found here expected (by rw [track]; exact first), param, param, Nat.max_eq_right (Nat.le_of_lt tol)] at hexec
  refine ⟨fun far => ?_, fun near => ?_⟩
  · refine hexec.trans (congrArg _ ((congrArg (fun t : State => t.setNextEye j k) (if_neg (Nat.not_le.mpr far))).trans ?_))
    have cars : (v.trackFault src k (some x.tag)).track.cars.modify j (fun c => { c with nextEye := k + 1 }) =
        s.track.cars.set j { x with nextEye := k + 1 } := by
      refine (congrArg (fun t : Track => t.cars.modify j _) track).trans ?_
      refine (congrArg (fun l : List Car => l.modify j _) (set_getElem?_self hx).symm).trans ?_
      exact modify_set ..
    rw [State.setNextEye, cars]
    rfl
  · have judged := hexec.trans (congrArg _ (congrArg (fun t : State => t.setNextEye j k) (if_pos near)))
    have notices : v.mgmt.notices.length = 8 := by rw [mgmt]; exact shape.notices
    have ahead (y : Car) : v.hitsAhead j pos y ↔ 0 < j ∧ s.track.cars[j - 1]? = some y ∧
        ((y.length.map fun n : Nat => (y.front : Int) - n).getD 0) - s.param .collisionGap ≤ (pos : Int) := by
      unfold State.hitsAhead
      rw [track, param]
    have behind (y : Car) : v.hitsBehind j pos x y ↔ s.track.cars[j + 1]? = some y ∧
        ∃ n, x.length = some n ∧ (pos : Int) - n - s.param .collisionGap ≤ (y.front : Int) := by
      unfold State.hitsBehind
      rw [track, param]
    simp only [← ahead, ← behind]
    have noted {w : State} {near : Bool} {e : Int} (h : NearNoted v w near k x.tag e) :
        (near = true → Noticed .track { reason 11 with tag := some x.tag, arg := some (k * 256 + (e % 256).toNat) } w) ∧
          (near = false → w.mgmt = s.mgmt) := ⟨h.noticed, fun hn => (h.unnoticed hn).trans mgmt⟩
    have crushed {tag : Nat} (h : v.crushing j pos x = some tag) : ∃ t : State, exec (.checkEyeEdge src true) s = .next t ∧
        SameExcept [.track, .raised, .mgmt, .handed] s t ∧
        NearNoted v t (decide (s.param .trackTol < (sightingError pos x).natAbs)) k x.tag (sightingError pos x) ∧
        t.track.cars = s.track.cars.set j { x.seen (decide (s.param .trackTol < (sightingError pos x).natAbs)) with nextEye := k + 1 } ∧
        t.raised = s.raised ++ [(.crush, { CauseDetail.empty with car := some x.tag, arg := some tag })] := by
      obtain ⟨w, frame, near, wtrack, crush⟩ := correct_crushes here k pos notices h
      rw [crush] at judged
      rw [param, track] at wtrack
      rw [param] at near
      refine ⟨_, judged, ?_, near.same rfl, ?_, ?_⟩
      · exact ((handed.within (by decide)).trans (frame.within (by decide))).trans
          (((raiseCause_frame ..).within (by decide)).trans ((setCars_frame ..).within (by decide)))
      · exact (congrArg (fun t : Track => t.cars.modify j fun c => { c with nextEye := k + 1 }) wtrack).trans (modify_set ..)
      · exact congrArg (· ++ _) ((frame.same .raised (by decide)).trans raised)
    refine ⟨fun hits => ?_, fun noneAhead noneBehind => ?_⟩
    · by_cases some_ : ∃ y, v.hitsAhead j pos y
      · obtain ⟨y, hy⟩ := some_
        obtain ⟨t, hexec, frame, near, cars, crush⟩ := crushed (crushing_ahead hy)
        refine ⟨t, hexec, frame, noted near, cars, fun z hz => ?_, fun z clear _ => absurd hy (clear y)⟩
        obtain rfl := Option.some.inj ((hitsAhead_iff.mp hz).symm.trans (hitsAhead_iff.mp hy))
        exact crush
      · have clear := not_exists.mp some_
        obtain ⟨y, hy⟩ := hits.resolve_left some_
        obtain ⟨t, hexec, frame, near, cars, crush⟩ := crushed (crushing_behind clear hy)
        refine ⟨t, hexec, frame, noted near, cars, fun z hz => absurd hz (clear z), fun z _ hz => ?_⟩
        obtain rfl := Option.some.inj ((hitsBehind_iff.mp hz).symm.trans (hitsBehind_iff.mp hy))
        exact crush
    · obtain ⟨w, frame, near, wtrack, moved⟩ := correct_moves here k pos notices (crushing_clear noneAhead noneBehind)
      rw [moved] at judged
      rw [param, track] at wtrack
      rw [param] at near
      exact ⟨w, (handed.within (by decide)).trans (frame.within (by decide)), noted near, congrArg Track.cars wtrack, judged⟩

end Sys2Proof.Machine
end

section
/-!
Cars leaving the tunnel (R137 to R139, R153): the obligation O38.
-/
namespace Sys2Proof.Machine

-- Proofs in order: a thread that waits for another proof counts against the check's memory limit.
set_option Elab.async false

/-! ## The stations let go (R153) -/

/-- The notice class STATION is pending. -/
def State.stationPending (s : State) : Prop := (Mgmt.notice s.mgmt .station).pending = true

theorem departStation_pending {s : State} {i tag : Nat} (notices : s.mgmt.notices.length = 8)
    (h : s.stationPending ∨ (s.station i).car = some tag ∧ Station.working (s.station i) = true) :
    (s.departStation i tag).stationPending := by
  have noted (t : State) (ht : t.mgmt = s.mgmt) : (t.notifyStation 6 i (some tag)).stationPending :=
    And.left (notify_noticed t .station _ (by rw [ht]; exact notices))
  unfold State.departStation
  dsimp only
  split
  next car =>
    split
    next => exact noted _ ((retract_frame s i).same .mgmt (by decide))
    next idle => exact h.resolve_right fun k => idle k.2
  next other => exact h.resolve_right fun k => other k.1

/-- A working station that holds the car notices its departure. -/
theorem depart_pending {s : State} (shape : Shape s) {i tag : Nat} (hi : i < 24) (car : (s.station i).car = some tag)
    (working : Station.working (s.station i) = true) : (s.depart tag).stationPending := by
  have run : ∀ (l : List Nat) (t : State), Shape t → (∀ k ∈ l, k < 24) → l.Nodup →
      (t.stationPending ∨ i ∈ l ∧ (t.station i).car = some tag ∧ Station.working (t.station i) = true) →
      (l.foldl (fun t i => t.departStation i tag) t).stationPending := by
    intro l
    induction l with
    | nil => exact fun t _ _ _ h => h.resolve_right fun k => List.not_mem_nil k.1
    | cons k l ih =>
      intro t shape small nodup h
      obtain ⟨hk, nodup⟩ := List.nodup_cons.mp nodup
      have next := (departStation_orderly t k tag).shape shape
      refine ih _ next (fun j hj => small j (List.mem_cons_of_mem _ hj)) nodup ?_
      by_cases pending : t.stationPending
      · exact .inl (departStation_pending shape.notices (.inl pending))
      · obtain ⟨mem, car, working⟩ := h.resolve_left pending
        by_cases hik : i = k
        · subst hik
          exact .inl (departStation_pending shape.notices (.inr ⟨car, working⟩))
        · have same : (t.departStation k tag).station i = t.station i :=
            (departStation_station tag (shape.stations.symm ▸ small k List.mem_cons_self)).trans (if_neg hik)
          exact .inr ⟨(List.mem_cons.mp mem).resolve_left hik, by rw [same]; exact car, by rw [same]; exact working⟩
  exact run stationNumbers s shape (fun k hk => List.mem_range.mp hk) List.nodup_range (.inr ⟨List.mem_range.mpr hi, car, working⟩)

/-! ## A car gone (R137) -/

/-- A car's departure before the arbiter is evaluated. -/
def State.departing (s : State) (x : Car) (removed : Bool) : State :=
  ((s.depart x.tag).toSite Config.kReport (completion x removed)).gone x

theorem leave_eq (s : State) (x : Car) (removed : Bool) : s.leave x removed = (s.departing x removed).review := rfl

/-- What a car's departure leaves of the unit. -/
structure LeftTunnel (s w : State) (x : Car) (removed : Bool) : Prop where
  portS : w.portS = (s.toSite 0x42 (completion x removed)).portS
  released : ∀ i, i < 24 → (s.station i).car = some x.tag → w.station i = { s.station i with
    car := none, activity := if Station.working (s.station i) then .retracting else (s.station i).activity }
  kept : ∀ i, i < 24 → (s.station i).car ≠ some x.tag → w.station i = s.station i
  noticed : ∀ i, i < 24 → (s.station i).car = some x.tag → Station.working (s.station i) = true →
    (Mgmt.notice w.mgmt .station).pending = true
  unbound : x.order = none → w.sales = s.sales
  freed : ∀ tag r, x.order = some tag → r < 40 → (s.order r).state = .bound → (s.order r).tag = tag →
    (∀ q, q < r → (s.order q).state ≠ .bound ∨ (s.order q).tag ≠ tag) →
    w.order r = .blank ∧ w.sales.free = r :: s.sales.free ∧ ∀ q, q ≠ r → w.order q = s.order q

/-- The lowest BOUND order of a tag is the one found. -/
theorem boundOrder_first {s : State} {tag r : Nat} (hr : r < 40) (bound : (s.order r).state = .bound) (htag : (s.order r).tag = tag)
    (first : ∀ q, q < r → (s.order q).state ≠ .bound ∨ (s.order q).tag ≠ tag) : s.boundOrder tag = some r := by
  refine List.find?_range_eq_some.mpr ⟨?_, List.mem_range.mpr hr, fun q hq => ?_⟩
  · rw [bound, htag, beq_self_eq_true, beq_self_eq_true]
    rfl
  · rw [Bool.not_eq_true', Bool.and_eq_false_iff, beq_eq_false_iff_ne, beq_eq_false_iff_ne]
    exact first q hq

theorem toSite_stationPending {s : State} (h : s.stationPending) (k : Byte) (l : List Byte) : (s.toSite k l).stationPending := by
  have same : NoticeSame .station s (s.toSite k l) := offerNormal_noticeSame (by rintro (h | h) <;> cases h) ..
  unfold State.stationPending
  rw [same]
  exact h

theorem gone_stationPending {s : State} (h : s.stationPending) (x : Car) : (s.gone x).stationPending := by
  have mgmt : (s.gone x).mgmt = s.mgmt :=
    (((setCars_frame ..).within (by decide)).trans ((freeBound_frame ..).within (m := [.track, .sales]) (by decide))).same .mgmt (by decide)
  unfold State.stationPending
  rw [mgmt]
  exact h

theorem gone_frame (s : State) (x : Car) : SameExcept [.track, .sales] s (s.gone x) :=
  ((setCars_frame ..).within (by decide)).trans ((freeBound_frame ..).within (by decide))

/-- A departure has the stations let go of the car, reports it and takes it off the Car List with its order. -/
theorem departing_leaves {s v : State} (shape : Shape v) (portS : v.portS = s.portS) (stations : v.stations = s.stations)
    (sales : v.sales = s.sales) (x : Car) (removed : Bool) : LeftTunnel s (v.departing x removed) x removed := by
  have station (i : Nat) : v.station i = s.station i := station_congr stations i
  have left {i : Nat} (hi : i < 24) : (v.departing x removed).station i = departed x.tag (s.station i) := by
    have same : (v.departing x removed).stations = (v.depart x.tag).stations :=
      ((gone_frame ..).same .stations (by decide)).trans ((toSite_frame ..).same .stations (by decide))
    rw [station_congr same, depart_station shape.stations x.tag hi, station]
  have reported : ((v.depart x.tag).toSite Config.kReport (completion x removed)).sales = s.sales :=
    ((toSite_frame ..).same .sales (by decide)).trans (((depart_frame ..).same .sales (by decide)).trans sales)
  generalize hw : (v.depart x.tag).toSite Config.kReport (completion x removed) = w at reported
  have order (r : Nat) : w.order r = s.order r := order_of_sales reported r
  have departing : v.departing x removed = w.gone x := by rw [← hw]; rfl
  have orders : s.sales.orders.length = 40 := by rw [← sales]; exact shape.orders
  refine ⟨?_, fun i hi car => ?_, fun i hi car => (left hi).trans (if_neg car), fun i hi car working => ?_, fun unbound => ?_,
    fun tag r htag hr bound own first => ?_⟩
  · have sent : (v.departing x removed).portS = ((v.depart x.tag).toSite Config.kReport (completion x removed)).portS :=
      (gone_frame ..).same .portS (by decide)
    exact sent.trans (toSite_portS _ _ _ _ (((depart_frame ..).same .portS (by decide)).trans portS))
  · rw [left hi, departed, if_pos car]
  · exact gone_stationPending (toSite_stationPending (depart_pending shape hi (by rw [station]; exact car)
      (by rw [station]; exact working)) _ _) x
  · rw [departing, gone_sales, unbound]
    exact reported
  · have found : w.boundOrder tag = some r := boundOrder_first hr (by rw [order]; exact bound) (by rw [order]; exact own)
      fun q hq => by rw [order]; exact first q hq
    have freed : (w.gone x).sales = (w.freeOrder r).sales := by
      rw [gone_sales, htag, Option.bind_some, found]
      rfl
    rw [departing]
    refine ⟨(order_of_sales freed r).trans (freeOrder_order (by rw [reported, orders]; exact hr)), ?_, fun q hq => ?_⟩
    · rw [freed, ← reported]
      rfl
    · exact (order_of_sales freed q).trans ((freeOrder_order_ne w hq).trans (order q))

theorem departing_cars (s : State) (x : Car) (removed : Bool) :
    (s.departing x removed).track = { s.track with cars := s.track.cars.eraseP fun d => d.tag == x.tag } := by
  have track : ((s.depart x.tag).toSite Config.kReport (completion x removed)).track = s.track :=
    ((toSite_frame ..).same .track (by decide)).trans ((depart_frame ..).same .track (by decide))
  have gone (w : State) : (w.gone x).track = { w.track with cars := w.track.cars.eraseP fun d => d.tag == x.tag } :=
    (freeBound_frame ..).same .track (by decide)
  unfold State.departing
  rw [gone, track]

/-! ## The exit eye clears (R137) -/

section
variable {src : Nat} {s : State}

theorem exec_exitEyeClear (h : Taken (.exitEyeClear src) s) : exec (.exitEyeClear src) s = .next (
    let v := (s.without (.exitEyeClear src)).setTrack { s.track with exitBlocked := false }
    match s.track.cars.head?.filter fun c => c.state == .exiting with
    | some c => v.leave c false
    | none => if s.halt.mode = .offline then v else v.notifyTrack 13 none none) := (taking_eq _ h rfl).trans rfl

theorem exec_exitEyeClear_exiting {x : Car} {rest : List Car} (h : Taken (.exitEyeClear src) s)
    (cars : s.track.cars = x :: rest) (exiting : x.state = .exiting) : exec (.exitEyeClear src) s =
      .next (((s.without (.exitEyeClear src)).setTrack { s.track with exitBlocked := false }).departing x false).review := by
  have head : (s.track.cars.head?.filter fun c => c.state == .exiting) = some x := by
    rw [cars]
    exact Option.filter_eq_some_iff.mpr ⟨rfl, beq_iff_eq.mpr exiting⟩
  rw [exec_exitEyeClear h, head, ← leave_eq]

theorem exec_exitEyeClear_stray (h : Taken (.exitEyeClear src) s)
    (stray : ∀ x rest, s.track.cars = x :: rest → x.state ≠ .exiting) : exec (.exitEyeClear src) s = .next (
      let v := (s.without (.exitEyeClear src)).setTrack { s.track with exitBlocked := false }
      if s.halt.mode = .offline then v else v.notifyTrack 13 none none) := by
  have head : (s.track.cars.head?.filter fun c => c.state == .exiting) = none := by
    refine Option.filter_eq_none_iff.mpr fun x hx exiting => ?_
    obtain ⟨rest, cars⟩ := List.head?_eq_some_iff.mp hx
    exact stray x rest cars (beq_iff_eq.mp exiting)
  rw [exec_exitEyeClear h, head]

end

/-! ## REMOVE_CAR (R139) -/

section
variable {seq tag : Byte} {more : List Byte} {s : State}

theorem exec_removeCar (h : Taken (.removeCar seq (tag :: more)) s) : exec (.removeCar seq (tag :: more)) s = .next (
    let u := s.without (.removeCar seq (tag :: more))
    if s.halt.mode ≠ .halted then u.reply seq 12 .wrongMode []
    else match s.car? tag.toNat with
      | none => u.reply seq 12 .notFound []
      | some c => (u.leave c true).reply seq 12 .ok []) := (taking_eq _ h rfl).trans rfl

end

theorem car?_none {s : State} {tag : Nat} (h : ∀ x ∈ s.track.cars, x.tag ≠ tag) : s.car? tag = none :=
  List.find?_eq_none.mpr fun x hx => by rw [decide_eq_true_iff]; exact h x hx

theorem car?_first {s : State} {tag : Nat} {before after : List Car} {x : Car} (cars : s.track.cars = before ++ x :: after)
    (own : x.tag = tag) (first : ∀ y ∈ before, y.tag ≠ tag) : s.car? tag = some x := by
  unfold State.car?
  rw [cars]
  exact List.find?_eq_some_iff_append.mpr ⟨decide_eq_true own, before, after, rfl, fun y hy => by
    rw [Bool.not_eq_true', decide_eq_false_iff_not]
    exact first y hy⟩

theorem eraseP_first {before after : List Car} {x : Car} (first : ∀ y ∈ before, y.tag ≠ x.tag) :
    (before ++ x :: after).eraseP (fun d => d.tag == x.tag) = before ++ after := by
  rw [List.eraseP_append_right _ fun y hy => by rw [beq_iff_eq]; exact first y hy, List.eraseP_cons_of_pos (p := fun d : Car => d.tag == x.tag) (beq_self_eq_true x.tag)]

/-- Settles O38: both ways out of the tunnel are the same departure, which the arbiter's evaluation follows. -/
theorem carsLeaveTheTunnel : Obligations.CarsLeaveTheTunnel := by
  refine ⟨fun src s shape taken => ⟨fun x rest cars exiting => ?_, fun stray => ?_⟩, fun seq tag more s shape taken => ?_⟩
  · have kept : Shape ((s.without (.exitEyeClear src)).setTrack { s.track with exitBlocked := false }) :=
      (setTrack_orderly ..).shape (shape.without _)
    have left := departing_leaves kept (s := s) rfl rfl rfl x false
    have track := departing_cars ((s.without (.exitEyeClear src)).setTrack { s.track with exitBlocked := false }) x false
    refine ⟨_, exec_exitEyeClear_exiting taken cars exiting, ?_, congrArg Track.exitBlocked track,
      left.portS, left.released, left.kept, left.noticed, left.unbound, left.freed⟩
    refine (congrArg Track.cars track).trans ((congrArg (List.eraseP _) cars).trans ?_)
    exact eraseP_first (before := []) (fun _ h => nomatch h)
  · have hexec := exec_exitEyeClear_stray taken stray
    exact ⟨fun offline => hexec.trans (congrArg _ (if_pos offline)), fun mode => hexec.trans (congrArg _ ((if_neg mode).trans rfl))⟩
  · have hexec := exec_removeCar taken
    refine ⟨fun mode => hexec.trans (congrArg _ (if_pos mode)), fun mode missing => ?_, fun mode before x after cars own first => ?_⟩
    · rw [car?_none missing] at hexec
      exact hexec.trans (congrArg _ (if_neg (Classical.not_not.mpr mode)))
    · rw [car?_first cars own first] at hexec
      have left := departing_leaves (shape.without (.removeCar seq (tag :: more))) (s := s) rfl rfl rfl x true
      have track := departing_cars (s.without (.removeCar seq (tag :: more))) x true
      refine ⟨_, hexec.trans (congrArg _ (if_neg (Classical.not_not.mpr mode))), ?_,
        left.portS, left.released, left.kept, left.noticed, left.unbound, left.freed⟩
      refine (congrArg Track.cars track).trans ((congrArg (List.eraseP _) cars).trans ?_)
      exact eraseP_first (by rw [own]; exact first)

end Sys2Proof.Machine
end

section
/-!
A station's judgement of a handover (R145 to R148, R151): end crossings, backoff steps, start crossings; the obligation O34.
-/
namespace Sys2Proof.Machine

-- Proofs in order: a thread that waits for another proof counts against the check's memory limit.
set_option Elab.async false

/-! ## Folds that one element moves -/

theorem foldl_fixed {α β : Type} {g : α → β → α} {a : α} {l : List β} (h : ∀ b ∈ l, g a b = a) : l.foldl g a = a := by
  induction l with
  | nil => rfl
  | cons b l ih =>
    rw [List.foldl_cons, h b List.mem_cons_self]
    exact ih fun c hc => h c (List.mem_cons_of_mem _ hc)

theorem foldl_moved {α β : Type} {g : α → β → α} {a a' : α} {before after : List β} {b : β} (fixed : ∀ x ∈ before, g a x = a)
    (moved : g a b = a') (rest : ∀ x ∈ after, g a' x = a') : (before ++ b :: after).foldl g a = a' := by
  rw [List.foldl_append, foldl_fixed fixed, List.foldl_cons, moved]
  exact foldl_fixed rest

/-- The first element of a list that passes a test. -/
theorem exists_first {α : Type} {p : α → Prop} [DecidablePred p] {l : List α} (h : ∃ a ∈ l, p a) :
    ∃ before a after, l = before ++ a :: after ∧ p a ∧ ∀ b ∈ before, ¬p b := by
  obtain ⟨a, found⟩ := Option.isSome_iff_exists.mp (List.find?_isSome (p := fun a => decide (p a)).mpr
    (h.imp fun a ha => ⟨ha.1, decide_eq_true ha.2⟩))
  obtain ⟨pass, before, after, split, fail⟩ := List.find?_eq_some_iff_append.mp found
  refine ⟨before, a, after, split, of_decide_eq_true pass, fun b hb => ?_⟩
  have test := fail b hb
  rwa [Bool.not_eq_true', decide_eq_false_iff_not] at test

/-! ## The three parts of a judgement (R146) -/

/-- One movement's end crossing at a station of given data. -/
def State.endStep (i : Nat) (st : Station) (t : State) (m : Move) : State :=
  if endCrossed st m then t.endCrossing i m.tag else t

/-- One movement's start crossing at a station of given data. -/
def State.startStep (i : Nat) (st : Station) (t : State) (m : Move) : State :=
  if startCrossed st m then t.startCrossing i m else t

/-- The backoff count of a handover that may be of a step. -/
def State.counted (s : State) (i : Nat) : Option Nat → State
  | some d => s.countBackoff i d
  | none => s

section
variable (s : State) (i : Nat) (moves : List Move) (delta : Option Nat)

theorem judgeStation_unused (h : (s.station i).actuator = none) : s.judgeStation i moves delta = s := by
  unfold State.judgeStation Station.used
  dsimp only
  rw [h]
  exact if_neg (by decide)

theorem judgeStation_used (h : (s.station i).actuator ≠ none) : s.judgeStation i moves delta =
    moves.foldl (State.startStep i (s.station i)) ((moves.foldl (State.endStep i (s.station i)) s).counted i delta) := by
  have used : Station.used (s.station i) = true := Option.isSome_iff_ne_none.mpr h
  unfold State.judgeStation
  dsimp only
  rw [if_pos used, List.foldl_filter, List.foldl_filter]
  cases delta <;> rfl

end

/-! ## End crossings (R148) -/

/-- A movement takes the rear of a station's car past its end point. -/
def Station.ends (st : Station) (m : Move) : Prop :=
  st.car = some m.tag ∧ ∃ a b : Int, m.rear0 = some a ∧ m.rear1 = some b ∧
    a < (st.position : Int) + st.endOff ∧ (st.position : Int) + st.endOff ≤ b

theorem endCrossed_iff (st : Station) (m : Move) : endCrossed st m = true ↔
    ∃ a b : Int, m.rear0 = some a ∧ m.rear1 = some b ∧ a < (st.position : Int) + st.endOff ∧ (st.position : Int) + st.endOff ≤ b := by
  unfold endCrossed
  split
  next a b ha hb =>
    unfold crosses
    rw [Bool.and_eq_true, decide_eq_true_iff, decide_eq_true_iff]
    refine ⟨fun h => ⟨a, b, ha, hb, h⟩, fun ⟨a', b', ha', hb', h⟩ => ?_⟩
    obtain rfl := Option.some.inj (ha.symm.trans ha')
    obtain rfl := Option.some.inj (hb.symm.trans hb')
    exact h
  next unknown => exact ⟨(fun h => nomatch h), fun ⟨a, b, ha, hb, _⟩ => (unknown a b ha hb).elim⟩

section
variable {s : State} {i : Nat}

theorem endStep_ends {st : Station} {m : Move} (h : st.ends m) : s.endStep i st m = s.endCrossing i m.tag :=
  if_pos ((endCrossed_iff st m).mpr h.2)

/-- Only the car's own movement ends its engagement. -/
theorem endStep_other {m : Move} (h : ¬(s.station i).ends m) : s.endStep i (s.station i) m = s := by
  unfold State.endStep
  by_cases crossed : endCrossed (s.station i) m = true
  · rw [if_pos crossed]
    exact if_neg fun car => h ⟨car, (endCrossed_iff _ m).mp crossed⟩
  · exact if_neg crossed

/-- A station at rest ends no engagement. -/
theorem endStep_rest (h : (s.station i).activity = .idle ∨ (s.station i).activity = .retracting) (st : Station) (m : Move) :
    s.endStep i st m = s := by
  have rest : s.endCrossing i m.tag = s := by
    unfold State.endCrossing
    dsimp only
    split
    · obtain h | h := h <;> rw [h]
    · rfl
  unfold State.endStep
  rw [rest, ite_self]

theorem endCrossing_engaged {tag : Nat} (car : (s.station i).car = some tag) (h : (s.station i).activity = .engaged) :
    s.endCrossing i tag = (s.release i).credit tag (s.station i).service := by
  unfold State.endCrossing
  dsimp only
  rw [if_pos car, h]

theorem endCrossing_backoff {tag : Nat} (car : (s.station i).car = some tag) (h : (s.station i).activity = .backoff) :
    s.endCrossing i tag = s.release i := by
  unfold State.endCrossing
  dsimp only
  rw [if_pos car, h]

end

/-! ## Start crossings (R147) -/

/-- A movement takes the front of a car that is to have the service past the station's start point. -/
def State.starts (s : State) (st : Station) (m : Move) : Prop :=
  (m.front0 : Int) < (st.position : Int) + st.startOff ∧ (st.position : Int) + st.startOff ≤ (m.front1 : Int) ∧
    (∀ b : Int, m.rear1 = some b → b < (st.position : Int) + st.endOff) ∧
    ∃ x, s.car? m.tag = some x ∧ hasService x.services st.service = true ∧ hasService x.done st.service = false

section
variable {s : State} {i : Nat}

theorem startCrossed_iff (st : Station) (m : Move) : startCrossed st m = true ↔
    (m.front0 : Int) < (st.position : Int) + st.startOff ∧ (st.position : Int) + st.startOff ≤ (m.front1 : Int) := by
  unfold startCrossed crosses
  rw [Bool.and_eq_true, decide_eq_true_iff, decide_eq_true_iff]
  rfl

theorem rearBelow_iff (st : Station) (rear : Option Int) :
    rearBelow st rear = true ↔ ∀ b : Int, rear = some b → b < (st.position : Int) + st.endOff := by
  unfold rearBelow
  rw [Option.all_eq_true]
  exact forall₂_congr fun b _ => decide_eq_true_iff

theorem wants_iff (c : Car) (st : Station) :
    wants c st = true ↔ hasService c.services st.service = true ∧ hasService c.done st.service = false := by
  unfold wants
  rw [Bool.and_eq_true, Bool.not_eq_true']

/-- A station that is not idle, or out of service, or outside ARMED, takes no car. -/
theorem startCrossing_barred (h : s.halt.mode ≠ .armed ∨ (s.station i).inService = false ∨ (s.station i).activity ≠ .idle)
    (m : Move) : s.startCrossing i m = s := by
  unfold State.startCrossing
  dsimp only
  split
  · rfl
  · refine if_neg fun ⟨armed, serves, idle, _⟩ => ?_
    obtain h | h | h := h
    · exact h armed
    · rw [h] at serves
      cases serves
    · exact h idle

theorem startStep_barred (h : s.halt.mode ≠ .armed ∨ (s.station i).inService = false ∨ (s.station i).activity ≠ .idle)
    (st : Station) (m : Move) : s.startStep i st m = s := by
  unfold State.startStep
  rw [startCrossing_barred h, ite_self]

theorem startStep_other {m : Move} (h : ¬s.starts (s.station i) m) : s.startStep i (s.station i) m = s := by
  unfold State.startStep
  by_cases crossed : startCrossed (s.station i) m = true
  · rw [if_pos crossed]
    unfold State.startCrossing
    dsimp only
    split
    · rfl
    next x found =>
      refine if_neg fun ⟨_, _, _, wanted, below⟩ => h ?_
      obtain ⟨lt, le⟩ := (startCrossed_iff _ m).mp crossed
      exact ⟨lt, le, (rearBelow_iff ..).mp below, x, found, (wants_iff ..).mp wanted⟩
  · exact if_neg crossed

theorem startStep_starts {m : Move} (h : s.starts (s.station i) m) (armed : s.halt.mode = .armed)
    (serves : (s.station i).inService = true) (idle : (s.station i).activity = .idle) :
    s.startStep i (s.station i) m = s.engage i m.tag (s.station i).preload := by
  obtain ⟨lt, le, below, x, found, wanted⟩ := h
  refine (if_pos ((startCrossed_iff _ m).mpr ⟨lt, le⟩)).trans ?_
  unfold State.startCrossing
  dsimp only
  rw [found]
  exact if_pos ⟨armed, serves, idle, (wants_iff ..).mpr wanted, (rearBelow_iff ..).mpr below⟩

end

/-! ## Backoff steps (R151) -/

theorem counted_other {s : State} {i : Nat} (h : (s.station i).activity ≠ .backoff) (delta : Option Nat) : s.counted i delta = s := by
  cases delta with
  | none => rfl
  | some d => exact if_neg h

/-! ## A station's judgement by its activity -/

section
variable {s : State} {i : Nat} (used : (s.station i).actuator ≠ none) (moves : List Move) (delta : Option Nat)
include used

/-- An idle station has start crossings alone to judge. -/
theorem judgeStation_idle (idle : (s.station i).activity = .idle) : s.judgeStation i moves delta =
    moves.foldl (State.startStep i (s.station i)) s := by
  rw [judgeStation_used s i moves delta used, foldl_fixed fun m _ => endStep_rest (.inl idle) _ m,
    counted_other (by rw [idle]; exact (fun h => nomatch h))]

/-- Where no car's engagement ends, a station that is not idle has the backoff count alone to judge. -/
theorem judgeStation_working (busy : ((s.counted i delta).station i).activity ≠ .idle)
    (h : ∀ m ∈ moves, ¬(s.station i).ends m) : s.judgeStation i moves delta = s.counted i delta := by
  rw [judgeStation_used s i moves delta used, foldl_fixed fun m hm => endStep_other (h m hm)]
  exact foldl_fixed fun m _ => startStep_barred (.inr (.inr busy)) _ m

/-- A car's end crossing is all that a handover does to its station. -/
theorem judgeStation_ends {t : State} (ended : ∀ m, (s.station i).ends m → s.endCrossing i m.tag = t)
    (retracting : (t.station i).activity = .retracting) (h : ∃ m ∈ moves, (s.station i).ends m) :
    s.judgeStation i moves delta = t := by
  classical
  obtain ⟨before, m, after, rfl, ends, first⟩ := exists_first h
  have busy : (t.station i).activity ≠ .idle ∧ (t.station i).activity ≠ .backoff := by
    rw [retracting]
    exact ⟨(fun h => nomatch h), fun h => nomatch h⟩
  rw [judgeStation_used s i _ delta used, foldl_moved (fun b hb => endStep_other (first b hb))
    ((endStep_ends ends).trans (ended m ends)) (fun b _ => endStep_rest (.inr retracting) _ b), counted_other busy.2]
  exact foldl_fixed fun b _ => startStep_barred (.inr (.inr busy.1)) _ b

end

/-- Settles O34: one case per activity of the station. -/
theorem stationsTakeCrossings : Obligations.StationsTakeCrossings := by
  refine ⟨fun _ _ _ => rfl, fun i moves delta s hi shape => ?_⟩
  have place : i < s.stations.length := by rw [shape.stations]; exact hi
  have released : (s.release i).station i = { s.station i with activity := .retracting, stepsLeft := 0 } :=
    (release_station place).trans (if_pos rfl)
  refine ⟨judgeStation_unused s i moves delta, fun used idle serves armed => ⟨fun h => ?_, fun before m after split starts first => ?_⟩,
    fun used idle barred => ?_, fun used engaged ends => ?_, fun used backoff ends => ?_, fun used engaged h => ?_,
    fun used backoff h => ⟨fun hd => ?_, fun d hd => ⟨fun done => ?_, fun more => ?_⟩⟩, fun used retracting => ?_⟩
  · rw [judgeStation_idle used moves delta idle]
    exact foldl_fixed fun m hm => startStep_other (h m hm)
  · have engaged : ((s.engage i m.tag (s.station i).preload).station i).activity = .engaged :=
      congrArg Station.activity (station_setStation _ (by
        rw [(stationCmd_frame s i 1 _).same .stations (by decide)]
        exact place))
    rw [judgeStation_idle used moves delta idle, split]
    exact foldl_moved (fun b hb => startStep_other (first b hb)) (startStep_starts starts armed serves idle)
      fun b _ => startStep_barred (.inr (.inr fun h => nomatch engaged.symm.trans h)) _ b
  · rw [judgeStation_idle used moves delta idle]
    exact foldl_fixed fun m _ => startStep_barred (barred.symm.imp_right .inl) _ m
  · obtain ⟨m, hm, car, crossed⟩ := ends
    have ended (n : Move) (hn : (s.station i).ends n) : s.endCrossing i n.tag = (s.release i).credit m.tag (s.station i).service := by
      rw [endCrossing_engaged hn.1 engaged, Option.some.inj (hn.1.symm.trans car)]
    have station : ((s.release i).credit m.tag (s.station i).service).station i =
        { s.station i with activity := .retracting, stepsLeft := 0 } := released
    rw [judgeStation_ends used moves delta ended (congrArg Station.activity station) ⟨m, hm, car, crossed⟩]
    refine ⟨((release_frame s i).within (by decide)).trans ((credit_frame ..).within (by decide)), station, rfl, ?_⟩
    refine (congrArg (List.map _) (congrArg Track.cars ((release_frame s i).same .track (by decide)))).trans ?_
    refine List.map_congr_left fun x _ => ?_
    rw [car]
    exact ite_cond_congr (propext (by rw [Option.some.injEq, eq_comm]))
  · exact judgeStation_ends used moves delta (fun m hm => endCrossing_backoff hm.1 backoff) (congrArg Station.activity released) ends
  · have same : s.counted i delta = s := counted_other (by rw [engaged]; exact (fun h => nomatch h)) delta
    exact (judgeStation_working used moves delta (by rw [same, engaged]; exact (fun h => nomatch h)) h).trans same
  · subst hd
    exact judgeStation_working used moves none (by rw [State.counted, backoff]; exact (fun h => nomatch h)) h
  · have none_ : (s.station i).stepsLeft - d = 0 := Nat.sub_eq_zero_of_le done
    have counted : s.counted i (some d) =
        (s.stationCmd i 1 (s.station i).active).setStation i { s.station i with activity := .engaged, stepsLeft := 0 } :=
      (if_pos backoff).trans (if_pos none_)
    have engaged : ((s.counted i (some d)).station i).activity = .engaged := by
      rw [counted]
      refine congrArg Station.activity (station_setStation _ ?_)
      rw [(stationCmd_frame s i 1 _).same .stations (by decide)]
      exact place
    subst hd
    exact (judgeStation_working used moves (some d) (by rw [engaged]; exact (fun h => nomatch h)) h).trans counted
  · have some_ : ¬(s.station i).stepsLeft - d = 0 := Nat.sub_ne_zero_of_lt more
    have counted : s.counted i (some d) = s.setStation i { s.station i with stepsLeft := (s.station i).stepsLeft - d } :=
      (if_pos backoff).trans (if_neg some_)
    have busy : ((s.counted i (some d)).station i).activity = .backoff := by
      rw [counted]
      exact (congrArg Station.activity (station_setStation _ place)).trans backoff
    subst hd
    exact (judgeStation_working used moves (some d) (by rw [busy]; exact (fun h => nomatch h)) h).trans counted
  · rw [judgeStation_used s i moves delta used, foldl_fixed fun m _ => endStep_rest (.inr retracting) _ m,
      counted_other (by rw [retracting]; exact (fun h => nomatch h))]
    exact foldl_fixed fun m _ => startStep_barred (.inr (.inr (by rw [retracting]; exact (fun h => nomatch h)))) _ m

end Sys2Proof.Machine
end

section
/-!
The step (R125 to R129): the cut advance, the drift count, the causes and the handover; the obligation O33.
-/
namespace Sys2Proof.Machine

-- Proofs in order: a thread that waits for another proof counts against the check's memory limit.
set_option Elab.async false

/-! ## The causes of a step (R127, R128) -/

/-- The car's next check eye stands at a place that the car has gone past unseen. -/
def State.misses (s : State) (c : Car) (p : Nat × Nat) : Prop :=
  s.track.eyes[c.nextEye]? = some p ∧ p.2 + s.param .slipLimit < c.front

theorem missedEye_some_iff {s : State} {c : Car} {a : Nat} : s.missedEye c = some a ↔ ∃ p, s.misses c p ∧ p.1 = a := by
  unfold State.missedEye State.misses
  cases s.track.eyes[c.nextEye]? with
  | none => exact ⟨(fun h => nomatch h), fun ⟨_, h, _⟩ => nomatch h.1⟩
  | some p =>
    obtain ⟨b, pos⟩ := p
    by_cases past : pos + s.param .slipLimit < c.front
    · refine (iff_of_eq (congrArg (· = some a) (if_pos past))).trans ⟨fun h => ⟨_, ⟨rfl, past⟩, Option.some.inj h⟩, fun ⟨q, h, hq⟩ => ?_⟩
      obtain rfl := Option.some.inj h.1
      exact congrArg some hq
    · refine (iff_of_eq (congrArg (· = some a) (if_neg past))).trans ⟨(fun h => nomatch h), fun ⟨q, h, _⟩ => ?_⟩
      obtain rfl := Option.some.inj h.1
      exact absurd h.2 past

theorem passEye_misses {s : State} {c : Car} {p : Nat × Nat} (h : s.misses c p) :
    s.passEye c = { c with nextEye := c.nextEye + 1 } := by
  unfold State.passEye
  rw [missedEye_some_iff.mpr ⟨p, h, rfl⟩]

theorem passEye_other {s : State} {c : Car} (h : ∀ p, ¬s.misses c p) : s.passEye c = c := by
  have none_ : s.missedEye c = none := Option.eq_none_iff_forall_ne_some.mpr fun a ha => by
    obtain ⟨p, hp, -⟩ := missedEye_some_iff.mp ha
    exact h p hp
  unfold State.passEye
  rw [none_]

theorem exitMissed_iff {s : State} {c : Car} : s.exitMissed c = true ↔
    c.state ≠ .exiting ∧ s.track.exitBlocked = false ∧ s.param .exitPos + s.param .slipLimit < c.front := by
  unfold State.exitMissed
  rw [Bool.and_eq_true, Bool.and_eq_true, bne_iff_ne, Bool.not_eq_true', decide_eq_true_iff, and_assoc]

/-- TRACK_FAULT for a car that missed its eye. -/
def State.eyeCauses (s : State) (c : Car) : List (CauseKind × CauseDetail) :=
  (s.missedEye c).elim [] fun a => [(.trackFault, { node := some a, station := none, car := some c.tag, arg := some c.nextEye })]

theorem mem_eyeCauses {s : State} {c : Car} {k : CauseKind} {e : CauseDetail} : (k, e) ∈ s.eyeCauses c ↔
    k = .trackFault ∧ ∃ p, s.misses c p ∧ e = { node := some p.1, station := none, car := some c.tag, arg := some c.nextEye } := by
  unfold State.eyeCauses
  cases hm : s.missedEye c with
  | none =>
    refine ⟨(fun h => nomatch h), fun ⟨_, p, hp, _⟩ => ?_⟩
    exact nomatch hm.symm.trans (missedEye_some_iff.mpr ⟨p, hp, rfl⟩)
  | some a =>
    rw [Option.elim_some, List.mem_singleton, Prod.mk.injEq]
    refine and_congr_right fun _ => ⟨fun he => ?_, fun ⟨p, hp, he⟩ => ?_⟩
    · obtain ⟨p, hp, rfl⟩ := missedEye_some_iff.mp hm
      exact ⟨p, hp, he⟩
    · rw [he, Option.some.inj (hm.symm.trans (missedEye_some_iff.mpr ⟨p, hp, rfl⟩))]

theorem carCauses_eq (s : State) (head : Bool) (c : Car) : s.carCauses head c =
    (if c.state = .entering ∧ s.param .maxCarLen < c.front then
      [(.overlength, { CauseDetail.empty with car := some c.tag, arg := some c.front })] else []) ++
    (if s.param .rollerLimit < c.front ∧ c.roller ≠ .engaged then
      [(.noRoller, { CauseDetail.empty with car := some c.tag })] else []) ++
    s.eyeCauses c ++
    (if head = true ∧ s.exitMissed c = true then [(.exitMissing, { CauseDetail.empty with car := some c.tag })] else []) := by
  unfold State.carCauses State.eyeCauses
  cases s.missedEye c <;> rfl

theorem mem_cause_if {p : Prop} [Decidable p] {k k' : CauseKind} {e e' : CauseDetail} :
    (k, e) ∈ (if p then [(k', e')] else []) ↔ k = k' ∧ p ∧ e = e' := by
  rw [List.mem_ite_nil_right, List.mem_singleton, Prod.mk.injEq, and_left_comm]

/-- The four tests of R128 on one car. -/
theorem mem_carCauses {s : State} {head : Bool} {c : Car} {k : CauseKind} {e : CauseDetail} :
    (k, e) ∈ s.carCauses head c ↔
      (k = .overlength ∧ c.state = .entering ∧ s.param .maxCarLen < c.front ∧
        e = { CauseDetail.empty with car := some c.tag, arg := some c.front }) ∨
      (k = .noRoller ∧ s.param .rollerLimit < c.front ∧ c.roller ≠ .engaged ∧ e = { CauseDetail.empty with car := some c.tag }) ∨
      (k = .trackFault ∧ ∃ p, s.misses c p ∧ e = { node := some p.1, station := none, car := some c.tag, arg := some c.nextEye }) ∨
      (k = .exitMissing ∧ head = true ∧ s.exitMissed c = true ∧ e = { CauseDetail.empty with car := some c.tag }) := by
  rw [carCauses_eq, List.mem_append, List.mem_append, List.mem_append, mem_eyeCauses, mem_cause_if, mem_cause_if, mem_cause_if,
    or_assoc, or_assoc, and_assoc, and_assoc, and_assoc]

/-- The causes of the cars are those of each car at its place, the head alone at place 0. -/
theorem mem_stepCauses {s : State} {x : CauseKind × CauseDetail} :
    x ∈ s.stepCauses ↔ ∃ j c, s.track.cars[j]? = some c ∧ x ∈ s.carCauses (decide (j = 0)) c := by
  unfold State.stepCauses
  cases s.track.cars with
  | nil => exact ⟨(fun h => nomatch h), fun ⟨_, _, h, _⟩ => nomatch h⟩
  | cons c rest =>
    rw [List.mem_append, List.mem_flatMap]
    constructor
    · rintro (h | ⟨d, hd, h⟩)
      · exact ⟨0, c, rfl, h⟩
      · obtain ⟨j, hj⟩ := List.mem_iff_getElem?.mp hd
        exact ⟨j + 1, d, hj, h⟩
    · rintro ⟨j, d, hj, h⟩
      cases j with
      | zero =>
        obtain rfl := Option.some.inj hj
        exact .inl h
      | succ j => exact .inr ⟨d, List.mem_iff_getElem?.mpr ⟨j, hj⟩, h⟩

theorem drifting_iff {s : State} : s.drifting = true ↔ s.halt.mode = .offline ∨ s.halt.mode = .halting ∨ s.halt.mode = .halted ∨
    s.track.conveyor = .stopped ∨ s.track.conveyor = .stopping := by
  unfold State.drifting
  rw [Bool.or_eq_true, Bool.or_eq_true, Bool.or_eq_true, Bool.or_eq_true, beq_iff_eq, beq_iff_eq, beq_iff_eq, beq_iff_eq, beq_iff_eq,
    or_assoc, or_assoc, or_assoc]

theorem mem_driftCauses {s : State} {n : Nat} {k : CauseKind} {e : CauseDetail} : (k, e) ∈ s.driftCauses n ↔
    k = .drift ∧ s.drifting = true ∧ s.param .driftLimit < n ∧ s.track.cars ≠ [] ∧ e = { CauseDetail.empty with arg := some n } := by
  unfold State.driftCauses
  rw [mem_cause_if, and_assoc, and_assoc]

/-! ## The step applied (R126 to R129) -/

/-- The causes a step raises. -/
def State.causesOf (s : State) (d : Nat) : List (CauseKind × CauseDetail) :=
  s.driftCauses (s.driftAfter d) ++ (s.moveCars d).stepCauses

/-- The cars moved, the drift counted and the causes raised. -/
def State.stepped (s : State) (d : Nat) : State :=
  ((s.moveCars d).setCars ((s.moveCars d).track.cars.map (s.moveCars d).passEye)).raiseAll (s.causesOf d)

theorem applyStep_eq (s : State) (d : Nat) (early : Option Nat) : s.applyStep d early =
    (((s.stepped d).takeEarly (s.causesOf d) early).handMoves
      (s.track.cars.map fun c => moveOf c { c with front := c.front + s.advance d }) (some d)).review := rfl

theorem stepped_frame (s : State) (d : Nat) : SameExcept [.track, .raised] s (s.stepped d) :=
  (((setTrack_frame ..).within (by decide)).trans ((setCars_frame ..).within (by decide))).trans ((setRaised_frame ..).within (by decide))

theorem advance_eq (s : State) (d : Nat) : s.advance d =
    (s.track.cars.head?.map fun h : Car => min d (4095 + s.param .slipLimit - h.front)).getD d := by
  unfold State.advance
  cases s.track.cars <;> rfl

section
variable {src : Nat} {delta : Byte} {s : State}

theorem exec_step (h : Taken (.step src delta none) s) (early : Option Nat) : exec (.step src delta early) s = .next (
    let u := s.without (.step src delta none)
    if delta.toNat = 0 then u
    else if 15 < delta.toNat then
      (u.raiseCause .encoderGap { CauseDetail.empty with node := some src, arg := some delta.toNat }).notifyTrack 7 none
        (some delta.toNat)
    else u.applyStep delta.toNat early) := (taking_eq _ h rfl).trans rfl

theorem exec_step_applied (h : Taken (.step src delta none) s) (low : 1 ≤ delta.toNat) (high : delta.toNat ≤ 15)
    (early : Option Nat) : exec (.step src delta early) s =
      .next ((s.without (.step src delta none)).applyStep delta.toNat early) :=
  (exec_step h early).trans (congrArg _ ((if_neg (Nat.one_le_iff_ne_zero.mp low)).trans (if_neg (Nat.not_lt.mpr high))))

end

/-- A car after the step, before its eye is judged. -/
theorem stepped_car {s : State} {d j : Nat} {x : Car} (hx : s.track.cars[j]? = some x) : (s.stepped d).track.cars[j]? =
    some ((s.moveCars d).passEye { x with front := x.front + s.advance d }) := by
  have cars : (s.stepped d).track.cars =
      (s.track.cars.map fun c => { c with front := c.front + s.advance d }).map (s.moveCars d).passEye := rfl
  rw [cars, List.getElem?_map, List.getElem?_map, hx]
  rfl

/-- The causes of a step in the terms of the state before it. -/
theorem mem_causesOf {s : State} {d : Nat} {k : CauseKind} {e : CauseDetail} : (k, e) ∈ s.causesOf d ↔
    (k = .drift ∧ s.drifting = true ∧ s.param .driftLimit < s.driftAfter d ∧ s.track.cars ≠ [] ∧
      e = { CauseDetail.empty with arg := some (s.driftAfter d) }) ∨
    ∃ j x, s.track.cars[j]? = some x ∧
      (k, e) ∈ (s.moveCars d).carCauses (decide (j = 0)) { x with front := x.front + s.advance d } := by
  unfold State.causesOf
  rw [List.mem_append, mem_driftCauses, mem_stepCauses]
  have cars : (s.moveCars d).track.cars = s.track.cars.map fun c => { c with front := c.front + s.advance d } := rfl
  refine or_congr Iff.rfl (exists_congr fun j => ⟨fun ⟨c, hc, h⟩ => ?_, fun ⟨x, hx, h⟩ => ⟨_, ?_, h⟩⟩)
  · rw [cars, List.getElem?_map] at hc
    obtain ⟨x, hx, rfl⟩ := Option.map_eq_some_iff.mp hc
    exact ⟨x, hx, h⟩
  · rw [cars, List.getElem?_map, hx]
    rfl

/-- Settles O33: the step applied is the one function `State.stepped`, whose causes are read off car by car. -/
theorem stepMovesEveryCar : Obligations.StepMovesEveryCar := by
  intro src delta s taken
  dsimp only
  rw [← advance_eq]
  refine ⟨fun zero => (exec_step taken none).trans (congrArg _ (if_pos zero)), fun gap => ?_, fun low high => ?_⟩
  · have some_ : delta.toNat ≠ 0 := Nat.ne_of_gt (Nat.lt_of_le_of_lt (Nat.zero_le _) gap)
    exact (exec_step taken none).trans (congrArg _ ((if_neg some_).trans ((if_pos gap).trans rfl)))
  · have applied := exec_step_applied taken low high
    generalize delta.toNat = d at applied ⊢
    have handed : SameExcept [.handed] s (s.without (.step src delta none)) := setHanded_frame s _
    generalize hu : s.without (.step src delta none) = u at applied handed ⊢
    have track : u.track = s.track := by rw [← hu]; rfl
    have param (p : Config.Param) : u.param p = s.param p := by rw [← hu]; rfl
    have mode : u.halt.mode = s.halt.mode := by rw [← hu]; rfl
    have raised : u.raised = s.raised := by rw [← hu]; rfl
    have advance : u.advance d = s.advance d := by rw [advance_eq, advance_eq, track, param]
    have drifting : u.drifting = true ↔ _ := drifting_iff
    rw [mode, track] at drifting
    have misses (x : Car) (p : Nat × Nat) : (u.moveCars d).misses { x with front := x.front + s.advance d } p ↔
        s.track.eyes[x.nextEye]? = some p ∧ p.2 + s.param .slipLimit < x.front + s.advance d := by
      rw [← track, ← param]
      exact Iff.rfl
    refine ⟨u.stepped d, u.causesOf d, ?_, ?_, fun i k e hi => ?_, ?_, ?_, ?_, ?_, fun j x hx => ⟨fun ⟨p, hp⟩ => ?_, fun h => ?_⟩,
      fun k e => ?_⟩
    · rw [applied, applyStep_eq, track, advance]
      rfl
    · exact (handed.within (by decide)).trans ((stepped_frame ..).within (by decide))
    · have early : (u.stepped d).takeEarly (u.causesOf d) (some i) =
          ((u.stepped d).setRaised ((u.stepped d).raised.erase (k, e))).takeCause k e := by
        unfold State.takeEarly
        rw [Option.bind_some, hi]
      rw [applied, applyStep_eq, early, track, advance]
      rfl
    · rw [← raised]
      rfl
    · have drift : (u.stepped d).track.drift = if u.drifting = true then sat 4095 (u.track.drift + d) else u.track.drift := rfl
      rw [drift, track]
      exact ite_cond_congr (propext drifting)
    · rw [← track]
      rfl
    · rw [← track]
      exact (List.length_map _).trans (List.length_map _)
    · rw [stepped_car (by rw [track]; exact hx), advance]
      exact congrArg some (passEye_misses ((misses x p).mpr hp))
    · rw [stepped_car (by rw [track]; exact hx), advance]
      exact congrArg some (passEye_other fun p hp => h p ((misses x p).mp hp))
    · rw [mem_causesOf, advance, drifting, track, param]
      refine or_congr Iff.rfl (exists_congr fun j => exists_congr fun x => and_congr_right fun _ => ?_)
      rw [mem_carCauses, exitMissed_iff, decide_eq_true_iff]
      simp only [misses, ← param, ← track]
      simp only [and_assoc]
      exact Iff.rfl

end Sys2Proof.Machine
end

section
/-!
The front edge at the entry eye (R99, R110 to R114, R124): the obligation O32.
-/
namespace Sys2Proof.Machine

-- Proofs in order: a thread that waits for another proof counts against the check's memory limit.
set_option Elab.async false

/-! ## The conveyor judged again leaves the cars -/

/-- The Car List and its tag counter are the same. -/
structure CarsSame (s t : State) : Prop where
  cars : t.track.cars = s.track.cars
  carTag : t.track.carTag = s.track.carTag

theorem CarsSame.of_track {s t : State} (h : t.track = s.track) : CarsSame s t := ⟨congrArg Track.cars h, congrArg Track.carTag h⟩

theorem CarsSame.trans {s t u : State} (h : CarsSame s t) (k : CarsSame t u) : CarsSame s u :=
  ⟨k.cars.trans h.cars, k.carTag.trans h.carTag⟩

theorem judgeSpeed_cars (s : State) : CarsSame s s.judgeSpeed := by
  unfold State.judgeSpeed
  split
  · have track : ((s.setTrack { s.track with commanded := s.speedLevel }).driveCmd 1 s.speedLevel).track =
        { s.track with commanded := s.speedLevel } := (driveCmd_frame ..).same .track (by decide)
    exact ⟨(congrArg Track.cars track).trans rfl, (congrArg Track.carTag track).trans rfl⟩
  · exact ⟨rfl, rfl⟩

theorem judgeStandby_cars (s : State) : CarsSame s s.judgeStandby := by
  unfold State.judgeStandby
  split
  · split <;> exact ⟨rfl, rfl⟩
  · exact ⟨rfl, rfl⟩

theorem judgeConveyor_cars (s : State) : CarsSame s s.judgeConveyor := (judgeSpeed_cars s).trans (judgeStandby_cars _)

theorem judgeConveyor_noticeSame (s : State) : NoticeSame .track s s.judgeConveyor := by
  have speed : NoticeSame .track s s.judgeSpeed := by
    unfold State.judgeSpeed
    exact .ite (((setTrack_frame ..).noticeSame (by decide)).trans (toField_noticeSame (by rintro (h | h) <;> cases h) ..)) .refl
  exact speed.trans ((judgeStandby_frame _).noticeSame (by decide))

/-! ## An unannounced car (R112) -/

/-- What the creation of an unannounced car does to the unit. -/
structure UnannouncedMade (s t : State) : Prop where
  frame : SameExcept [.track, .portF, .mgmt, .start] s t
  cars : t.track.cars = s.track.cars ++ [Car.unannouncedNew s.nextCarTag (haltedMode s.halt.mode)]
  carTag : t.track.carTag = s.nextCarTag
  noticed : Noticed .track { reason 1 with tag := some s.nextCarTag } t
  start : t.startRequested = (s.startRequested || decide (s.halt.mode = .armed ∧
    (s.track.conveyor = .stopped ∨ s.track.conveyor = .stopping)))

theorem unannouncedCar_makes {s : State} (notices : s.mgmt.notices.length = 8) : UnannouncedMade s s.unannouncedCar := by
  have noticed : Noticed .track { reason 1 with tag := some s.nextCarTag }
      ((s.insertCar (Car.unannouncedNew s.nextCarTag (haltedMode s.halt.mode))).notifyTrack 1 (some s.nextCarTag) none) :=
    notify_noticed _ .track _ notices
  have inserted : SameExcept [.track, .mgmt] s
      ((s.insertCar (Car.unannouncedNew s.nextCarTag (haltedMode s.halt.mode))).notifyTrack 1 (some s.nextCarTag) none) :=
    ((setTrack_frame ..).within (by decide)).trans ((notifyTrack_frame ..).within (by decide))
  have made : UnannouncedMade s
      ((s.insertCar (Car.unannouncedNew s.nextCarTag (haltedMode s.halt.mode))).notifyTrack 1 (some s.nextCarTag) none).handStart := by
    rw [handStart_eq]
    exact ⟨(inserted.within (by decide)).trans ((setStartRequested_frame ..).within (by decide)), rfl, rfl, noticed, rfl⟩
  have judged := judgeConveyor_frame
    ((s.insertCar (Car.unannouncedNew s.nextCarTag (haltedMode s.halt.mode))).notifyTrack 1 (some s.nextCarTag) none).handStart
  exact ⟨made.frame.trans (judged.within (by decide)), (judgeConveyor_cars _).cars.trans made.cars,
    (judgeConveyor_cars _).carTag.trans made.carTag, (judgeConveyor_noticeSame _).noticed made.noticed,
    (judged.same .start (by decide)).trans made.start⟩

/-! ## Staging on binding (R99) -/

/-- What staging on binding leaves. -/
structure StagedOnBinding (s t : State) (l : Nat) : Prop where
  frame : SameExcept [.sales, .merge, .mgmt, .start] s t
  grant : t.merge.grant = s.merge.grant
  admitTimer : t.merge.admitTimer = s.merge.admitTimer
  entryBlocked : t.merge.entryBlocked = s.merge.entryBlocked
  gate : (t.mergeLane l).gate = (s.mergeLane l).gate
  lanes : t.sales.lanes = s.sales.lanes
  order : ∀ k, (s.order k).state ≠ .queued → t.order k = s.order k

section
variable {s : State} {l : Nat} (hl : l < s.merge.lanes.length)
include hl

theorem stageOnBinding_stages : StagedOnBinding s (s.stageOnBinding l) l := by
  have frame := stageOnBinding_frame s l
  unfold State.stageOnBinding at frame ⊢
  split
  next eye =>
    rw [if_pos eye] at frame
    split
    next head =>
      rw [head] at frame
      have lane : (s.markUnpaid l).mergeLane l = { s.mergeLane l with unpaid := true } := mergeLane_setMergeLane _ hl
      exact ⟨frame, rfl, rfl, rfl, (congrArg LaneMerge.gate lane).trans rfl, rfl, fun _ _ => rfl⟩
    next q head =>
      rw [head] at frame
      dsimp only at frame
      split
      next queued =>
        rw [if_pos queued, stage_eq] at frame
        rw [stage_eq]
        have lane : ((s.setOrder q { s.order q with state := .staged }).setMergeLane l
            { s.mergeLane l with unpaid := false }).mergeLane l = { s.mergeLane l with unpaid := false } :=
          mergeLane_setMergeLane _ hl
        refine ⟨frame, rfl, rfl, rfl, (congrArg LaneMerge.gate lane).trans rfl, rfl, fun k hk => order_setOrder_ne s _ fun hkq => ?_⟩
        subst hkq
        exact hk queued
      next => exact ⟨.refl, rfl, rfl, rfl, rfl, rfl, fun _ _ => rfl⟩
  next => exact ⟨.refl, rfl, rfl, rfl, rfl, rfl, fun _ _ => rfl⟩

/-- With nobody behind, the lane's next vehicle is unpaid. -/
theorem stageOnBinding_empty (eye : (s.mergeLane l).eye = true) (head : s.headOrder l = none) (notices : s.mgmt.notices.length = 8) :
    ((s.stageOnBinding l).mergeLane l).unpaid = true ∧
    Noticed .sales { reason 1 with place := some l } (s.stageOnBinding l) := by
  have marked : s.stageOnBinding l = s.markUnpaid l := by
    unfold State.stageOnBinding
    rw [if_pos eye, head]
  have lane : (s.markUnpaid l).mergeLane l = { s.mergeLane l with unpaid := true } := mergeLane_setMergeLane _ hl
  rw [marked]
  exact ⟨congrArg LaneMerge.unpaid lane, notify_noticed _ .sales _ notices⟩

/-- A QUEUED order behind is staged. -/
theorem stageOnBinding_queued {q : Nat} (eye : (s.mergeLane l).eye = true) (head : s.headOrder l = some q)
    (queued : (s.order q).state = .queued) (hq : q < s.sales.orders.length) :
    (s.stageOnBinding l).order q = { s.order q with state := .staged } ∧ ((s.stageOnBinding l).mergeLane l).unpaid = false := by
  have staged : s.stageOnBinding l = s.stage l q := by
    unfold State.stageOnBinding
    rw [if_pos eye, head]
    exact if_pos queued
  have lane : ((s.setOrder q { s.order q with state := .staged }).setMergeLane l
      { s.mergeLane l with unpaid := false }).mergeLane l = { s.mergeLane l with unpaid := false } := mergeLane_setMergeLane _ hl
  rw [staged, stage_eq]
  exact ⟨order_setOrder _ hq, congrArg LaneMerge.unpaid lane⟩

end

/-! ## A bound car (R111) -/

section
variable {s : State} {l r : Nat}

theorem bound_frame (s : State) (l r : Nat) : SameExcept [.track, .sales, .portF, .mgmt, .merge] s (s.bound l r) :=
  (((setTrack_frame ..).within (by decide)).trans ((setSales_frame ..).within (by decide))).trans
    (((dequeue_frame ..).within (by decide)).trans ((endGrant_frame ..).within (by decide)))

theorem bound_order (hr : r < s.sales.orders.length) : (s.bound l r).order r = s.boundRecord r :=
  (order_of_sales (bound_sales s l r) r).trans (order_setOrder _ hr)

theorem bound_order_ne {q : Nat} (h : q ≠ r) : (s.bound l r).order q = s.order q :=
  (order_of_sales (bound_sales s l r) q).trans (order_setOrder_ne s _ h)

theorem bound_queue (hl : l < s.sales.lanes.length) : ((s.bound l r).lane l).queue = (s.lane l).queue.erase r :=
  congrArg LaneSales.queue ((lane_of_sales (bound_sales s l r) l).trans (lane_setLane _ hl))

theorem bound_merge (s : State) (l r : Nat) :
    (s.bound l r).merge = Merge.withGate { s.merge with grant := none, admitTimer := none } l .closing := endGrant_merge ..

theorem bound_mergeLane (hl : l < s.merge.lanes.length) : (s.bound l r).mergeLane l = { s.mergeLane l with gate := .closing } := by
  rw [State.mergeLane, bound_merge]
  exact withGate_lane _ hl

theorem bound_orderly (s : State) (l r : Nat) : Orderly s (s.bound l r) :=
  (((insertCar_orderly ..).trans (setOrder_orderly ..)).trans (dequeue_orderly ..)).trans (endGrant_orderly ..)

theorem bound_portF (s : State) (l r : Nat) : (s.bound l r).portF = (s.toField (s.gateAddr l) 0x32 [2]).portF :=
  toField_portF s (((((s.insertCar (s.newCar r)).setOrder r (s.boundRecord r)).dequeue l r).setMerge
    { s.merge with grant := none, admitTimer := none })) (s.gateAddr l) 0x32 [2] rfl

end

/-- What the creation of a bound car does to the unit, before the arbiter is evaluated. -/
structure BoundMade (s w : State) (l r : Nat) : Prop where
  raised : w.raised = s.raised
  cars : w.track.cars = s.track.cars ++ [s.newCar r]
  carTag : w.track.carTag = s.nextCarTag
  order : w.order r = s.boundRecord r
  queue : (w.lane l).queue = (s.lane l).queue.tail
  grant : w.merge.grant = none
  admitTimer : w.merge.admitTimer = none
  entryBlocked : w.merge.entryBlocked = s.merge.entryBlocked
  gate : (w.mergeLane l).gate = .closing
  portF : w.portF = (s.toField (s.gateAddr l) 0x32 [2]).portF
  unpaid : (s.mergeLane l).eye = true → (s.lane l).queue = [r] →
    (w.mergeLane l).unpaid = true ∧ Noticed .sales { reason 1 with place := some l } w
  staged : ∀ q rest, (s.mergeLane l).eye = true → (s.lane l).queue = r :: q :: rest → q ≠ r → q < 40 →
    (s.order q).state = .queued → w.order q = { s.order q with state := .staged } ∧ (w.mergeLane l).unpaid = false

theorem erase_head {l : List Nat} {r : Nat} (h : l.head? = some r) : l.erase r = l.tail := by
  obtain ⟨rest, rfl⟩ := List.head?_eq_some_iff.mp h
  exact List.erase_cons_head r rest

theorem bound_makes {s : State} {l r : Nat} (shape : Shape s) (hl : l < 3) (head : s.headOrder l = some r) (hr : r < 40) :
    BoundMade s ((s.bound l r).stageOnBinding l) l r := by
  have lane : l < s.merge.lanes.length := by rw [shape.merge]; exact hl
  have place : l < s.sales.lanes.length := by rw [shape.lanes]; exact hl
  have record : r < s.sales.orders.length := by rw [shape.orders]; exact hr
  have after : Shape (s.bound l r) := (bound_orderly s l r).shape shape
  have boundLane := bound_mergeLane (r := r) lane
  have queue : ((s.bound l r).lane l).queue = (s.lane l).queue.tail := (bound_queue place).trans (erase_head head)
  have next : (s.bound l r).headOrder l = (s.lane l).queue.tail.head? := congrArg List.head? queue
  have lane' : l < (s.bound l r).merge.lanes.length := by rw [after.merge]; exact hl
  have staged := stageOnBinding_stages lane'
  have merge := bound_merge s l r
  have track : ((s.bound l r).stageOnBinding l).track = (s.bound l r).track := staged.frame.same .track (by decide)
  have eye (h : (s.mergeLane l).eye = true) : ((s.bound l r).mergeLane l).eye = true := (congrArg LaneMerge.eye boundLane).trans h
  refine ⟨(staged.frame.same .raised (by decide)).trans ((bound_frame s l r).same .raised (by decide)),
    (congrArg Track.cars track).trans (bound_cars s l r), ?_, ?_, ?_, staged.grant.trans (congrArg Merge.grant merge),
    staged.admitTimer.trans (congrArg Merge.admitTimer merge), staged.entryBlocked.trans ((congrArg Merge.entryBlocked merge).trans rfl),
    staged.gate.trans (congrArg LaneMerge.gate boundLane), (staged.frame.same .portF (by decide)).trans (bound_portF s l r),
    fun blocked one => ?_, fun q rest blocked more other hq queued => ?_⟩
  · exact (congrArg Track.carTag track).trans (congrArg Track.carTag ((endGrant_frame ..).same .track (by decide)))
  · have own := bound_order (l := l) record
    exact (staged.order r (by rw [own]; exact (fun h => nomatch h))).trans own
  · have same : ((s.bound l r).stageOnBinding l).lane l = (s.bound l r).lane l := by rw [State.lane, staged.lanes]; rfl
    exact (congrArg LaneSales.queue same).trans queue
  · exact stageOnBinding_empty lane' (eye blocked) (by rw [next, one]; rfl) after.notices
  · have same : (s.bound l r).order q = s.order q := bound_order_ne other
    have staged := stageOnBinding_queued lane' (eye blocked) (by rw [next, more]; rfl) (by rw [same]; exact queued)
      (by rw [after.orders]; exact hq)
    rwa [same] at staged

/-! ## The front edge judged (R113, R114) -/

/-- The rear of a tail car stands too near the entry, an unknown rear counting as at 0. -/
def State.isClose (s : State) (d : Car) : Prop := ∀ n, d.length = some n → d.front < s.param .collisionGap + n

theorem tooClose_iff {s : State} {d : Car} : s.tooClose d = true ↔ s.isClose d := by
  unfold State.tooClose State.isClose Car.rear
  cases d.length with
  | none => exact iff_of_true rfl fun _ h => nomatch h
  | some n =>
    refine (decide_eq_true_iff (p := (d.front : Int) - (n : Int) < (s.param .collisionGap : Int))).trans ⟨fun h m hm => ?_, fun h => ?_⟩
    · obtain rfl := Option.some.inj hm
      omega
    · have near := h n rfl
      omega

/-- The causes raised by a front edge that a car record is made for. -/
def State.crushed (s : State) (src : Nat) (raised : List (CauseKind × CauseDetail)) : Prop :=
  (∀ d, s.tailCar = some d → s.isClose d →
    raised = s.raised ++ [(.entryCrush, { CauseDetail.empty with node := some src, car := some d.tag })]) ∧
  ((∀ d, s.tailCar = some d → ¬s.isClose d) → raised = s.raised)

section
variable {s : State} (src : Nat)

theorem frontEdge_full (full : 16 ≤ s.track.cars.length) : s.frontEdge src =
    (s.raiseCause .overfill { CauseDetail.empty with node := some src }).notify .track (reason 2) := if_pos full

theorem frontEdge_blocked (room : s.track.cars.length < 16) {d : Car} (tail : s.tailCar = some d) (front : d.front = 0) :
    s.frontEdge src = s.raiseCause .entryCrush { CauseDetail.empty with node := some src, car := some d.tag } := by
  refine (if_neg (Nat.not_le.mpr room)).trans ?_
  rw [tail]
  exact if_pos front

/-- A car record is made, after ENTRY_CRUSH for a tail too near. -/
theorem frontEdge_creates (room : s.track.cars.length < 16) (front : ∀ d, s.tailCar = some d → d.front ≠ 0) :
    ∃ raised, s.crushed src raised ∧ s.frontEdge src = (s.setRaised raised).createCar := by
  have judged : s.frontEdge src = match s.tailCar with
      | none => s.createCar
      | some c =>
        if c.front = 0 then s.entryCrush src c
        else if s.tooClose c then (s.entryCrush src c).createCar
        else s.createCar := if_neg (Nat.not_le.mpr room)
  rw [judged]
  unfold State.crushed
  cases htail : s.tailCar with
  | none => exact ⟨s.raised, ⟨fun _ h => (nomatch h), fun _ => rfl⟩, rfl⟩
  | some d =>
    dsimp only
    rw [if_neg (front d htail)]
    by_cases close : s.tooClose d = true
    · refine ⟨_, ⟨fun e he _ => ?_, fun h => absurd (tooClose_iff.mp close) (h d rfl)⟩, if_pos close⟩
      obtain rfl := Option.some.inj he
      rfl
    · refine ⟨s.raised, ⟨fun e he near => ?_, fun _ => rfl⟩, if_neg close⟩
      obtain rfl := Option.some.inj he
      exact absurd (tooClose_iff.mpr near) close

end

theorem createCar_unannounced {s : State} (h : s.merge.grant = none ∨ ∃ g, s.merge.grant = some g ∧ s.headOrder g.lane = none) :
    s.createCar = s.unannouncedCar := by
  unfold State.createCar State.grantedOrder
  obtain h | ⟨g, grant, head⟩ := h
  · rw [h]
  · rw [grant, Option.bind_some, head]

theorem createCar_bound {s : State} {g : Grant} {r : Nat} (grant : s.merge.grant = some g) (head : s.headOrder g.lane = some r) :
    s.createCar = ((s.bound g.lane r).stageOnBinding g.lane).review := by
  unfold State.createCar State.grantedOrder
  rw [grant, Option.bind_some, head]
  rfl

theorem haltedMode_eq (m : Mode) : haltedMode m = decide (m = .halting ∨ m = .halted ∨ m = .recovering) := by
  cases m <;> rfl

/-- The state with the entry eye's BLOCKED edge recorded. -/
def State.edged (s : State) (src : Nat) : State :=
  (s.without (.entryEyeBlocked src)).setMerge { s.merge with entryBlocked := true }

theorem exec_entryEyeBlocked {src : Nat} {s : State} (h : Taken (.entryEyeBlocked src) s) : exec (.entryEyeBlocked src) s = .next (
    let u := s.without (.entryEyeBlocked src)
    if s.merge.entryBlocked then u.notifyTrack 3 none none
    else
      if s.halt.mode = .offline then (s.edged src).notifyTrack 4 none none else (s.edged src).frontEdge src) := (taking_eq _ h rfl).trans rfl

/-- Settles O32: the record made is `State.createCar`'s, whatever the causes raised before it. -/
theorem frontEdgeCreatesACar : Obligations.FrontEdgeCreatesACar := by
  intro src s shape taken
  have hexec := exec_entryEyeBlocked taken
  dsimp only at hexec ⊢
  rw [← haltedMode_eq]
  refine ⟨fun repeated => hexec.trans (congrArg _ (if_pos repeated)), fun first offline => ?_, fun first mode => ?_⟩
  · exact hexec.trans (congrArg _ ((if_neg (by rw [first]; decide)).trans (if_pos offline)))
  · have judged := hexec.trans (congrArg _ ((if_neg (by rw [first]; decide)).trans (if_neg mode)))
    have after : Shape (s.edged src) := { shape with }
    refine ⟨fun full => ?_, fun room d hd front => ?_, fun room front => ?_⟩
    · exact judged.trans (congrArg _ (frontEdge_full (s := s.edged src) src full))
    · exact judged.trans (congrArg _ (frontEdge_blocked (s := s.edged src) src room hd front))
    · obtain ⟨raised, crushed, creates⟩ := frontEdge_creates (s := s.edged src) src room front
      rw [creates] at judged
      have shaped : Shape ((s.edged src).setRaised raised) := { after with }
      refine ⟨fun unbound => ?_, fun g r grant hl head hr => ?_⟩
      · rw [createCar_unannounced (s := (s.edged src).setRaised raised) unbound] at judged
        have made := unannouncedCar_makes shaped.notices
        exact ⟨_, judged, made.frame.same .sales (by decide), (made.frame.same .raised (by decide)).symm ▸ crushed, made.cars,
          made.carTag, made.frame.same .merge (by decide), made.noticed, made.start⟩
      · rw [createCar_bound (s := (s.edged src).setRaised raised) grant head] at judged
        have made := bound_makes shaped hl head hr
        have sent := toField_portF s ((s.edged src).setRaised raised) (s.gateAddr g.lane) 0x32 [2] rfl
        exact ⟨_, judged, made.raised.symm ▸ crushed, made.cars, made.carTag, made.order, made.queue, made.grant, made.admitTimer,
          made.entryBlocked, made.gate, made.portF.trans sent, made.unpaid, made.staged⟩

end Sys2Proof.Machine
end
